-- ==== Sys2Proof/Word.lean ====
section
/-!
DEFINITION. The word types of the RZM-4410 and their plainest arithmetic: bytes, 32-bit registers, the byte orders of
R9 and the bit numbering of R8.
-/

namespace Sys2Proof

/-- One byte (R8: bit 0 is the least significant bit). -/
abbrev Byte := BitVec 8

/-- A 32-bit register word (R91). -/
abbrev Word := BitVec 32

/-- A 64-bit word. -/
abbrev Word64 := BitVec 64

/-- A string of bytes, first byte first. -/
abbrev Bytes := List Byte

/-- The low `n` bytes of `v`, least significant first (R9: registers and host memory). -/
def leBytes : Nat → Nat → Bytes
  | 0, _ => []
  | n + 1, v => BitVec.ofNat 8 v :: leBytes n (v / 256)

/-- The low `n` bytes of `v`, most significant first (R9: Chartroom messages and network frames). -/
def beBytes (n v : Nat) : Bytes := (leBytes n v).reverse

/-- The number that little-endian bytes spell. -/
def ofLe : Bytes → Nat
  | [] => 0
  | b :: bs => b.toNat + 256 * ofLe bs

/-- The number that big-endian bytes spell. -/
def ofBe (bs : Bytes) : Nat := ofLe bs.reverse

/-- `len` bytes of `bs` from `off`, fewer where `bs` ends. -/
def slice (off len : Nat) (bs : Bytes) : Bytes := (bs.drop off).take len

/-- The big-endian number in `len` bytes of `bs` at `off`. -/
def be (off len : Nat) (bs : Bytes) : Nat := ofBe (slice off len bs)

/-- The little-endian number in `len` bytes of `bs` at `off`. -/
def le (off len : Nat) (bs : Bytes) : Nat := ofLe (slice off len bs)

/-- `bs` padded with zero bytes to `n` bytes. -/
def padTo (n : Nat) (bs : Bytes) : Bytes := bs ++ List.replicate (n - bs.length) 0

/-- Bits `hi` down to `lo` of `v` (R8). -/
def bits (hi lo v : Nat) : Nat := v / 2 ^ lo % 2 ^ (hi + 1 - lo)

/-- Bit `i` of `v`. -/
def bit (i v : Nat) : Bool := v.testBit i

/-- `v` with bit `i` set. -/
def setBit (i v : Nat) : Nat := v ||| 2 ^ i

/-- `v` with bit `i` cleared. -/
def clearBit (i v : Nat) : Nat := if v.testBit i then v - 2 ^ i else v

/-- `v` with bit `i` made `b`. -/
def putBit (i : Nat) (b : Bool) (v : Nat) : Nat := if b then setBit i v else clearBit i v

/-- 1 for true, 0 for false. -/
def b2n (b : Bool) : Nat := if b then 1 else 0

/-- `v` as a two's complement number of `w` bits. -/
def toSigned (w v : Nat) : Int := if v % 2 ^ w < 2 ^ (w - 1) then (v % 2 ^ w : Nat) else (v % 2 ^ w : Nat) - (2 ^ w : Nat)

/-- The `w`-bit two's complement pattern of `i`. -/
def ofSigned (w : Nat) (i : Int) : Nat := (i % (2 ^ w : Nat)).toNat

/-- `i` saturated to a two's complement number of `w` bits, as its pattern. -/
def satSigned (w : Nat) (i : Int) : Nat :=
  ofSigned w (max (-(2 ^ (w - 1) : Nat) : Int) (min ((2 ^ (w - 1) : Nat) - 1) i))

/-- Division rounded up. -/
def cdiv (a b : Nat) : Nat := (a + b - 1) / b

/-- `v` held between `lo` and `hi`. -/
def clampN (lo hi v : Nat) : Nat := max lo (min hi v)

/-- How many bits of the `w` low bits of `v` are 1. -/
def popCount : Nat → Nat → Nat
  | 0, _ => 0
  | w + 1, v => v % 2 + popCount w (v / 2)

end Sys2Proof
end

