-- ==== Sys2Proof/Syntax.lean ====
section
/-!
DEFINITION. The commands of the module as data: one constructor per row of spec/opcode_table.json. A command carries
what its happening brings from outside: an access, a message, a frame, an instant. Instants `t` are MONO, in units of
1/9 ns (R144; log entry 2).
-/

namespace Sys2Proof

/-- A register access of a host link: BAR 0 or 2 of function 0, or 11 and 12 for BAR0 of functions 1 and 2; offset, size in
bytes (R88, R91, R115). Link 0 is host A, 1 host B. -/
structure Access where
  link : Nat
  bar : Nat
  off : Nat
  size : Nat
  deriving DecidableEq, Repr

/-- A Chartroom message as its datagram carries it (R66–R68). -/
structure Msg where
  /-- arrival, MONO -/
  t : Nat
  /-- source IP address -/
  ip : Nat
  /-- false: port M; true: a switched port, with the VLAN (0 untagged) and traffic class it came in -/
  switched : Bool
  vlan : Nat
  cls : Nat
  /-- UDP payload length, and whether the datagram was an IP fragment -/
  size : Nat
  fragment : Bool
  session : Nat
  seq : Nat
  fleet : Nat
  any : Bool
  /-- BODY: cleartext in HELLO, ciphertext with its tag at the end otherwise -/
  body : Bytes
  deriving DecidableEq, Repr

/-- Who made a request: a Chartroom session, a manager mailbox (by link), a slice mailbox, or a command block. -/
inductive Requester where
  | session (id : Nat)
  | manager (link : Nat)
  | slice (s : Nat)
  | block (link : Nat)
  | wheelhouse
  deriving DecidableEq, Repr

/-- A block, or a unit of one, that Sounding tests and that start-up may fence (R534, R577). -/
inductive Blk where
  | tile (t : Nat)
  | quad (q : Nat)
  | scanCore (c : Nat)
  | portGroup (g : Nat)
  | port (p : Nat)
  | hostIf
  | adc
  | ocxo
  | switchCore
  | packetBuffer
  | dram
  | ingest
  | sextant
  | binnacle
  deriving DecidableEq, Repr

/-- A memory with ECC, with what its struck word belongs to (R569, R575): a tile's memory of R289 with the instance or the
TYPE_ID; scan memory under a core (part 1 code or working half, 2 committed half, of a slice); the packet buffer with the
frame; the history of a filter slot; capture staging with the number of items struck; a sample; a far fix, the newest or
the older; an interval of a signal journal by its frame; other DRAM. -/
inductive EccMem where
  | tile (t m : Nat) (owner : Option Nat)
  | scan (core : Nat) (sl part : Nat)
  | packet (frame : Option Nat)
  | history (c : Nat)
  | staging (k n : Nat)
  | sample (k a : Nat)
  | farFix (i : Nat) (newest : Bool)
  | journal (i frame : Nat)
  | dram
  deriving DecidableEq, Repr

/-- An error that a scrub or a march test finds in a word (R575, R576): its word address, the failing data and check bits,
and whether it is uncorrectable. -/
structure EccHit where
  mem : EccMem
  word : Nat
  bits : Nat
  check : Nat
  bad : Bool
  deriving DecidableEq, Repr

/-- A failure that start-up Sounding finds (R534): a word of a memory, or a block with the KIND of R580. -/
inductive BootFail where
  | word (h : EccHit)
  | blk (b : Blk) (kind : Nat)
  deriving DecidableEq, Repr


/-- The commands of the module, one constructor per row of the opcode table, in its order. -/
inductive Instr where
  /-- REGISTER_WRITE (R13): A host or dictionary write to a register field that has no row of its own takes effect at once or is buffered for its boundary, with the access checks. -/
  | registerWrite (a : Access) (v : Nat)
  /-- RC_COUNTER_READ (R102): A read of an RC counter returns its value and clears it, keeping a same-cycle increment. -/
  | rcCounterRead (a : Access)
  /-- COUNTER64_READ (R176): A read of a 64-bit counter's _LO register returns [31:0], latches [63:32] into _HI and clears the counter. -/
  | counter64Read (a : Access)
  /-- XACC_TIMEOUT (R98): A native access to an island in reset ends after 10 µs, dropping the write or returning 0xFFFFFFFF. -/
  | xaccTimeout (a : Access) (read : Bool)
  /-- COMPAT_WRITE (R99): A write to COMPAT_A or COMPAT_B records the requested RZM-3200 mode for its link. -/
  | compatWrite (a : Access) (v : Nat)
  /-- COMPAT_MODE_SWITCH (R99): At the Link idle boundary after the queue drains, the link switches between native and RZM-3200 mode. -/
  | compatModeSwitch (link : Nat)
  /-- POSTED_WRITE_LAND (R99): A posted write lands at its island and BUSY of the link clears. -/
  | postedWriteLand (link : Nat)
  /-- CFG_HOLD_WRITE (R95): A write to EVT_CFG_HOLD stops or resumes the application of buffered writes of the blocks. -/
  | cfgHoldWrite (a : Access) (v : Nat)
  /-- CFG_REF_WRITE (R107): A write to EVT_CFG_REF[b] is buffered to apply with the block's buffered configuration writes or at the next Window boundary. -/
  | cfgRefWrite (a : Access) (v : Nat)
  /-- CFG_CHECK_PASS (R108): The checker completes a pass over a block, stores EVT_CFG_LIVE and compares it with the reference, raising mismatch or match events. -/
  | cfgCheckPass (b : Nat)
  /-- EVENT_PEND_CLEAR (R112): Software writes 1 to PEND of a device source, clearing PEND, DELIV and LOST. -/
  | eventPendClear (n : Nat) (event : Option (Nat × Nat))
  /-- EVENT_MASK_WRITE (R117): A write to MASK of a device source clears or sets it, sending a waiting message when cleared while pending. -/
  | eventMaskWrite (n : Nat) (mask : Bool)
  /-- MSIX_UNMASK (R117): The host unmasks an MSI-X entry or function and the module sends the message held in the pending bit array. -/
  | msixUnmask (link : Nat) (fn : Nat) (entry : Option Nat)
  /-- SLC_VEC_MASK_WRITE (R120): A write to SLC_VEC_MASK masks or unmasks slice vectors, sending waiting messages of pending vectors. -/
  | slcVecMaskWrite (a : Access) (v : Nat)
  /-- SLC_VEC_PEND_CLEAR (R120): Software clears bits of SLC_VEC_PEND, with a same-cycle hardware set winning. -/
  | slcVecPendClear (a : Access) (v : Nat) (sets : Nat)
  /-- ACCOUNTING_WINDOW (R93): A 125 µs accounting window boundary arrives and the blocks act on their Window boundary work. -/
  | accountingWindow
  /-- PRICKING_FRAME_BOUNDARY (R144): A 1/14,400 s pricking frame boundary arrives and the islands act on their frame work. -/
  | prickingFrameBoundary
  /-- HYPERPERIOD_BOUNDARY (R144): A 1/1,200 s hyperperiod boundary arrives and Hyper-boundary changes apply. -/
  | hyperperiodBoundary
  /-- SAMPLE_BOUNDARY (R93): The next nominal sample time of a stream passes and Sample-boundary writes of that stream apply. -/
  | sampleBoundary (k : Nat)
  /-- XING_WAIT_EXPIRY (R25): A source that has waited 10 µs for a destination island in reset discards the item and counts PWR_XING_ABORT. -/
  | xingWaitExpiry (src : Nat) (dst : Nat)
  /-- QUAD_CLOCK_APPLY (R24): A new quad clock is applied at a hyperperiod boundary once all outbound crossings of the quad are idle. -/
  | quadClockApply (q : Nat)
  /-- HELLO (R69): A Chartroom HELLO arrives and the module starts a handshake, refuses it for the session limit, or drops it. -/
  | hello (m : Msg)
  /-- HELLO_REPLY (R76): The Binnacle finishes the ECDH and signature and the module sends the HELLO_REPLY. -/
  | helloReply (id : Nat) (t : Nat)
  /-- AUTH (R75): An AUTH message arrives and the module checks the user signature and role, replying OK or AUTH_FAILED. -/
  | auth (m : Msg)
  /-- AUTH_TIMEOUT (R76): No AUTH has arrived 5 s after the HELLO_REPLY and the module closes the session. -/
  | authTimeout (id : Nat)
  /-- AUTH_BLOCK_EXPIRY (R75): The 60 s during which HELLOs from a failing source address are ignored ends. -/
  | authBlockExpiry (ip : Nat)
  /-- DATA (R78): A Chartroom DATA message arrives, is authenticated and replay-checked, and its one operation is queued for Wheelhouse. -/
  | data (m : Msg)
  /-- CLOSE (R68): A Chartroom CLOSE ends the session, discarding its open transaction and dropping unacknowledged NOTIFYs. -/
  | close (m : Msg)
  /-- SESSION_IDLE_TIMEOUT (R76): No valid client message has arrived for the idle timeout and the module closes the session. -/
  | sessionIdleTimeout (id : Nat)
  /-- WHEELHOUSE_SERVE_REQUEST (R83): Wheelhouse takes the next request from its single queue of sessions and mailboxes and serves it. -/
  | wheelhouseServeRequest
  /-- READ (R78): A READ operation returns the type, length and value of an object in force. -/
  | read (src : Requester) (reqId : Nat) (body : Bytes)
  /-- WRITE (R53): A WRITE operation checks rights and type, clamps the value, applies or stages it and reports the applied value. -/
  | write (src : Requester) (reqId : Nat) (body : Bytes)
  /-- BLOCK_READ (R79): A BLOCK_READ returns bytes of a DOMAIN object at an offset. -/
  | blockRead (src : Requester) (reqId : Nat) (body : Bytes)
  /-- BLOCK_WRITE (R79): A BLOCK_WRITE writes bytes of a DOMAIN object at an offset, claiming the domain for the requester. -/
  | blockWrite (src : Requester) (reqId : Nat) (body : Bytes)
  /-- EXECUTE (R62): An EXECUTE on a command object starts the command and returns its handle. -/
  | execute (src : Requester) (reqId : Nat) (body : Bytes)
  /-- TXN_OPEN (R57): TXN_OPEN opens a module-scope or slice-scope transaction for the requester. -/
  | txnOpen (src : Requester) (reqId : Nat) (body : Bytes)
  /-- TXN_COMMIT (R641): TXN_COMMIT clamps the staged writes, hands them to their blocks and returns a handle that completes with the configuration CRC. -/
  | txnCommit (src : Requester) (reqId : Nat) (body : Bytes)
  /-- TXN_ABORT (R61): TXN_ABORT discards the requester's open transaction without changing any object. -/
  | txnAbort (src : Requester) (reqId : Nat) (body : Bytes)
  /-- TXN_TIMEOUT (R61): A transaction discarded 30 s after the owner's last message, counting 0x020103.01 and raising source 122. -/
  | txnTimeout (src : Requester)
  /-- SUBSCRIBE (R80): SUBSCRIBE sets the event sources and completion notifications of the session. -/
  | subscribe (id : Nat) (reqId : Nat) (body : Bytes)
  /-- ACK (R80): An ACK with a NOTE_ID stops the resending of that NOTIFY. -/
  | ack (id : Nat) (note : Nat)
  /-- NOTIFY_RESEND (R80): Every 100 ms an unacknowledged NOTIFY is resent, and after 5 resends it is dropped and counted. -/
  | notifyResend (id : Nat) (note : Nat)
  /-- KEEPALIVE (R76): A KEEPALIVE keeps the session from its idle timeout. -/
  | keepalive (id : Nat) (reqId : Nat) (body : Bytes)
  /-- MBX_GO (R86): Setting GO submits the mailbox request, or drops it under OVERRUN while BUSY. -/
  | mbxGo (m : Requester) (abort : Bool)
  /-- MBX_ABORT (R86): Setting ABORT withdraws a mailbox request not yet taken, completing it with ABORTED. -/
  | mbxAbort (m : Requester)
  /-- MBX_RESPONSE (R87): Wheelhouse writes the mailbox response, sets DONE and raises the manager source or slice vector 31. -/
  | mbxResponse
  /-- TIME_LATCH_READ (R146): A read of STX_TIME_SEC_LO latches the whole Sextant time for the following reads. -/
  | timeLatchRead (a : Access)
  /-- STEP_NOW (R146): STEP_NOW requests that a pending jump be stepped out at the next hyperperiod boundary, or clears at once without a pending jump. -/
  | stepNow
  /-- SET_TIME (R143): SET_TIME applies the set time as a step in FREERUN or PPS, or is ignored and counted otherwise. -/
  | setTime
  /-- SYNC_RX (R131): A PTP Sync arrives: it is corrected and forwarded as a transparent clock and, from the selected master, feeds the servo. -/
  | syncRx (p : Nat) (t : Nat) (bytes : Bytes)
  /-- FOLLOW_UP_RX (R132): A Follow_Up arrives and is matched to its pending Sync record, corrected and forwarded. -/
  | followUpRx (p : Nat) (t : Nat) (bytes : Bytes)
  /-- ANNOUNCE_RX (R128): A PTP Announce arrives and feeds the best master clock algorithm and the UTC offset. -/
  | announceRx (p : Nat) (t : Nat) (bytes : Bytes)
  /-- PDELAY_REQ_RX (R131): A Pdelay_Req arrives and the module answers with a one-step Pdelay_Resp. -/
  | pdelayReqRx (p : Nat) (t : Nat) (bytes : Bytes)
  /-- PDELAY_RESP_RX (R134): A Pdelay_Resp arrives and updates the meanLinkDelay of the port. -/
  | pdelayRespRx (p : Nat) (t : Nat) (bytes : Bytes)
  /-- PDELAY_REQ_SEND (R134): Each second a PTP port sends Pdelay_Req and marks its link delay invalid after 3 unanswered requests. -/
  | pdelayReqSend (p : Nat) (t : Nat)
  /-- SYNC_RECORD_EXPIRY (R132): A pending Sync record older than 1 s is discarded and counted in STX_TC_NOMATCH. -/
  | syncRecordExpiry
  /-- MASTER_LOSS_TIMEOUT (R137): No Announce for 3 intervals or no Sync for 3 s from the master; the Sextant enters dead reckoning. -/
  | masterLossTimeout
  /-- MASTER_SEND (R137): As selected backup master the module sends its Announce and Sync messages each interval. -/
  | masterSend (t : Nat)
  /-- HOLDOVER_EXPIRED (R135): Dead reckoning has lasted STX_HOLD_LIMIT and the Sextant enters HOLDOVER_EXPIRED. -/
  | holdoverExpired
  /-- STEP_APPLY (R140): A step of Sextant time is applied at a hyperperiod boundary in all islands, opening a gap in the frames. -/
  | stepApply
  /-- SLEW_DONE (R139): A slew brings the offset within 100 ns and the Sextant enters ACQUIRING. -/
  | slewDone
  /-- LEAP_SECOND_APPLY (R123): At the end of the UTC day a leap59 or leap61 change of the UTC offset is applied. -/
  | leapSecondApply
  /-- PPS_IN_EDGE (R141): A PPS_IN edge is measured, accepted or refused, and may bring the Sextant into PPS. -/
  | ppsInEdge (t : Nat)
  /-- PPS_IN_LOST (R141): No PPS_IN edge for 2 s clears PPS_OK and enters DEAD_RECKONING. -/
  | ppsInLost
  /-- PPS_OUT_PULSE (R142): At each whole second PPS_OUT rises and it falls after STX_PPS_OUT_W ms. -/
  | ppsOutPulse
  /-- PORT_FRAME_RX (R154): A frame is received on an external port, length and FCS checked, stamped and passed to the switch core. -/
  | portFrameRx (p : Nat) (t : Nat) (bytes : Bytes) (fcsOk : Bool)
  /-- PAUSE_RX (R161): A MAC control frame arrives; a PAUSE is honoured or reloads the pause, other opcodes are discarded. -/
  | pauseRx (p : Nat) (t : Nat) (bytes : Bytes)
  /-- PAUSE_EXPIRY (R162): The pause time of a received PAUSE runs out and paused classes resume. -/
  | pauseExpiry (p : Nat)
  /-- PAUSE_REFRESH (R165): While flow control holds the port resends PAUSE every PAUSE_REFRESH quanta. -/
  | pauseRefresh (p : Nat)
  /-- SGMII_CONTROL_WORD (R642): An SGMII control word arrives and sets link, speed and duplex of the port. -/
  | sgmiiControlWord (p : Nat) (up : Bool) (speed : Nat) (full : Bool)
  /-- LINK_UP (R642): A port's link comes up and its LINK_STABLE interval starts. -/
  | linkUp (p : Nat) (fec : Nat)
  /-- LINK_DOWN (R166): A port's link is lost; FWD clears, classes 5–7 are dropped, classes 0–4 held, and flapping is counted. -/
  | linkDown (p : Nat)
  /-- FORWARDING (R166): The link has stayed up for LINK_STABLE and FWD becomes 1, sending held frames. -/
  | forwarding (p : Nat)
  /-- HELD_FRAME_EXPIRY (R167): A held class 0–4 frame reaches DOWN_HOLD and is dropped. -/
  | heldFrameExpiry (p : Nat)
  /-- FLAP_HOLD_EXPIRY (R168): The FLAP_HOLD of a suppressed port ends and the LINK_STABLE rule applies again. -/
  | flapHoldExpiry (p : Nat)
  /-- COLLISION (R158): A collision on a half-duplex port starts backoff, or discards the frame as late or excessive. -/
  | collision (p : Nat) (t : Nat)
  /-- BACKOFF_EXPIRY (R158): The backoff time after a collision ends and the frame is retried. -/
  | backoffExpiry (p : Nat)
  /-- QUARANTINE_EXPIRY (R159): The 1 s quarantine of a half-duplex port ends and the port resumes. -/
  | quarantineExpiry (p : Nat)
  /-- LP_REQ_WRITE (R170): A write of LP_REQ powers a port down, wakes its group, or is held for a port with admitted traffic. -/
  | lpReqWrite (p : Nat) (v : Bool)
  /-- PAUSE_IMMUNE_WRITE (R164): A write to PAUSE_IMMUNE is applied, keeping bits of admitted classes at 1. -/
  | pauseImmuneWrite (p : Nat) (v : Nat)
  /-- LANE_MODE_WRITE (R176): A write of LANE_MODE or SPEED is applied at the frame boundary taking the link down, or held while admitted traffic uses the port. -/
  | laneModeWrite (p : Nat) (lane : Nat) (speed : Nat)
  /-- MAX_FRAME_WRITE (R384): A write of MAX_FRAME is applied only up to the value that keeps admitted bounds. -/
  | maxFrameWrite (p : Nat) (v : Nat)
  /-- GROUP_POWER_OFF (R169): Every port of a group is in low power or disabled and the group's domain switches off. -/
  | groupPowerOff (g : Nat)
  /-- WAKE_PATTERN (R171): A wake-pattern detector recognises activity, clears LP_REQ and starts the group's power-up. -/
  | wakePattern (p : Nat) (lpWrite : Bool)
  /-- GROUP_POWER_UP (R171): A waking port group's domain is running and the port brings up its link. -/
  | groupPowerUp (g : Nat)
  /-- SUPER_FRAME_TX (R172): A super-frame is segmented at its egress port into frames, or dropped whole when it breaks a limit. -/
  | superFrameTx (q : Nat)
  /-- PORT_M_RX (R156): A frame arrives on port M and is delivered to Wheelhouse or discarded and counted. -/
  | portMRx (t : Nat) (bytes : Bytes)
  /-- PORT_M_LINK_CHANGE (R156): Port M's link changes and the change is recorded in the Logbook. -/
  | portMLinkChange (up : Bool) (speed : Nat)
  /-- CAGE_PRESENCE_CHANGE (R609): A module is plugged into or removed from an SFP28 cage and CAGE_PRESENT changes. -/
  | cagePresenceChange (cage : Nat) (present : Bool)
  /-- SWITCH_INGRESS (R180): A frame's first 64 bytes reach the switch core and it is classified under the current epoch, duplicate-checked, policed, buffered and enqueued. -/
  | switchIngress (q : Nat)
  /-- TAG_CHECK_DONE (R205): The IEC 62351-6 tag check of a frame completes, forwarding, marking or dropping it and rolling the key on KEY_NEXT. -/
  | tagCheckDone
  /-- EGRESS_SCHEDULE (R190): An egress port chooses the next frame by tier and round robin and starts it on the wire, generating tags for port 33 frames. -/
  | egressSchedule (q : Nat) (ecc : Option (Bool × Nat))
  /-- TX_COMPLETE (R189): A frame's last bit leaves an egress port and its cells are freed when it was the last copy. -/
  | txComplete (q : Nat)
  /-- STARVE_PROMOTE (R191): A best-effort head frame has waited longer than SWC_STARVE and its class is promoted for one round. -/
  | starvePromote (q : Nat) (c : Nat)
  /-- STALE_FRAME_DROP (R196): A frame older than SWC_RES_LIMIT is dropped from its queues. -/
  | staleFrameDrop
  /-- FDB_AGE_OUT (R185): A forwarding entry has seen no frame for SWC_AGE and is removed. -/
  | fdbAgeOut (mac : Nat) (vid : Nat)
  /-- CLS_COMMIT (R188): CLS_COMMIT clamps the staged classification and SA tables and loads them as one new epoch. -/
  | clsCommit (src : Requester)
  /-- EPOCH_ACTIVATE (R186): A loaded table epoch becomes current at the first Window boundary after its load. -/
  | epochActivate
  /-- EPOCH_RETIRE (R187): An old epoch's frame count drains to 0 and it is retired, letting a waiting change load. -/
  | epochRetire
  /-- AUDIT_PASS (R201): The free-list audit finishes a pass, reclaiming leaked cells and removing duplicates. -/
  | auditPass (lost : Nat) (dups : List Nat)
  /-- SUPERVISION_SEND (R216): Every LIFE_CHECK the module sends supervision frames for itself and its proxied nodes. -/
  | supervisionSend (t : Nat)
  /-- PROXY_NODE_AGE (R215): A proxy node entry has seen no frame for NODE_FORGET and ages out. -/
  | proxyNodeAge (mac : Nat)
  /-- LAN_SILENT_TIMEOUT (R220): One LAN of a pair has carried no RCT frame for SILENT while the other did, and it is marked failed. -/
  | lanSilentTimeout (k : Nat) (isB : Bool)
  /-- RING_OPEN_TIMEOUT (R220): The module's supervision frame has not returned within 2 × LIFE_CHECK and the ring is open. -/
  | ringOpenTimeout (r : Nat)
  /-- UNIT_EN_WRITE (R226): Setting UNIT_EN starts the unit pair in JOINING and admits the pair flows. -/
  | unitEnWrite (v : Bool)
  /-- HEARTBEAT_SEND (R225): Every 1 ms the module sends an authenticated heartbeat to its partner. -/
  | heartbeatSend (t : Nat)
  /-- HEARTBEAT (R226): A partner heartbeat arrives and is authenticated, updating partner state and demoting or handing over as its claim requires. -/
  | heartbeat (t : Nat) (f : Bytes)
  /-- PARTNER_LOST (R225): No authenticated heartbeat for TAKEOVER_TMO; the partner is lost and a STANDBY module takes over. -/
  | partnerLost
  /-- SOLO_ACTIVE_TIMEOUT (R226): No partner has been seen for 3 s after UNIT_EN and the module becomes ACTIVE alone. -/
  | soloActiveTimeout
  /-- TAKEOVER_EPOCH_WRITTEN (R224): The NOR write of a new takeover epoch completes and the new claim waits for the next hyperperiod boundary. -/
  | takeoverEpochWritten (t : Nat)
  /-- RELINQUISH (R227): RELINQUISH on the ACTIVE module sets HANDOVER in heartbeats, or is ignored and counted. -/
  | relinquish
  /-- TAKEOVER (R227): TAKEOVER on a STANDBY module takes over at once, or is ignored and counted. -/
  | takeover
  /-- EPOCH_CLEAR (R224): Engineer command 0x030300.00 clears the stored takeover epoch. -/
  | epochClear (src : Requester)
  /-- UNFIT_RELEASE (R232): Operator command 0x030301.00 takes the module out of UNFIT into RESYNC. -/
  | unfitRelease (src : Requester)
  /-- MIRROR (R232): A MIRROR frame arrives and the STANDBY module compares its records with its own commits. -/
  | mirror (t : Nat) (f : Bytes)
  /-- MIRROR_LATE (R232): A mirror record has found no counterpart within MIRROR_HOLD and is counted late. -/
  | mirrorLate
  /-- RESYNC_STORE_READY (R233): A RESYNC module's store covers 128 sample periods and it sends RESYNC_REQ for each instance. -/
  | resyncStoreReady
  /-- RESYNC_REQ (R233): A RESYNC_REQ arrives and the ACTIVE module sends the instance's far fix in RESYNC_DATA frames. -/
  | resyncReq (t : Nat) (f : Bytes)
  /-- RESYNC_DATA (R233): A RESYNC_DATA frame arrives and the far fix is loaded for replay, or refused and the instance repeated. -/
  | resyncData (t : Nat) (f : Bytes)
  /-- RESYNC_ACK (R233): A RESYNC module reaches the live evaluation and exchanges RESYNC_ACK, and the ACTIVE module starts mirroring the instance. -/
  | resyncAck (t : Nat) (f : Option Bytes)
  /-- SV_FRAME_INGEST (R243): A sampled-value frame from port 32 is parsed and each ASDU matched, aligned, classed and stored, or compared with its reckoned sample. -/
  | svFrameIngest
  /-- RECKON_CHECK (R248): At nominal time + W + SW_RES a sample with no real value is reckoned or stored as substituted. -/
  | reckonCheck (k : Nat)
  /-- SUBSTITUTE_DECLARE (R249): At the end of the horizon a still reckoned sample is declared SUBSTITUTED for good. -/
  | substituteDeclare (k : Nat)
  /-- STREAM_LOST_TIMEOUT (R256): No real sample has been stored for LOST_MS and the stream enters LOST. -/
  | streamLostTimeout (k : Nat)
  /-- SAMPLE_STORE_ECC (R573): An uncorrectable error in the sample store rewrites the sample as substituted with value 0. -/
  | sampleStoreEcc (k : Nat) (a : Nat) (word : Nat)
  /-- APERTURE_READ (R261): A BAR4 read returns ring data when granted and mapped, or 0 with SVI_APT_DENY. -/
  | apertureRead (link : Nat) (off : Nat) (size : Nat)
  /-- FILTER_CHAIN_WRITE (R280): A write of S1_SEL or S2_SEL is buffered for the Sample boundary, clamped, or held for a slot an instance reads. -/
  | filterChainWrite (c : Nat) (s1 : Nat) (s2 : Nat)
  /-- EVAL_START (R367): A pricking block starts and the tile begins the oldest ready evaluation of the instance, or lends the block to other work. -/
  | evalStart (t : Nat) (now : Nat)
  /-- ADD (R300): Integer add of two scalar registers. -/
  | add (u : Nat) (rd : Nat) (ra : Nat) (rb : Nat)
  /-- SUB (R300): Integer subtract of two scalar registers. -/
  | sub (u : Nat) (rd : Nat) (ra : Nat) (rb : Nat)
  /-- MUL (R300): Low 32 bits of an integer product. -/
  | mul (u : Nat) (rd : Nat) (ra : Nat) (rb : Nat)
  /-- AND (R300): Bitwise and of two scalar registers. -/
  | and (u : Nat) (rd : Nat) (ra : Nat) (rb : Nat)
  /-- OR (R300): Bitwise or of two scalar registers. -/
  | or (u : Nat) (rd : Nat) (ra : Nat) (rb : Nat)
  /-- XOR (R300): Bitwise xor of two scalar registers. -/
  | xor (u : Nat) (rd : Nat) (ra : Nat) (rb : Nat)
  /-- SHL (R300): Logical shift left. -/
  | shl (u : Nat) (rd : Nat) (ra : Nat) (rb : Nat)
  /-- SHR (R300): Logical shift right. -/
  | shr (u : Nat) (rd : Nat) (ra : Nat) (rb : Nat)
  /-- SRA (R300): Arithmetic shift right. -/
  | sra (u : Nat) (rd : Nat) (ra : Nat) (rb : Nat)
  /-- SLT (R300): Set to 1 if less than, signed. -/
  | slt (u : Nat) (rd : Nat) (ra : Nat) (rb : Nat)
  /-- ADDI (R300): Add a sign-extended immediate. -/
  | addi (u : Nat) (rd : Nat) (ra : Nat) (imm : Nat)
  /-- ORI (R300): Or a zero-extended immediate. -/
  | ori (u : Nat) (rd : Nat) (ra : Nat) (imm : Nat)
  /-- LUI (R300): Load a 20-bit upper immediate. -/
  | lui (u : Nat) (rd : Nat) (imm : Nat)
  /-- FADD (R302): Floating-point add in F32 or F64. -/
  | fadd (u : Nat) (rd : Nat) (ra : Nat) (rb : Nat) (p : Bool)
  /-- FSUB (R302): Floating-point subtract. -/
  | fsub (u : Nat) (rd : Nat) (ra : Nat) (rb : Nat) (p : Bool)
  /-- FMUL (R302): Floating-point multiply. -/
  | fmul (u : Nat) (rd : Nat) (ra : Nat) (rb : Nat) (p : Bool)
  /-- FDIV (R302): Floating-point divide, correctly rounded. -/
  | fdiv (u : Nat) (rd : Nat) (ra : Nat) (rb : Nat) (p : Bool)
  /-- FMA (R302): Fused multiply-add with one rounding. -/
  | fma (u : Nat) (rd : Nat) (ra : Nat) (rb : Nat) (p : Bool)
  /-- FSQRT (R302): Floating-point square root. -/
  | fsqrt (u : Nat) (rd : Nat) (ra : Nat) (p : Bool)
  /-- FMINMAX (R302): Floating-point minimum or maximum. -/
  | fminmax (u : Nat) (rd : Nat) (ra : Nat) (rb : Nat) (p : Bool) (mx : Bool)
  /-- FSGN (R300): Absolute value, negation or sign copy. -/
  | fsgn (u : Nat) (rd : Nat) (ra : Nat) (rb : Nat) (p : Bool) (sel : Nat)
  /-- FCMP (R302): Floating-point comparison giving 0 or 1. -/
  | fcmp (u : Nat) (rd : Nat) (ra : Nat) (rb : Nat) (p : Bool) (sel : Nat)
  /-- FCVT (R302): Conversion between I32, F32 and F64. -/
  | fcvt (u : Nat) (rd : Nat) (ra : Nat) (sel : Nat)
  /-- FATAN2 (R302): Correctly rounded atan2. -/
  | fatan2 (u : Nat) (rd : Nat) (ra : Nat) (rb : Nat) (p : Bool)
  /-- FSINCOS (R302): Correctly rounded sine and cosine into two registers. -/
  | fsincos (u : Nat) (rd : Nat) (ra : Nat) (p : Bool)
  /-- VADD (R300): Per-lane vector add. -/
  | vadd (u : Nat) (vd : Nat) (va : Nat) (vb : Nat) (p : Bool)
  /-- VSUB (R300): Per-lane vector subtract. -/
  | vsub (u : Nat) (vd : Nat) (va : Nat) (vb : Nat) (p : Bool)
  /-- VMUL (R300): Per-lane vector multiply. -/
  | vmul (u : Nat) (vd : Nat) (va : Nat) (vb : Nat) (p : Bool)
  /-- VFMA (R300): Per-lane fused multiply-add. -/
  | vfma (u : Nat) (vd : Nat) (va : Nat) (vb : Nat) (p : Bool)
  /-- VCMAC (R303): Complex multiply-accumulate on lane pairs. -/
  | vcmac (u : Nat) (vd : Nat) (va : Nat) (vb : Nat) (p : Bool)
  /-- VSUM (R303): Sum of the lanes into a scalar register. -/
  | vsum (u : Nat) (va : Nat) (rs : Nat) (p : Bool)
  /-- VSPLAT (R300): Broadcast a scalar into every lane. -/
  | vsplat (u : Nat) (vd : Nat) (rs : Nat) (p : Bool)
  /-- VEXT (R300): Extract one lane into a scalar register. -/
  | vext (u : Nat) (va : Nat) (rs : Nat) (p : Bool) (lane : Nat)
  /-- VLD (R304): Load 16 bytes of instance data into a vector register. -/
  | vld (u : Nat) (vd : Nat) (rs : Nat) (fn : Nat)
  /-- VST (R304): Store a vector register to 16 bytes of instance data. -/
  | vst (u : Nat) (vd : Nat) (rs : Nat) (fn : Nat)
  /-- LD (R304): Load from the instance's own data. -/
  | ld (u : Nat) (rd : Nat) (ra : Nat) (imm : Nat) (ecc : Nat) (word : Nat)
  /-- ST (R304): Store to the instance's own data, journalling the line's pre-image. -/
  | st (u : Nat) (rd : Nat) (ra : Nat) (imm : Nat)
  /-- LDIN (R305): Load a raw channel input at an age. -/
  | ldin (u : Nat) (rd : Nat) (ra : Nat) (imm : Nat)
  /-- LDSS (R305): Request a store channel input from DRAM. -/
  | ldss (u : Nat) (rd : Nat) (ra : Nat) (imm : Nat)
  /-- LDSS_DATA_ARRIVE (R305): The DRAM data of a waiting LDSS arrives and the evaluation resumes. -/
  | ldssDataArrive (u : Nat) (inst : Nat) (n : Nat)
  /-- LDFL (R305): Load a filtered input with its flags. -/
  | ldfl (u : Nat) (rd : Nat) (ra : Nat) (imm : Nat)
  /-- LDSG (R305): Load a latched signal input value or quality. -/
  | ldsg (u : Nat) (rd : Nat) (imm : Nat)
  /-- OUT (R307): Stage an output value and quality. -/
  | out (u : Nat) (rd : Nat) (ra : Nat) (rb : Nat) (fn : Nat)
  /-- LDTM (R306): Load an evaluation datum such as smpCnt, time or remaining cycles. -/
  | ldtm (u : Nat) (rd : Nat) (fn : Nat)
  /-- BEQ (R300): Branch if equal. -/
  | beq (u : Nat) (ra : Nat) (rb : Nat) (off : Nat)
  /-- BNE (R300): Branch if not equal. -/
  | bne (u : Nat) (ra : Nat) (rb : Nat) (off : Nat)
  /-- BLT (R300): Branch if less than, signed. -/
  | blt (u : Nat) (ra : Nat) (rb : Nat) (off : Nat)
  /-- BGE (R300): Branch if greater or equal, signed. -/
  | bge (u : Nat) (ra : Nat) (rb : Nat) (off : Nat)
  /-- JAL (R300): Jump and link. -/
  | jal (u : Nat) (rd : Nat) (off : Nat)
  /-- JALR (R300): Jump to a register address and link. -/
  | jalr (u : Nat) (rd : Nat) (ra : Nat) (imm : Nat)
  /-- END (R307): End the evaluation or scan cycle and pass the staged outputs to the commit gate. -/
  | endEval (u : Nat)
  /-- SFB (R437): On a scan core, evaluate a standard timer, counter or edge function block. -/
  | sfb (u : Nat) (rd : Nat) (ra : Nat) (imm : Nat)
  /-- ILLEGAL (R309): An illegal opcode or pc ends the evaluation with fault cause ILLEGAL. -/
  | illegal (u : Nat)
  /-- VERDICT_RECEIVE (R333): A sample verdict reaches a tile, which keeps, replaces or rolls back the speculative evaluations that depend on it. -/
  | verdictReceive (t : Nat)
  /-- REPLAY (R334): The tile replays discarded evaluations in rollback or free slot time. -/
  | replay (t : Nat)
  /-- COMMIT_EVALUATION (R337): An evaluation is final and its predecessor committed; the commit gate commits its outputs to signals, GOOSE and bobbins. -/
  | commitEvaluation (t : Nat)
  /-- GOOSE_REPEAT (R378): A publication's repeat interval ends and it resends its frame with the next sqNum. -/
  | gooseRepeat (p : Nat)
  /-- EVAL_LOST (R340): An evaluation not final at t_ref + B_pub is committed as lost. -/
  | evalLost (inst : Nat)
  /-- FAR_FIX_COMPLETE (R343): A far fix is complete in DRAM and overwrites the older slot. -/
  | farFixComplete (inst : Nat)
  /-- FAR_FIX_LATE (R343): A far fix not complete within 32 frames is discarded and counted. -/
  | farFixLate (inst : Nat)
  /-- TILE_FAILURE (R571): A tile is found failed; it is fenced, its held outputs discarded and a qualifying spare bound to its LTILE. -/
  | tileFailure (ts : List Nat)
  /-- SPARE_LOAD_DONE (R572): The programs and far fixes are copied into the spare and replay of each instance begins. -/
  | spareLoadDone (t : Nat)
  /-- FB_DISABLE (R348): FB_DISABLE stops an instance from epoch E and completes when its last started evaluation commits. -/
  | fbDisable (src : Requester) (inst : Nat) (E : Nat)
  /-- FB_ENABLE (R349): FB_ENABLE resumes a disabled instance from the next Hyper boundary at least 2 ms later. -/
  | fbEnable (src : Requester) (inst : Nat)
  /-- FB_EXCHANGE (R350): FB_EXCHANGE checks and bounds a new instance set for exchange at boundary X. -/
  | fbExchange (src : Requester) (sl : Nat) (old : Nat) (new : Nat) (m : Nat)
  /-- EXCHANGE_APPLY (R351): Once evaluation E_i − 1 has committed, the tile applies the exchange to an instance with its migrated data. -/
  | exchangeApply (inst : Nat)
  /-- TILE_MODE (R347): TILE_MODE recomputes the tile's bounds in the new mode and schedules the change. -/
  | tileMode (src : Requester) (l : Nat) (deep : Bool)
  /-- TILE_MODE_APPLY (R347): At its Hyper boundary a tile changes mode and its handle completes when the old mode's evaluations have committed. -/
  | tileModeApply (t : Nat)
  /-- QCLK_WRITE (R286): A write of QCLK applies at the Hyper boundary or is held for a quad with admitted instances. -/
  | qclkWrite (q : Nat) (v : Nat)
  /-- ADMIT_STREAMS (R360): ADMIT KIND 1 admits the changed entries of the staged stream table. -/
  | admitStreams (src : Requester) (check : Bool)
  /-- ADMIT_INSTANCE_SET (R360): ADMIT KIND 2 checks, places and bounds an instance set of a slice. -/
  | admitInstanceSet (src : Requester) (sl : Nat) (e : Nat) (check : Bool) (deep : Bool)
  /-- ADMIT_PUBLICATIONS (R360): ADMIT KIND 3 admits the changed entries of the staged publication table. -/
  | admitPublications (src : Requester) (check : Bool)
  /-- ADMIT_SCAN_PROGRAM (R381): ADMIT KIND 4 checks and bounds a slice's scan program. -/
  | admitScanProgram (src : Requester) (sl : Nat) (d : Nat) (check : Bool)
  /-- ADMIT_WITHDRAW_SET (R363): ADMIT KIND 5 removes an admitted instance set. -/
  | admitWithdrawSet (src : Requester) (sl : Nat) (e : Nat) (check : Bool)
  /-- ADMIT_WITHDRAW_SCAN (R360): ADMIT KIND 6 removes a slice's scan program. -/
  | admitWithdrawScan (src : Requester) (sl : Nat) (check : Bool)
  /-- ADMIT_QUAD_CLOCK (R24): ADMIT KIND 7 changes a quad clock with re-admission of its instances. -/
  | admitQuadClock (src : Requester) (c : Nat) (q : Nat) (check : Bool)
  /-- ADMIT_FILTER_CHAINS (R280): ADMIT KIND 8 changes filter chains with re-admission of the instances that read them. -/
  | admitFilterChains (src : Requester) (check : Bool)
  /-- ADMISSION_COMPUTED (R362): The admission unit finishes computing a request, refusing it whole or scheduling its apply instant. -/
  | admissionComputed (t : Nat)
  /-- ADMISSION_APPLY (R363): At a 2.5 ms multiple the admitted request's prickings, entries and publications apply together as one epoch. -/
  | admissionApply
  /-- BIND (R389): BIND binds a slice to its link and PASID and increments its generation. -/
  | bind (src : Requester) (sl : Nat)
  /-- UNBIND (R393): UNBIND resets the slice, clears its shares and grants and leaves it UNBOUND. -/
  | unbind (src : Requester) (sl : Nat)
  /-- RESET (R416): A slice RESET increments the generation, stops fetch and aborts its handles and transaction. -/
  | reset (src : Requester) (sl : Nat) (full : Bool)
  /-- SLICE_RESET_DRAINED (R416): Every engine has drained after a slice reset and the handle completes with the slice BOUND. -/
  | sliceResetDrained (sl : Nat)
  /-- FREEZE (R418): FREEZE stops descriptor fetch of a slice. -/
  | freeze (src : Requester) (sl : Nat)
  /-- FREEZE_DRAINED (R418): No descriptor is outstanding and the slice is FROZEN with every bobbin HELD. -/
  | freezeDrained (sl : Nat)
  /-- THAW (R418): THAW writes the held entries, resumes fetch and enters BOUND. -/
  | thaw (src : Requester) (sl : Nat)
  /-- SAVE (R420): SAVE writes an encrypted blob of a frozen slice. -/
  | save (src : Requester) (sl : Nat)
  /-- RESTORE (R424): RESTORE checks and decrypts a blob, admits its functions and replays their far fixes. -/
  | restore (src : Requester) (sl : Nat)
  /-- REBIND (R419): REBIND moves a frozen slice to a new link and PASID and increments its generation. -/
  | rebind (src : Requester) (sl : Nat)
  /-- SQ_TAIL (R408): A write to a bobbin's SQ_TAIL doorbell advances the submission tail or is ignored as an error. -/
  | sqTail (sl : Nat) (b : Nat) (v : Nat)
  /-- CQ_HEAD (R408): A write to a bobbin's CQ_HEAD doorbell frees completion entries or is ignored as an error. -/
  | cqHead (sl : Nat) (b : Nat) (v : Nat)
  /-- DESCRIPTOR_FETCH (R408): The module fetches a descriptor when a completion entry is free and starts or refuses it. -/
  | descriptorFetch (sl : Nat) (b : Nat) (bytes : Bytes)
  /-- DMA_READ_COMPLETION (R391): A returning DMA read completion is checked against the generation and delivers the payload. -/
  | dmaReadCompletion (sl : Nat) (b : Nat) (idx : Nat) (gen : Nat) (data : Bytes)
  /-- DMA_ERROR (R410): A DMA request completes with UR or CA, completing the descriptor with DMA_ERR and putting the bobbin in ERROR. -/
  | dmaError (sl : Nat) (b : Nat) (idx : Nat) (gen : Nat) (info : Nat)
  /-- DMA_TIMEOUT (R390): A DMA request has no completion after 10 ms and is a DMA error. -/
  | dmaTimeout (sl : Nat) (b : Nat) (idx : Nat) (gen : Nat)
  /-- SEND_COMPLETE (R407): The last copy or segment of a SEND leaves the switch core and its completion is written. -/
  | sendComplete (sl : Nat) (b : Nat) (idx : Nat)
  /-- HOST_FRAME_DELIVER (R411): A frame leaves port 35 into its owner's RX bobbin buffer, or is dropped. -/
  | hostFrameDeliver
  /-- BOBBIN_EN_WRITE (R414): Setting EN starts a bobbin or is refused; clearing it flushes the bobbin and resets its indices. -/
  | bobbinEnWrite (sl : Nat) (b : Nat) (en : Bool)
  /-- SHARE_WRITE (R398): A share write is applied at the Window boundary, reduced to keep the module total. -/
  | shareWrite (k : Nat) (sl : Nat) (v : Nat) (who : Nat)
  /-- GRANT_WRITE (R400): A grant write is applied at the Window boundary, unless it removes a right an admitted binding uses. -/
  | grantWrite (sl : Nat) (g : Nat) (f : Nat) (v : Nat) (who : Nat)
  /-- SCAN_LATCH (R429): At a due Window boundary a scan core latches the input image and starts a cycle of the program. -/
  | scanLatch (sl : Nat)
  /-- SCAN_OVERRUN (R441): A cycle passes OVR_LIMIT from its Latch and is counted as an overrun. -/
  | scanOverrun (sl : Nat)
  /-- SCAN_ABANDON (R442): A cycle has not reached END after OVR_ABANDON × OVR_LIMIT and is abandoned. -/
  | scanAbandon (sl : Nat)
  /-- SCAN_EXCHANGE (R448): SCAN_EXCHANGE checks and bounds a new scan program for exchange. -/
  | scanExchange (src : Requester) (sl : Nat) (d : Nat) (m : Nat)
  /-- SCAN_EXCHANGE_APPLY (R449): After the old program's last cycle commits, the new committed data is built and the new program latches. -/
  | scanExchangeApply (sl : Nat)
  /-- SCAN_HOLD (R453): SCAN_HOLD lets the cycle commit and sets the program HELD. -/
  | scanHold (src : Requester) (sl : Nat)
  /-- SCAN_RUN (R453): SCAN_RUN resumes a HELD program at the next Window boundary. -/
  | scanRun (src : Requester) (sl : Nat)
  /-- FORCE_WRITE (R444): A write of a slot's force enable or value sets or releases a force for readers at once. -/
  | forceWrite (n : Nat) (enable : Option Bool) (v : Nat) (who : Nat)
  /-- CAP_APPLY (R461): CAP_APPLY checks the staged capture sets and members and schedules them. -/
  | capApply (src : Requester)
  /-- CAP_APPLY_TAKE_EFFECT (R462): At its Window boundary the capture configuration applies and changed sets restart with START. -/
  | capApplyTakeEffect
  /-- CAP_TRIGGER (R467): CAP_TRIGGER fires a capture set's mark by command. -/
  | capTrigger (src : Requester) (k : Nat)
  /-- CAPTURE_TICK (R465): At t_a + L the capture set writes its row for a tick into staging, reducing rate or losing rows as needed. -/
  | captureTick (k : Nat) (a : Nat)
  /-- TRIGGER_EDGE (R467): An edge on XTRIG or TRIG_IN passes its glitch filter and fires matching trigger entries. -/
  | triggerEdge (line : Nat) (rising : Bool) (t : Nat)
  /-- CAPTURE_FRAME_RX (R467): A GOOSE copy reaches the capture engine through port 34 and fires on a new stNum. -/
  | captureFrameRx
  /-- XTRIG_PULSE_END (R468): The 2 µs drive of an XTRIG line ends. -/
  | xtrigPulseEnd (line : Nat)
  /-- CAPTURE_FLUSH_TIMEOUT (R469): CAP_FLUSH_MS has passed since a buffer's first record and the buffer is completed. -/
  | captureFlushTimeout (k : Nat)
  /-- RATE_RESTORE_TIMEOUT (R474): Staging has stayed at or below 25 % for RESTORE_MS and DIV halves. -/
  | rateRestoreTimeout (k : Nat)
  /-- POST_TRIGGER_HOLD_END (R475): The post-trigger hold ends and rate reduction applies if staging is high. -/
  | postTriggerHoldEnd (k : Nat)
  /-- ADC_REQUEST_DUE (R485): A conversion request falls due on its trigger and starts or waits for the converter. -/
  | adcRequestDue (r : Nat) (t : Nat)
  /-- ADC_START (R485): A write of 1 to START triggers a software conversion request. -/
  | adcStart (r : Nat)
  /-- ADC_CONVERSION_DONE (R488): A conversion completes and writes its result and time words with OVR, SETTLE, LATE and WAKE. -/
  | adcConversionDone (code : Nat) (ovr : Nat)
  /-- ADC_RESULT_READ (R488): A read of a result word latches its time word. -/
  | adcResultRead (a : Access)
  /-- ADC_POWER_DOWN (R487): No conversion has started for PD_IDLE and the converter powers down. -/
  | adcPowerDown
  /-- ADC_WAKE_DONE (R487): The converter finishes its 20 µs start-up and a waiting conversion begins. -/
  | adcWakeDone
  /-- ADC_TEST_STEP (R490): Sounding runs one test conversion on REF, GND or LOOP. -/
  | adcTestStep (pos : Nat) (code : Option Nat)
  /-- FAN_PERIOD_START (R622): A fan output period starts, applying a new duty and producing the edges that trigger ADC requests. -/
  | fanPeriodStart (k : Nat) (t : Nat)
  /-- BNC_GENESIS (R498): BNC_GENESIS draws a new Lodestone, new identity keys and an empty journal. -/
  | bncGenesis (src : Requester)
  /-- BNC_IMPORT (R509): BNC_IMPORT unwraps an import record into a slot and commits the journal. -/
  | bncImport (src : Requester)
  /-- BNC_DELETE (R510): BNC_DELETE empties an imported slot. -/
  | bncDelete (src : Requester) (n : Nat)
  /-- BNC_INVALIDATE (R511): BNC_INVALIDATE renews a slice root, session root or user entry, orphaning its descendants. -/
  | bncInvalidate (src : Requester) (n : Nat)
  /-- BNC_ATTEST (R522): BNC_ATTEST writes a doubly signed attestation report. -/
  | bncAttest (src : Requester) (nonce : Bytes)
  /-- BNC_PREPARE_RESEAL (R517): BNC_PREPARE_RESEAL verifies a manifest and writes the reseal area under the expected chain. -/
  | bncPrepareReseal (src : Requester)
  /-- BNC_USER (R513): BNC_USER applies the staged user table. -/
  | bncUser (src : Requester)
  /-- BNC_PAIR_ROLL (R506): BNC_PAIR_ROLL makes the sender use the next pair key. -/
  | bncPairRoll (src : Requester)
  /-- TAG_GEN (R505): A block asks the Binnacle for a tag under a key slot. -/
  | tagGen (req n alg len : Nat) (iv data : Bytes)
  /-- TAG_CHK (R505): A block asks the Binnacle to verify a tag under a key slot. -/
  | tagChk (req n alg len : Nat) (iv data tag : Bytes)
  /-- SIGN (R520): Wheelhouse asks the Binnacle to sign with the identity keys, advancing HSS leaves. -/
  | sign (req n : Nat) (msg : Bytes)
  /-- VERIFY (R505): Wheelhouse asks the Binnacle to verify a signature against the vendor anchors. -/
  | verify (req n : Nat) (digest sig : Bytes)
  /-- SEAL (R505): Wheelhouse asks the Binnacle to encrypt a message or blob. -/
  | sealOp (req n : Nat) (nonce aad data : Bytes)
  /-- OPEN (R505): Wheelhouse asks the Binnacle to decrypt a message or blob. -/
  | openOp (req n : Nat) (nonce aad data : Bytes)
  /-- AGREE (R505): Wheelhouse asks the Binnacle for an ECDH agreement and session key derivation. -/
  | agree (req n : Nat) (clientPub clientNonce moduleNonce : Bytes)
  /-- MEASUREMENT_EXTEND (R499): Pilot extends the measurement chain with the digest of the next component. -/
  | measurementExtend (d : Bytes)
  /-- JOURNAL_COMMIT_DONE (R516): A key journal commit finishes its read-back and becomes the selected journal, or fails with JOURNAL_FAIL. -/
  | journalCommitDone (ok : Bool)
  /-- TAMPER (R497): A tamper loop or switch condition zeroes the Lodestone and orphans every key. -/
  | tamper (which : Nat)
  /-- SUPPLY_VALID (R531): The supply has stayed above 8.8 V for 50 ms and a cold reset and power sequence start. -/
  | supplyValid (t : Nat) (lost : Bool)
  /-- POWER_GOOD (R531): A power domain reports power-good; its start-up Sounding runs and the next domain is switched on. -/
  | powerGood (d : Nat) (t : Nat) (fails : List BootFail)
  /-- SETTINGS_APPLY (R536): Wheelhouse applies the settings store after start. -/
  | settingsApply (t : Nat)
  /-- READMISSION_START (R536): After LOCKED, PPS or START_SYNC_S, Wheelhouse re-admits the stored functions in order. -/
  | readmissionStart (t : Nat)
  /-- HOST_LINK_TRAINED (R538): A host link finishes training after PD3 and its reset release. -/
  | hostLinkTrained (link : Nat) (t : Nat)
  /-- WARM_RESET (R527): PWR_RESET kind 1 resets PD1 and PD3–PD11, keeping PD0 and the Sextant. -/
  | warmReset (src : Requester)
  /-- CONTROL_PROCESSOR_RESET (R529): PWR_RESET kind 2 resets the control processor while admitted work runs on. -/
  | controlProcessorReset (src : Requester)
  /-- PORT_GROUP_RESET (R527): PWR_RESET kind 3 resets one port group domain. -/
  | portGroupReset (src : Requester) (g : Nat)
  /-- WATCHDOG_EXPIRY (R529): Wheelhouse has not serviced the watchdog for WDT_MS and the control processor is reset. -/
  | watchdogExpiry (t : Nat)
  /-- WHEELHOUSE_RESUME (R529): Wheelhouse runs again after a control-processor reset and completes interrupted requests with ABORTED. -/
  | wheelhouseResume (t : Nat)
  /-- HOST_LINK_RESET (R530): A fundamental, hot or link-down reset of a host link resets its function and its bound slices. -/
  | hostLinkReset (link : Nat) (t : Nat)
  /-- BROWNOUT (R539): The supply falls below 8.2 V and the module enters HOLDUP, or shuts down at once without HOLD_OK. -/
  | brownout (t : Nat)
  /-- SUPPLY_RETURN (R540): The supply returns above 8.8 V before SHUTDOWN and HOLDUP ends. -/
  | supplyReturn (t : Nat)
  /-- SHUTDOWN (R541): AIN9 falls to 24 V and the shutdown sequence stops work, writes the Logbook and powers down. -/
  | shutdown (t : Nat)
  /-- HOLDUP_CHARGED (R612): The holdup store reaches 56 V and HOLD_OK sets. -/
  | holdupCharged (t : Nat)
  /-- UPD_INSTALL (R552): UPD_INSTALL checks a complete package and writes its images into the inactive slots. -/
  | updInstall (src : Requester)
  /-- UPD_ACTIVATE (R556): UPD_ACTIVATE writes a trial slot-select record and makes a warm reset. -/
  | updActivate (src : Requester) (ok : Bool)
  /-- UPD_CONFIRM (R558): UPD_CONFIRM makes the trial permanent, raising SEC_MIN and committing the reseal. -/
  | updConfirm (src : Requester) (ok : Bool)
  /-- UPD_REVERT (R557): UPD_REVERT writes the fall-back record and makes a warm reset. -/
  | updRevert (src : Requester) (ok : Bool)
  /-- UPD_DISCARD (R551): UPD_DISCARD discards the staged package. -/
  | updDiscard (src : Requester)
  /-- UPD_SET_LOAD (R562): UPD_SET_LOAD writes a settings image as the new generation and makes a warm reset. -/
  | updSetLoad (src : Requester) (ok : Bool)
  /-- UPD_SET_DEFAULTS (R562): UPD_SET_DEFAULTS writes an empty settings generation and makes a warm reset. -/
  | updSetDefaults (src : Requester) (ok : Bool)
  /-- STAGE_EXPIRY (R551): A staging without a block for 7 days of operating time is discarded. -/
  | stageExpiry
  /-- AUTO_CONFIRM (R558): A trial has run in RUN for AUTO_CONFIRM_S without fences and Wheelhouse confirms it. -/
  | autoConfirm
  /-- SETTINGS_WRITE (R562): Within 2 s of a change Wheelhouse writes a new settings generation. -/
  | settingsWrite (ok : Bool)
  /-- RECOVERY_PACKAGE (R564): In SAFE a PILOT package received over the service UART is verified, written to slot A and followed by a cold reset. -/
  | recoveryPackage (bytes : Bytes)
  /-- SCRUB_PASS (R575): The scrubber reads an ECC memory, writes back corrections and soft-repairs hard-faulty rows. -/
  | scrubPass (hits : List EccHit)
  /-- SOUNDING_STEP (R578): Runtime Sounding runs a test step on a unit, fencing or flagging it on failure. -/
  | soundingStep (u : Blk) (aborted : Bool) (fails : List BootFail) (last : Bool)
  /-- SND_PASS (R581): SND_PASS starts a runtime Sounding pass at once. -/
  | sndPass (src : Requester)
  /-- SND_CLEAR_MAP (R580): SND_CLEAR_MAP empties the fault map. -/
  | sndClearMap (src : Requester)
  /-- LOG_RECORD_WRITE (R595): The Logbook writes the next queued record to NOR and reads it back. -/
  | logRecordWrite (ok : Bool)
  /-- LOG_CLEAR (R597): LOG_CLEAR clears the circulating or both areas and writes a CLEAR record. -/
  | logClear (src : Requester) (scope : Nat)
  /-- LOG_APPLY (R591): LOG_APPLY applies the trigger and snapshot tables at the next Window boundary. -/
  | logApply (src : Requester)
  /-- VBAT_LOW_CHANGE (R616): The PD0 comparator sets or clears VBAT_LOW. -/
  | vbatLowChange (low : Bool)
  /-- DIE_TEMP_CHANGE (R627): The die comparator sets DIE_HOT at 110 °C or clears it at 100 °C. -/
  | dieTempChange (hot : Bool)
  /-- THERMAL_SHUTDOWN (R627): The die has been at 125 °C for 1 ms and the shutdown sequence begins. -/
  | thermalShutdown (t : Nat)
  /-- THERMAL_RESTART (R627): 60 s after a thermal shutdown the module restarts with LAST_CAUSE THERMAL. -/
  | thermalRestart
  /-- MAX_AMBIENT_WRITE (R626): A write of MAX_AMBIENT sets QCLK_CEIL, held where admitted quads run faster. -/
  | maxAmbientWrite (v : Nat)
  /-- INSTALL_COMPLETE (R552): The flash writes and read-backs of an UPD_INSTALL finish; STAGE leaves CHECKING for INSTALLED, or returns to COMPLETE with FLASH_FAIL, and the handle completes. -/
  | installComplete (ok : Bool)
  /-- LOG_CLEAR_COMPLETE (R597): The sector erases of a LOG_CLEAR finish; the CLEAR record is written, the intent erased, CLEARING clears and the handle completes. -/
  | logClearComplete
  /-- PROGRAM_RELOAD_COMPLETE (R569): Wheelhouse finishes reloading a program image from its DRAM copy after an uncorrectable program-memory error, and the deferred evaluations of that TYPE_ID become ready again. -/
  | programReloadComplete (t : Nat) (ty : Nat)
  /-- FIRMWARE_REGION_ECC_ERROR (R570): An uncorrectable error in the firmware region of DRAM causes a control-processor reset. -/
  | firmwareRegionEccError (word : Nat)
  deriving DecidableEq, Repr

end Sys2Proof
end

