-- ==== Sys2Proof/Config.lean ====
section
/-!
DEFINITION. What the spec leaves to the part or to its partners, as constants without a body: cryptographic primitives
of the Binnacle, the filter coefficients of the ROM, and the free values of results the spec does not state. Nothing in
Lean can evaluate them, so a claim holds whatever they are. The log entries that name them are given at each.
-/

namespace Sys2Proof.Config

/-- A value the spec does not state, number `tick` of the run (log entry 3). -/
opaque freeNat : Nat → Nat

/-- SHA-384 (R71, R499). The spec names the function and not its steps (log entry 4). -/
opaque sha384 : Bytes → Bytes

/-- HMAC-SHA-384 of a key and a message, and every key derivation built on it (R72, R500). -/
opaque hmac : Bytes → Bytes → Bytes

/-- HKDF-SHA-384: input keying material, salt, info, length (R72). -/
opaque hkdf : Bytes → Bytes → Bytes → Nat → Bytes

/-- AES-256-GCM encryption: key, nonce, additional data, plaintext; the tag is the last 16 bytes (R73). -/
opaque gcmSeal : Bytes → Bytes → Bytes → Bytes → Bytes

/-- AES-256-GCM decryption; none when the tag is bad (R73). -/
opaque gcmOpen : Bytes → Bytes → Bytes → Bytes → Option Bytes

/-- AES-GMAC tag of 16 bytes: key, nonce, message (R205, R228). -/
opaque gmac : Bytes → Bytes → Bytes → Bytes

/-- ECDH P-384: private key and public key to the shared secret (R72). -/
opaque ecdh : Bytes → Bytes → Bytes

/-- The P-384 public key of a private key. -/
opaque ecPublic : Bytes → Bytes

/-- ECDSA P-384 signature of a digest (R71). -/
opaque ecSign : Bytes → Bytes → Bytes

/-- ECDSA P-384 verification: public key, digest, signature (R74). -/
opaque ecVerify : Bytes → Bytes → Bytes → Bool

/-- HSS/LMS signature of a digest with a leaf (R520). -/
opaque hssSign : Bytes → Nat → Bytes → Bytes

/-- HSS/LMS verification: public key, digest, signature (R554). -/
opaque hssVerify : Bytes → Bytes → Bytes → Bool

/-- Vendor anchors in the mask ROM: ECDSA P-384 and HSS public keys (R502; log entry 4). -/
opaque anchorEc : Bytes
opaque anchorHss : Bytes

/-- HSS public key, 60 bytes, of a SEED and an identifier I (R514, R520). -/
opaque hssPublic : Bytes → Bytes

/-- Draw number `n` of the Binnacle's random bit generator, `len` bytes. -/
opaque random : Nat → Nat → Bytes

/-- The IEEE_C37_238 TLV that R127 has a backup master send in the C37.238 profile, by STX_TERR; its layout is that
standard's (log entry 8). -/
opaque c37Tlv : Nat → Bytes

/-- HMAC-SHA-256 (R203). -/
opaque hmac256 : Bytes → Bytes → Bytes

/-- Where IEC 62351-6 carries the authentication value: the value in a frame, if any, and the bytes it covers (R205). -/
opaque authValue : Bytes → Option (Bytes × Bytes)

/-- A frame with its IEC 62351-6 authentication value put in (R206). -/
opaque authInsert : Bytes → Bytes → Bytes

/-- Coefficient of a filter response at a distance from its middle tap, scaled by 2²²: the mask ROM's contents, which the
spec bounds by their response and does not list (R267, R269; log entry 10). -/
opaque romCoef : Nat → Nat → Int

end Sys2Proof.Config
end

