-- ==== Sys2Proof/Machine/State.lean ====
section
/-!
DEFINITION. The state of the RZM-4410, as plain data: every register field, queue, table, counter and mode the spec
gives the module, the queue of waiting commands, and a record of what left the module. A register field lives in
`State.regs` under its own key (`Fld.key`); what is not a register has a field of its own here. The default value of
each field is its value at reset; log entry 5 names every one the spec does not state.
-/

namespace Sys2Proof.Machine

/-- Why a command stops the module for good. No command of this model raises one: the spec gives every command an
effect, and an access the spec rules out is dropped and counted (R91, R92, R98). -/
inductive Fault where
  /-- Raised by no meaning; it stands for a behaviour outside the spec. Safe: a run that met it would stop. -/
  | outsideSpec
  deriving DecidableEq, Repr

/-- Why a command has no meaning. -/
inductive Refusal where
  /-- Raised by `exec` for a command that has no meaning in this model. Safe: the run stops. -/
  | notModelled (mnemonic : String)
  deriving DecidableEq, Repr

/-! ### Register fields -/

/-- Access codes of R13 (RWL does not occur in revision B1); `hid` marks a running count behind a latched pair (R176). -/
inductive Acc where
  | ro | rw | rwb | wo | w1c | w1s | rc | hid
  deriving DecidableEq, Repr

/-- Boundaries of R93. -/
inductive Bnd where
  | atOnce | sample | cycle | frame | window | hyper | linkIdle | cfgRef
  deriving DecidableEq, Repr

/-- What a value outside a field's range acts as, from the Meaning column of its table. -/
inductive Clamp where
  /-- every value has its own meaning -/
  | any
  /-- acts as the nearest limit -/
  | range (lo hi : Nat)
  /-- a two's complement value, acts as the nearest of −lim and lim -/
  | srange (lim : Nat)
  /-- values from `lo` to `hi` act as `v` -/
  | asVal (lo hi v : Nat)
  /-- values above `max` leave the field unchanged -/
  | keepAbove (max : Nat)
  /-- four bytes, of which 0 acts as 1 -/
  | bytesMin1
  deriving DecidableEq, Repr

/-- One register field of the spec's tables, or an array of `n * m` of them. Instance `i` lies at
`base + (i / m) * stride + (i % m) * stride2`. BAR0 offsets are addresses below 0x1000000; BAR2 offset x is address
0x1000000 + x. -/
structure Fld where
  /-- block index of R106; 19 for mailboxes, vectors, the privileged page and the slice windows (R105) -/
  blk : Nat
  base : Nat
  lo : Nat
  wid : Nat
  acc : Acc
  n : Nat := 1
  stride : Nat := 0
  m : Nat := 1
  stride2 : Nat := 0
  reset : Nat := 0
  bnd : Bnd := .atOnce
  clamp : Clamp := .any
  /-- the field has a command of its own in the opcode table, so REGISTER_WRITE leaves it alone (R13) -/
  own : Bool := false
  /-- a configuration field of R105 -/
  cfg : Bool := false
  deriving DecidableEq, Repr

/-- The address of instance `i` of a field. -/
def Fld.addr (f : Fld) (i : Nat) : Nat := f.base + i / f.m * f.stride + i % f.m * f.stride2

/-- The key of instance `i` of a field in `State.regs`: its address and its lowest bit. -/
def Fld.key (f : Fld) (i : Nat) : Nat := f.addr i * 32 + f.lo

/-- A table by number: entries in rising key order, none equal to the default of its kind. -/
abbrev Tbl (α : Type) := List (Nat × α)

/-- A write waiting for its boundary (R94, R95). -/
structure Buffered where
  /-- the block whose shadow holds it -/
  blk : Nat
  /-- the register's address; a block holds at most 256 distinct ones -/
  addr : Nat
  /-- the field's key and width -/
  key : Nat
  wid : Nat
  reset : Nat
  bnd : Bnd
  /-- the owner of a Sample, Frame or Cycle boundary: the stream, slot, port or program -/
  owner : Nat
  val : Nat
  /-- the handle of the commit that wrote it, none for a single write (R60) -/
  txn : Option Nat
  /-- the requester in the clamp report, 0 for a register write (R56) -/
  who : Nat := 0
  deriving DecidableEq, Repr

/-! ### Identity (chapter 00) -/

/-- What is fixed per module: ordering variant (0 A, 1 T), serial number, base MAC address (R5, R6). The spec gives no
values; log entry 5. -/
structure Ident where
  variant : Nat := 0
  serial : Bytes := List.replicate 12 0
  baseMac : Nat := 0
  /-- the PCIE_SPLIT pin tied to GND, and the levels of the SLOT_ID pins, open ones reading 1 (R606, R624) -/
  splitPin : Bool := false
  slotPins : Nat := 63
  deriving DecidableEq, Repr

/-! ### Host interface, events and MSI-X (chapter 03) -/

/-- One MSI-X table entry (R114). After reset an entry is masked, as PCI Express has it. -/
structure MsixEntry where
  addr : Nat := 0
  data : Nat := 0
  masked : Bool := true
  deriving DecidableEq, Repr

/-- The MSI-X control of one function of one link (R115). -/
structure MsixFn where
  busMaster : Bool := false
  enable : Bool := false
  mask : Bool := false
  deriving DecidableEq, Repr

/-- The host interface beside its registers. -/
structure HostIf where
  /-- buffered writes of all blocks, oldest first (R94, R95) -/
  shadow : List Buffered := []
  /-- links in RZM-3200 mode, bit per link (R99) -/
  compat : Nat := 0
  /-- the posted write in flight of each link: address and value (R99) -/
  postedA : Option (Nat × Nat) := none
  postedB : Option (Nat × Nat) := none
  /-- links trained (R538), bit per link -/
  trained : Nat := 0
  /-- MSI-X table entries, number link × 4224 + entry (R114, R116) -/
  msix : Tbl MsixEntry := []
  /-- pending bit arrays, same numbering (R117) -/
  pba : Tbl Bool := []
  /-- function controls, number link × 3 + function (R115) -/
  fn : Tbl MsixFn := []
  /-- the event of a device source whose message is still due, bit per source and link × 128 (R117) -/
  due : Tbl Bool := []
  /-- slice vectors whose message waits under SLC_VEC_MASK, by slice (R117) -/
  vecDue : Tbl Nat := []
  deriving DecidableEq, Repr

/-! ### Dictionary, Chartroom and mailboxes (chapter 02) -/

/-- One operation of R78, its body parsed. -/
structure Request where
  src : Requester
  reqId : Nat
  /-- the OP byte -/
  op : Nat
  /-- what follows OP, STATUS and REQID -/
  body : Bytes
  /-- the slice's generation when a slice mailbox submitted it (R391), or the role of a manager mailbox then (R49) -/
  gen : Nat := 0
  deriving DecidableEq, Repr

/-- A staged write of a transaction (R57). -/
structure Staged where
  index : Nat
  sub : Nat
  value : Bytes
  deriving DecidableEq, Repr

/-- An open transaction (R57). -/
structure Txn where
  owner : Requester
  /-- none module scope, some s the area of slice s -/
  scope : Option Nat
  writes : List Staged := []
  /-- MONO of the owner's last message (R61) -/
  lastMsg : Nat
  deriving DecidableEq, Repr

/-- A NOTIFY not yet acknowledged (R80). -/
structure Note where
  id : Nat
  body : Bytes
  /-- how often it was resent -/
  resent : Nat := 0
  /-- MONO of its last sending -/
  last : Nat
  deriving DecidableEq, Repr

/-- A Chartroom session, from the HELLO_REPLY on (R71–R80). -/
structure Session where
  id : Nat
  /-- source IP address, and the switched port it runs on (none: port M) -/
  ip : Nat
  switched : Bool
  /-- VLAN of the switched ports in force when the handshake started (R49, R67) -/
  vlan : Nat := 0
  /-- fleet address of the HELLO_REPLY (R69) -/
  fleet : Nat
  /-- AUTH has succeeded -/
  authed : Bool := false
  role : Nat := 0
  slice : Nat := 0
  /-- transcript hash H, and the SESSION slot that holds the two directions' 36 bytes of R72 (R505) -/
  transcript : Bytes := []
  slot : Nat := 0
  /-- user entry of the authenticated user (R505) -/
  user : Nat := 0
  /-- highest SEQ accepted, and the SEQs accepted among the last 64 (R73) -/
  seqHigh : Nat := 0
  seen : List Nat := []
  seqOut : Nat := 0
  /-- idle timeout in force for the session, s (R49) -/
  idle : Nat
  /-- MONO of the HELLO_REPLY, and of the last valid client message -/
  replied : Nat
  lastMsg : Nat
  /-- subscribed sources, bit per source, and the completion flag (R80) -/
  sources : Nat := 0
  completions : Bool := false
  notes : List Note := []
  deriving DecidableEq, Repr

/-- A handshake between HELLO and HELLO_REPLY (R76). -/
structure Handshake where
  id : Nat
  ip : Nat
  switched : Bool
  /-- VLAN, fleet address, assigned flag and idle timeout in force when it started (R49) -/
  vlan : Nat
  fleet : Nat
  assigned : Bool
  idle : Nat
  clientPub : Bytes
  clientNonce : Bytes
  deriving DecidableEq, Repr

/-- One entry of the clamp report (R56). -/
structure ClampEntry where
  requester : Nat := 0
  object : Nat := 0
  written : Nat := 0
  applied : Nat := 0
  reason : Nat := 0
  /-- TAI of the write, units of 1/9 ns -/
  time : Nat := 0
  deriving DecidableEq, Repr

/-- One entry of the completion ring (R62). -/
structure ComplEntry where
  handle : Nat := 0
  status : Nat := 0
  result : Nat := 0
  time : Nat := 0
  deriving DecidableEq, Repr

/-- An operation that has returned a handle and has not completed (R39, R62). -/
structure OpenHandle where
  handle : Nat
  src : Requester
  /-- the slice whose reset aborts it (R63) -/
  slice : Option Nat
  deriving DecidableEq, Repr

/-- A signal slot (R64, R444). -/
structure Signal where
  value : Nat := 0
  quality : Nat := 0
  /-- TAI of the last commit, units of 1/9 ns -/
  time : Nat := 0
  forceEn : Bool := false
  forceVal : Nat := 0
  writer : Nat := 255
  /-- type code of R14 -/
  vtype : Nat := 1
  deriving DecidableEq, Repr

/-- A peer entry (R65). -/
structure Peer where
  kind : Nat := 0
  mac : Nat := 0
  vlan : Nat := 0
  appid : Nat := 0
  reference : Bytes := []
  fleet : Nat := 0
  state : Nat := 0
  lastSeen : Nat := 0
  frames : Nat := 0
  deriving DecidableEq, Repr

/-- A write of a peer entry that has not joined a change (R65): entry, subindex, number or string, MONO of its landing, and
the handle of the commit that made it. -/
structure PeerWrite where
  peer : Nat
  field : Nat
  value : Nat := 0
  text : Bytes := []
  at_ : Nat
  txn : Option Nat := none
  deriving DecidableEq, Repr

/-- A domain object (R79). -/
structure Domain where
  /-- bytes written, by offset; a byte not listed reads 0 -/
  bytes : List Host.Cell := []
  len : Nat := 0
  /-- who claims it -/
  owner : Option Requester := none
  deriving DecidableEq, Repr

/-- A mailbox response that Wheelhouse has made and not yet written (R86). -/
structure Response where
  src : Requester
  status : Nat
  bytes : Bytes
  gen : Nat
  deriving DecidableEq, Repr

/-- Wheelhouse and its dictionary. -/
structure Wheel where
  /-- management access objects 0x000200–0x000206 (R49) -/
  fleet : Nat := 0
  fleetAssigned : Bool := false
  idleTimeout : Nat := 60
  maxSessions : Nat := 16
  mgrRole : Nat := 2
  mgmtVlan : Nat := 0
  switchedEn : Bool := false
  /-- requests waiting, at most 64 (R83) -/
  queue : List Request := []
  /-- responses of mailboxes made and not yet written (R87) -/
  responses : List Response := []
  txns : List Txn := []
  sessions : List Session := []
  handshakes : List Handshake := []
  /-- authentication failures: source IP and MONO (R75) -/
  failures : List (Nat × Nat) := []
  /-- source IPs whose HELLOs are ignored, and the MONO of the end (R75) -/
  blocked : List (Nat × Nat) := []
  clampNext : Nat := 0
  clamps : Tbl ClampEntry := []
  complNext : Nat := 0
  completions : Tbl ComplEntry := []
  handles : List OpenHandle := []
  handleSeq : Nat := 0
  noteSeq : Nat := 0
  sessionSeq : Nat := 0
  /-- status counters 0x0201ii.ss, number ii × 256 + ss (R81, R82) -/
  counters : Tbl Nat := []
  /-- domain objects by object number index × 256 + subindex (R79) -/
  domains : Tbl Domain := []
  /-- signal slots (R64) and peers (R65) -/
  signals : Tbl Signal := []
  peers : Tbl Peer := []
  peerWrites : List PeerWrite := []
  /-- open handles under which a write was clamped (R641) -/
  clamped : List Nat := []
  /-- mailbox buffers: bytes at their BAR address (R86) -/
  buffers : List Host.Cell := []
  /-- draws taken from the random bit generator -/
  draws : Nat := 0
  deriving DecidableEq, Repr

/-! ### Sextant (chapter 04) -/

/-- A clock seen by Announce on a PTP port: a candidate of the best master clock algorithm (R128, R129). -/
structure Foreign where
  port : Nat
  /-- sourcePortIdentity, 10 bytes as a number -/
  source : Nat
  /-- grandmaster clockIdentity and its dataset -/
  gmId : Nat
  priority1 : Nat
  clockClass : Nat
  accuracy : Nat
  variance : Nat
  priority2 : Nat
  steps : Nat
  /-- currentUtcOffset and the flag field -/
  utcOffset : Nat
  flags : Nat
  /-- MONO of its last Announce and last Sync -/
  lastAnnounce : Nat
  lastSync : Nat
  /-- MONO of the Announce before its last one -/
  prevAnnounce : Option Nat := none
  deriving DecidableEq, Repr

/-- A pending Sync record (R132). -/
structure SyncRec where
  source : Nat
  seq : Nat
  domain : Nat
  /-- ingress port and timestamp -/
  port : Nat
  arrived : Nat
  /-- origin timestamp of the Sync, and its correctionField -/
  correction : Int
  /-- per egress port, the sum of R131 once the Sync has left -/
  sums : List (Nat × Int) := []
  /-- egress ports the Sync has still to leave by -/
  waiting : List Nat := []
  /-- its Follow_Up has come -/
  matched : Bool := false
  deriving DecidableEq, Repr

/-- Peer delay measurement of one port (R134). -/
structure Pdelay where
  /-- the last valid measurements, newest first, at most 8, in units of 1/9 ns -/
  meas : List Nat := []
  valid : Bool := false
  /-- requests in a row without a valid response -/
  missed : Nat := 0
  /-- the outstanding request: its sequenceId and egress timestamp -/
  asked : Option (Nat × Nat) := none
  seq : Nat := 0
  deriving DecidableEq, Repr

/-- The time engine beside its registers. Instants are in units of 1/9 ns (R144). -/
structure Sextant where
  /-- TAI − MONO; only a step changes it (R140) -/
  off : Int := 0
  /-- numbers of the last Window, pricking frame and hyperperiod boundary taken, counted from TAI 0 (R93, R144) -/
  lastWin : Nat := 0
  lastFrame : Nat := 0
  lastHyper : Nat := 0
  /-- step requested: amount; applied at the next hyperperiod boundary (R140) -/
  step : Option Int := none
  foreign : List Foreign := []
  /-- the selected master: port and sourcePortIdentity -/
  master : Option (Nat × Nat) := none
  /-- consecutive Syncs within 100 ns while ACQUIRING (R135) -/
  good : Nat := 0
  /-- the first offset after FREERUN has been measured (R136) -/
  firstDone : Bool := false
  /-- refused measurements of the jump being confirmed, ns, newest first (R138) -/
  jump : List Int := []
  confirmed : Bool := false
  /-- the offset a slew removes, ns (R139) -/
  slew : Option Int := none
  /-- entry to LOCKED, and to dead reckoning (R137, R135) -/
  lockedAt : Nat := 0
  drAt : Nat := 0
  /-- the seconds were set from a master or by SET_TIME (R135) -/
  secondsSet : Bool := false
  syncRecs : List SyncRec := []
  pdelay : Tbl Pdelay := []
  /-- PPS_IN: consecutive accepted edges and MONO of the last edge (R141) -/
  ppsGood : Nat := 0
  ppsEdge : Nat := 0
  /-- level of PPS_OUT and the MONO of its fall (R142) -/
  ppsOut : Bool := false
  ppsFall : Nat := 0
  /-- sequenceIds of the module's own Sync and Announce (R137) -/
  syncSeq : Nat := 0
  announceSeq : Nat := 0
  /-- MONO of entering the backup role: no better Announce since (R137) -/
  backupSince : Nat := 0
  deriving DecidableEq, Repr

/-! ### Ports, switch core and redundancy (chapters 05–07) -/

/-- One external port beside its registers (R151–R174). Instants are MONO. -/
structure PortX where
  /-- the link has been up without a break since -/
  upSince : Nat := 0
  /-- last 1-to-0 change of FWD (R167) -/
  fwdDown : Nat := 0
  /-- 1-to-0 changes of the link within FLAP_WIN, newest first (R168) -/
  flaps : List Nat := []
  suppressEnd : Nat := 0
  /-- end of the received pause (R162) -/
  pauseEnd : Nat := 0
  /-- quanta of a PAUSE that came while a frame was in transmission: it starts after the frame's last bit (R162) -/
  pauseNext : Option Nat := none
  /-- half duplex: attempts of the frame in transmission, end of its backoff, frames discarded in a row (R158, R159) -/
  attempts : Nat := 0
  backoff : Option Nat := none
  excess : Nat := 0
  quarEnd : Nat := 0
  /-- quanta of PAUSE frames waiting to be sent ahead of every queued frame (R165) -/
  pauseOut : List Nat := []
  /-- when the next repeat of PAUSE is due while flow control holds -/
  refreshAt : Nat := 0
  /-- speed and duplex of the last SGMII control word that showed link up (R642) -/
  wordSpeed : Nat := 0
  wordFull : Bool := false
  /-- the partner's signal is valid for the lane mode; SGMII with AN_EN waits for its control word (R642) -/
  wordSeen : Bool := false
  /-- LANE_MODE and SPEED in force, as one number (R176) -/
  lane : Nat := 2
  deriving DecidableEq, Repr

/-- What a PTP event frame still needs at its egress: the sum of R131 without the residence time, its ingress timestamp,
and for a two-step message its Sync record (R131, R132). Kind 0 one-step Sync, 1 two-step Sync, 2 Follow_Up, 3 the module's
Pdelay_Req, 4 its Pdelay_Resp, 5 its own Sync. -/
structure PtpMark where
  kind : Nat
  base : Int
  arrived : Nat
  source : Nat
  seq : Nat
  domain : Nat
  deriving DecidableEq, Repr

/-- A frame in the switch core (R180). `bytes` run from the destination address to the last byte before the FCS. -/
structure SwFrame where
  id : Nat
  bytes : Bytes
  ingress : Nat
  /-- ingress timestamp, MONO -/
  arrived : Nat
  /-- when it was enqueued -/
  enq : Nat
  cls : Nat
  /-- 0–127 a slice, 128 the module -/
  owner : Nat
  /-- egress ports whose copy has not left yet -/
  ports : List Nat
  /-- the epoch it carries (R186) -/
  epoch : Nat
  cells : Nat
  ctDeny : Bool := false
  tagMode : Nat := 0
  sa : Nat := 0
  /-- tag check: 0 none asked, 1 running, 2 good, 3 failed, 4 missing (R205) -/
  verdict : Nat := 0
  /-- the frame was found bad after its first 64 bytes (R195) -/
  bad : Bool := false
  ptp : Option PtpMark := none
  /-- PRP RCTs or HSR tags to add: group (0–7 pairs, 8–11 rings) and sequence number (R213) -/
  red : List (Nat × Nat) := []
  /-- the SEND descriptor it came from: slice, bobbin, ring index (R407) -/
  send : Option (Nat × Nat × Nat) := none
  /-- super-frame: HDR_LEN, MSS, MODE and the next segment (R172) -/
  tso : Option (Nat × Nat × Nat × Nat) := none
  /-- the publication's security association for tag generation (R206) -/
  genSa : Option Nat := none
  /-- the publication whose frame this is, × 2³² plus its stNum, for its commit time (R27) -/
  pub : Option Nat := none
  deriving DecidableEq, Repr

/-- A frame on the wire of an egress port. -/
structure Tx where
  frame : SwFrame
  /-- the bytes of this copy or segment -/
  bytes : Bytes
  start : Nat
  stop : Nat
  deriving DecidableEq, Repr

/-- A frame that a port has passed to the switch core and that has not completed stage 1. -/
structure Arrival where
  port : Nat
  t : Nat
  bytes : Bytes
  bad : Bool := false
  /-- descriptor of a frame that Wheelhouse, the commit gate or a slice originates: class, egress ports, owner (R180, R229) -/
  desc : Option (Nat × Option (List Nat) × Nat) := none
  send : Option (Nat × Nat × Nat) := none
  tso : Option (Nat × Nat × Nat) := none
  genSa : Option Nat := none
  pub : Option Nat := none
  deriving DecidableEq, Repr

/-- A live version of the tables that change by epochs (R186). -/
structure Epoch where
  num : Nat
  /-- classification entries of 32 bytes by index (R182) -/
  cls : Tbl Bytes := []
  /-- security associations of 8 bytes by index (R204) -/
  sa : Tbl Bytes := []
  peers : Tbl Peer := []
  /-- stream-table entries of 32 bytes by index (R241) -/
  streams : Tbl Bytes := []
  /-- handles that complete when it becomes current (R188) -/
  handles : List Nat := []
  /-- commits whose peer writes it carries (R60, R65) -/
  txns : List Nat := []
  deriving DecidableEq, Repr

/-- A change of the epoch tables that waits for room among the four live epochs (R188), or gathers peer writes (R65). -/
structure TableChange where
  /-- Engineer entries 1,024–4,095 and security associations of a CLS_COMMIT -/
  cls : Option (Tbl Bytes) := none
  sa : Option (Tbl Bytes) := none
  /-- entries 0–1,023 of an admission -/
  adm : Option (Tbl Bytes) := none
  peers : List (Nat × Peer) := []
  /-- stream-table entries that an admission changes; [] removes one -/
  streams : List (Nat × Bytes) := []
  handles : List Nat := []
  /-- commits whose peer writes it carries (R60, R65) -/
  txns : List Nat := []
  /-- it has been counted in SWC_EPOCH_WAIT -/
  counted : Bool := false
  deriving DecidableEq, Repr

/-- A forwarding table entry (R185). -/
structure FdbEntry where
  port : Nat
  last : Nat
  deriving DecidableEq, Repr

/-- The switch core and the ports beside their registers. -/
structure Net where
  px : Tbl PortX := []
  /-- frames passed to the switch core, oldest first -/
  arrivals : List Arrival := []
  /-- frames buffered and enqueued, oldest first; the queue of (ingress, egress, class) is their order here (R189) -/
  frames : List SwFrame := []
  tx : Tbl (Option Tx) := []
  frameSeq : Nat := 0
  /-- round robin: last ingress served, by egress × 8 + class (R190) -/
  rr : Tbl Nat := []
  /-- deficit round robin: bytes left by egress × 8 + class; class in turn, not listed 3; whether it sent in its turn,
  not listed true: class 0 has the first turn (R190) -/
  deficit : Tbl Nat := []
  turn : Tbl Nat := []
  turnSent : Tbl Bool := []
  /-- promotion by egress × 8 + class: 0 none, 1 nothing sent yet, 2 under way; and the bytes left of its quantum
  (R191) -/
  promoted : Tbl Nat := []
  promLeft : Tbl Nat := []
  /-- cells of the admitted pool in use (R197) -/
  admOcc : Nat := 0
  /-- forwarding table by MAC × 4,096 + VID (R185) -/
  fdb : Tbl FdbEntry := []
  /-- token buckets: credit in frames × 9 × 10⁹ and MONO of the last use; not listed: full (R192) -/
  bucket : Tbl (Nat × Nat) := []
  /-- live epochs, oldest first; the first whose number CLS_EPOCH holds is current, later ones are loading -/
  epochs : List Epoch := [{ num := 0 }]
  changes : List TableChange := []
  /-- cells missing at the last audit pass (R201) -/
  auditMiss : Nat := 0
  /-- frames delivered to internal ports 32, 34 and 35 and not yet taken, oldest first -/
  toIngest : List SwFrame := []
  toCapture : List SwFrame := []
  toHost : List SwFrame := []
  /-- SEND descriptors whose last copy has left (R407): slice, bobbin, index, frame length -/
  sendDone : List (Nat × Nat × Nat) := []
  /-- SENDs that a slice's buffer share refused (R198): slice, bobbin, index -/
  sendFull : List (Nat × Nat × Nat) := []
  /-- port M (R156): link and speed are registers; frames delivered to Wheelhouse, not yet taken -/
  fromM : List Bytes := []
  deriving DecidableEq, Repr

/-- A proxied node (R215). -/
structure Node where
  mac : Nat
  seq : Nat
  last : Nat
  deriving DecidableEq, Repr

/-- One PRP pair or HSR ring (R210–R220). -/
structure RedGroup where
  /-- duplicate window, newest first: source MAC, sequence number, MONO (R217) -/
  window : List (Nat × Nat × Nat) := []
  /-- sequence counter of the module's own frames (R214) -/
  seq : Nat := 0
  /-- MONO of the last frame with RCT on PORT_A and PORT_B, and of the first since either was silent (R220) -/
  lastA : Nat := 0
  lastB : Nat := 0
  /-- MONO of the module's own supervision frame not yet returned (R220) -/
  supSent : Option Nat := none
  deriving DecidableEq, Repr

/-- One record of the mirror stream (R231): slice, instance, evaluation number, flags, CRC, and its MONO here. -/
structure MirrorRec where
  slice : Nat
  inst : Nat
  eval : Nat
  flags : Nat
  crc : Nat
  t : Nat
  deriving DecidableEq, Repr

/-- Redundancy beside its registers. -/
structure Redund where
  /-- pairs 0–7, rings 8–11 -/
  groups : Tbl RedGroup := []
  nodes : List Node := []
  nodeFullSeen : List Nat := []
  /-- stored takeover epoch in NOR, and the highest epoch seen (R224) -/
  stored : Nat := 0
  highSeen : Nat := 0
  /-- epoch whose NOR write is in progress, and a claim that waits for a hyperperiod boundary (R224, R225) -/
  writing : Option Nat := none
  claimNext : Option Nat := none
  /-- MONO of UNIT_EN, of the last authenticated heartbeat, and the partner's last STATE byte, claim and digest -/
  enabledAt : Nat := 0
  lastHb : Nat := 0
  partnerState : Nat := 0
  partnerClaim : Nat := 0
  partnerFleet : Nat := 0
  partnerDigest : Nat := 0
  handover : Bool := false
  alert : Bool := false
  txSeq : Nat := 0
  rxSeq : Nat := 0
  /-- sequence number of the supervision frames (R216) -/
  supSeq : Nat := 0
  /-- the admission unit has refused the pair flows, so UNIT_EN acts as 0 (R229) -/
  refused : Bool := false
  /-- the far fix being received in RESYNC_DATA frames (R233) -/
  rxFix : Bytes := []
  /-- evaluations committed in this frame, to be mirrored (R231) -/
  committed : List MirrorRec := []
  /-- own commits and partner records not yet compared (R232) -/
  own : List MirrorRec := []
  partner : List MirrorRec := []
  /-- consecutive mismatches by slice × 512 + instance -/
  mism : Tbl Nat := []
  /-- instances not yet in step, by slice × 512 + instance: 1 to request, 2 requested, 3 replaying (R233) -/
  resync : Tbl Nat := []
  /-- instances that the ACTIVE module mirrors -/
  mirroring : List Nat := []
  /-- last CANNOT_SERVE of a digest difference (R230) -/
  cannotAt : Option Nat := none
  deriving DecidableEq, Repr
/-! ### Sample ingest and filters (chapters 08 and 09) -/

/-- A stored sample (R258, R259): its absolute number, its record, and the value (INT32 pattern) and quality of each
channel. -/
structure Sample where
  a : Nat := 0
  record : Nat := 0
  vals : List Nat := []
  quals : List Nat := []
  /-- MONO of its message timestamp, or of its declaration as SUBSTITUTED (R373) -/
  ref : Nat := 0
  deriving DecidableEq, Repr

/-- A reckoned sample without a verdict: its number, the TAI of its declaration (R249), and |x1| of each channel as F32
(R254). -/
structure OpenSample where
  a : Nat
  declare : Nat
  mag : List Nat
  deriving DecidableEq, Repr

/-- The phasors of one channel kept for a gap (R251): x1, rho and dc, as F32. -/
structure Phasor where
  x1re : Nat
  x1im : Nat
  rhoRe : Nat
  rhoIm : Nat
  rhoAbs : Nat
  unit : Bool
  dc : Nat
  deriving DecidableEq, Repr

/-- A stream beside its registers. -/
structure StreamX where
  /-- removed; its ring stays until its last epoch retires (R257) -/
  gone : Bool := false
  /-- the entry in force, and the one before it with the TAI of the change (R247) -/
  entry : Bytes := []
  prev : Bytes := []
  changed : Nat := 0
  /-- first sample number counted since STARTING was entered, and the real samples stored since (R253, R256) -/
  since : Nat := 0
  real : Nat := 0
  /-- the number whose check comes next (R248) -/
  next : Nat := 0
  /-- the number that the filter chain takes next -/
  front : Nat := 0
  /-- last real sample: number, values, qualities, and MONO of its storing -/
  lastReal : Option Nat := none
  lastVals : List Nat := []
  lastQuals : List Nat := []
  lastRealAt : Nat := 0
  /-- phasors of the present gap, with the base number k they were made from -/
  base : Option Nat := none
  phasors : List Phasor := []
  /-- reckoned samples without a verdict, oldest first -/
  opens : List OpenSample := []
  newest : Option Nat := none
  /-- number of the last Sample boundary passed (R93) -/
  bound : Nat := 0
  deriving DecidableEq, Repr

/-- A channel slot: the newest sample written to it (R246). -/
structure ChSlot where
  a : Nat := 0
  val : Nat := 0
  qual : Nat := 0
  record : Nat := 0
  deriving DecidableEq, Repr

/-- One output of a filter slot: input position, value, quality, flags (R273, R274): RINGING 1, SAT 2, SETTLING 4,
PROVISIONAL 8. -/
structure FOut where
  a : Nat
  val : Nat
  qual : Nat
  flags : Nat
  deriving DecidableEq, Repr

/-- A filter slot beside its registers: its newest outputs, newest first, at most 8, and the first input number after
the last apply of its chain (R273, R276). -/
structure FSlot where
  outs : List FOut := []
  applied : Nat := 0
  deriving DecidableEq, Repr

/-- Ingest engine and filter chain beside their registers. -/
structure Ingest where
  streams : Tbl StreamX := []
  /-- the rings, by stream × 2¹⁸ + index (R258) -/
  store : Tbl Sample := []
  /-- the details: qualities of the sample last written at stream × 256 + (a mod 256) -/
  details : Tbl (List Nat) := []
  slots : Tbl ChSlot := []
  filters : Tbl FSlot := []
  /-- samples that an uncorrectable error struck: stream, number (R573) -/
  struck : List (Nat × Nat) := []
  deriving DecidableEq, Repr

/-! ### Torchon array, speculation and admission (chapters 10–12) -/

/-- The machine context of an evaluation or a scan cycle (R298): scalar and vector registers that are not 0, pc, the FP
flags and the cycles charged. -/
structure Ctx where
  sreg : Tbl Nat := []
  vreg : Tbl Nat := []
  pc : Nat := 0
  flags : Nat := 0
  cycles : Nat := 0
  deriving DecidableEq, Repr

/-- An input template (R312). -/
structure InTpl where
  kind : Nat
  vtype : Nat
  hist : Nat
  maxAge : Nat
  deriving DecidableEq, Repr

/-- An output template (R312). -/
structure OutTpl where
  kind : Nat
  vtype : Nat
  trip : Bool
  safe : Nat
  deriving DecidableEq, Repr

/-- A program image as admitted (R312). -/
structure Prog where
  dom : Nat := 0
  typeId : Nat := 0
  typeVer : Nat := 0
  entry : Nat := 0
  stepMax : Nat := 1
  ins : List InTpl := []
  outs : List OutTpl := []
  code : Bytes := []
  deriving DecidableEq, Repr

/-- A far fix of one instance in DRAM (R343, R345): the number of the last final evaluation, the frame (s × 14,400 + j)
of its boundary, its data. -/
structure FarFix where
  last : Nat
  frame : Nat
  disabled : Bool
  data : List Host.Cell
  deriving DecidableEq, Repr

/-- An entry of a signal journal (R344): evaluation, input, value and quality as latched. -/
structure SigEntry where
  n : Nat
  input : Nat
  value : Nat
  qual : Nat
  deriving DecidableEq, Repr

/-- An admitted instance (R291, R313, R369). Evaluations are numbered by ⌊a / DIV⌋ without the reduction modulo 2³²
(R323). -/
structure Inst where
  prog : Prog := {}
  set : Nat := 0
  policy : Nat := 0
  test : Bool := false
  trigger : Nat := 0
  div : Nat := 1
  dataLen : Nat := 0
  deadline : Nat := 0
  inB : List Nat := []
  outB : List Nat := []
  init : Bytes := []
  /-- placement: logical tile, block length, backlog depth, largest gap in ns, run-ahead, block starts, bounds in ns -/
  ltile : Nat := 0
  k : Nat := 1
  depth : Nat := 1
  gap : Nat := 0
  ra : Nat := 0
  blocks : List Nat := []
  bPub : Nat := 0
  bCalc : Nat := 0
  /-- HOST_PATH_NS at admission (R374, R384) -/
  host : Nat := 0
  /-- instance data, bytes that are not 0 -/
  data : List Host.Cell := []
  /-- the evaluation not yet started next, the last final one and the last committed one -/
  next : Nat := 0
  lastFinal : Option Nat := none
  lastCommit : Option Nat := none
  /-- last committed value of each output -/
  lastOut : Tbl Nat := []
  /-- FB_DISABLE: first evaluation not started (R348) -/
  stopAt : Option Nat := none
  /-- handles that wait for the last commit; with each of a withdrawal the number of items it reports (R348, R363) -/
  stops : List (Nat × Option Nat) := []
  /-- the last evaluation counted as deferred (R327, R331) -/
  deferred : Option Nat := none
  /-- the newest and the older far fix, and the one being written (R343) -/
  far : List FarFix := []
  farNew : Option FarFix := none
  /-- values latched at the previous evaluation, the journal newest first, and intervals (far-fix frame numbers) whose
  journal overflowed (R344) -/
  sigLast : Tbl (Nat × Nat) := []
  journal : List SigEntry := []
  journalOver : List Nat := []
  /-- a withdrawal is in progress: the instance is removed after its last commit (R363) -/
  leaving : Bool := false
  /-- ranges of numbers, end excluded, that no evaluation ran under: lost, or passed over while disabled (R340, R349) -/
  skips : List (Nat × Nat) := []
  deriving DecidableEq, Repr

/-- An evaluation that has started and has not committed, or one replayed to rebuild data (R328, R330, R334). -/
structure Eval where
  /-- instance, number and trigger sample -/
  inst : Nat
  n : Nat
  a : Nat
  ctx : Ctx := {}
  /-- staged outputs: value and quality by number (R307) -/
  outs : Tbl (Nat × Nat) := []
  /-- LDSS reads by input (R305) -/
  reads : Tbl Nat := []
  /-- latched signal inputs: value and quality by input (R293) -/
  sigs : Tbl (Nat × Nat) := []
  /-- pre-images of the 64-byte lines stored to, and every line stored to (R329) -/
  pre : List (Nat × Bytes) := []
  lines : List Nat := []
  unjournalled : Bool := false
  /-- 0 running, 1 ended, 2 faulted, 3 not run (BLOCK_ALL or a refused test), 4 lost -/
  phase : Nat := 0
  cause : Nat := 0
  final : Bool := false
  /-- substituted at its end (R295), and a test evaluation (R296) -/
  subst : Bool := false
  test : Bool := false
  /-- replayed to rebuild the data only: it commits nothing -/
  rebuild : Bool := false
  /-- it loaded a reckoned sample or a provisional output: the RECKONED flag of its mirror record (R231) -/
  reckoned : Bool := false
  /-- mode of the tile, and generation of the slice, at its start (R37) -/
  deep : Bool := false
  gen : Nat := 0
  /-- an LDSS waits for its data: destination register, input and age (R305) -/
  wait : Option (Nat × Nat × Nat) := none
  deriving DecidableEq, Repr

/-- A verdict on a sample (R250): 1 CONFIRMED, 2 MISMATCH, 3 SUBSTITUTED. -/
structure SampleVerdict where
  stream : Nat
  a : Nat
  kind : Nat
  deriving DecidableEq, Repr

/-- A fix of a tile (R342): its frame, whether it is complete, and the number and data of each instance. -/
structure TileFix where
  frame : Nat
  complete : Bool
  insts : List (Nat × Nat × List Host.Cell)
  deriving DecidableEq, Repr

/-- An evaluation to replay: instance, number, whether it rebuilds data only. -/
structure Replay where
  inst : Nat
  n : Nat
  rebuild : Bool
  deriving DecidableEq, Repr

/-- A tile beside its registers. -/
structure Tile where
  /-- evaluations started and not committed -/
  evals : List Eval := []
  /-- the one that executes: instance and number -/
  cur : Option (Nat × Nat) := none
  /-- newest fix first, at most two -/
  fixes : List TileFix := []
  /-- lines of instance data changed by evaluations that became final in this frame: instance, line -/
  changed : List (Nat × Nat) := []
  /-- fixes in a row that did not complete (R571) -/
  missed : Nat := 0
  verdicts : List SampleVerdict := []
  replay : List Replay := []
  /-- TILE_MODE: new mode, TAI of its boundary, handle; and after the boundary the handle with its result (R347) -/
  modeNext : Option (Bool × Nat × Nat) := none
  modeDone : Option (Nat × Nat) := none
  /-- words that have had an uncorrectable error: memory × 2²⁴ + word (R571) -/
  struck : List Nat := []
  /-- types whose program is being reloaded (R569) -/
  reloading : List Nat := []
  /-- a spare that loads programs and far fixes: MONO of the start of its loading (R572) -/
  loading : Bool := false
  deriving DecidableEq, Repr

/-- A publication (R376–R378): its table entry, the frame with its present values, the descriptors, its state. -/
structure Pub where
  entry : Bytes := []
  /-- template and descriptors as staged (R360, R377) -/
  tpl : Bytes := []
  frame : Bytes := []
  descs : List Nat := []
  stNum : Nat := 0
  sqNum : Nat := 0
  /-- interval to the next repeat in ms, and its MONO -/
  interval : Nat := 0
  next : Option Nat := none
  tPub : Nat := 0
  deriving DecidableEq, Repr

/-- A requested admission (R360). -/
structure AdmReq where
  kind : Nat
  slice : Nat
  obj : Nat
  check : Bool
  deep : Bool
  src : Requester
  handle : Nat
  deriving DecidableEq, Repr

/-- A standard function block of a scan program (R446). -/
structure SfbEntry where
  id : Nat
  type : Nat
  off : Nat
  deriving DecidableEq, Repr

/-- A scan program image as admitted (R446): bindings are (KIND, VTYPE, TARGET). -/
structure ScanProg where
  dom : Nat := 0
  progId : Nat := 0
  progVer : Nat := 0
  entry : Nat := 0
  wc : Nat := 1
  dataLen : Nat := 8
  ovr : Nat := 200
  period : Nat := 0
  ins : List (Nat × Nat × Nat) := []
  outs : List (Nat × Nat × Nat) := []
  sfbs : List SfbEntry := []
  code : Bytes := []
  init : Bytes := []
  /-- share it was admitted with, published CT in ns, core -/
  share : Nat := 0
  ct : Nat := 0
  core : Nat := 0
  deriving DecidableEq, Repr

/-- An admitted request waiting for its instant (R363), with what it changes. -/
structure AdmPlan where
  req : AdmReq
  /-- TAI of the apply instant -/
  at_ : Nat
  items : Nat := 0
  streams : List (Nat × Bytes) := []
  insts : List (Nat × Inst) := []
  leave : List Nat := []
  pubs : List (Nat × Option Pub) := []
  scan : List (Nat × ScanProg) := []
  scanLeave : List Nat := []
  chains : List (Nat × Nat × Nat) := []
  quad : Option (Nat × Nat) := none
  /-- instances admitted before and placed anew: tile mode, quad clock (R364) -/
  moved : List (Nat × Inst) := []
  /-- logical tiles opened, and whether in Deep mode -/
  opened : List (Nat × Bool) := []
  /-- logical tiles whose ROLLBACK blocks change: number of slots and starts (R370) -/
  rbs : List (Nat × Nat × List Nat) := []
  deriving DecidableEq, Repr

/-- An FB_EXCHANGE accepted (R350): slice, old and new set, map entries (TYPE_ID, OLD_VER, NEW_VER, entries), TAI of X,
the new instances, the instances still to apply, and the report so far. -/
structure Exchange where
  slice : Nat
  oldSet : Nat
  newSet : Nat
  map : Option (Nat × Nat × Nat × List Bytes)
  at_ : Nat
  handle : Nat
  news : List (Nat × Inst)
  waiting : List Nat
  opened : List (Nat × Bool) := []
  rbs : List (Nat × Nat × List Nat) := []
  report : List (Nat × Nat × Nat) := []
  released : List Nat := []
  forcesDone : Bool := false
  deriving DecidableEq, Repr

/-- A recovery under way for an instance (R574): KIND, restore source, physical tile of the fault, TAI of detection. -/
structure Recovery where
  inst : Nat
  kind : Nat
  restore : Nat
  tile : Nat
  at_ : Nat
  outside : Bool := false
  /-- first and last evaluation lost -/
  lost : Option (Nat × Nat) := none
  deriving DecidableEq, Repr

/-- Torchon, the commit gate and the admission unit beside their registers. -/
structure Torchon where
  insts : Tbl Inst := []
  tiles : Tbl Tile := []
  /-- the physical tile of each allocated logical tile, plus 1 -/
  phys : Tbl Nat := []
  pubs : Tbl Pub := []
  /-- GOOSE outputs committed and not yet on the wire: publication, instance, limit in MONO, quad (R385) -/
  outWait : List (Nat × Nat × Nat × Nat) := []
  /-- admission: requests waiting, computed plans waiting, refused items -/
  queue : List AdmReq := []
  plans : List AdmPlan := []
  /-- starts of the ROLLBACK blocks of each Deep logical tile (R370) -/
  rbs : Tbl (List Nat) := []
  exchanges : List Exchange := []
  recoveries : List Recovery := []
  /-- NEXT and TOTAL of the recovery report (R574) -/
  rcvNext : Nat := 0
  rcvTotal : Nat := 0
  deriving DecidableEq, Repr

/-! ### Scan engine (chapter 14) -/

/-- A cycle in progress (R429). -/
structure Cycle where
  ctx : Ctx := {}
  /-- MONO and TAI of the Latch -/
  latch : Nat := 0
  tai : Nat := 0
  image : Tbl (Nat × Nat) := []
  work : List Host.Cell := []
  outs : Tbl (Nat × Nat) := []
  /-- it has passed WC charged cycles, and OVR_LIMIT (R441) -/
  wcOver : Bool := false
  late : Bool := false
  deriving DecidableEq, Repr

/-- An accepted SCAN_EXCHANGE (R448): TAI of X, the new image, the map entries, the handle, and whether the old program
has committed its last cycle. -/
structure ScanExch where
  at_ : Nat
  prog : ScanProg
  map : List Bytes
  handle : Nat
  done : Bool := false
  /-- X has come: the slots whose forces it released (R445) -/
  released : Option (List Nat) := none
  deriving DecidableEq, Repr

/-- The scan program of a slice beside its registers. -/
structure Scan where
  prog : ScanProg := {}
  /-- committed half -/
  data : List Host.Cell := []
  /-- cycles that have reached Latch -/
  number : Nat := 0
  /-- MONO of the first latch, k of the cycle due next, and a skip has been reported since the last cycle not skipped -/
  first : Option Nat := none
  due : Nat := 0
  skipped : Bool := false
  cycle : Option Cycle := none
  /-- MONO of the last commit: a free-running cycle latches at the first Window boundary after it -/
  ready : Nat := 0
  holdPend : Bool := false
  /-- it is withdrawn after the cycle in progress, with the handle that completes then -/
  leaving : Bool := false
  handle : Option Nat := none
  exch : Option ScanExch := none
  /-- the committed half has had an uncorrectable error (R440) -/
  struck : Bool := false
  lastOut : Tbl Nat := []
  deriving DecidableEq, Repr

/-! ### Slices (chapter 13) -/

/-- A grant (R399). -/
structure Grant where
  kind : Nat := 0
  first : Nat := 0
  count : Nat := 0
  rights : Nat := 1
  deriving DecidableEq, Repr

/-- A descriptor fetched and not completed (R408): bobbin, ring index, its 32 bytes; 1 waiting for payload, 2 in the
switch core or a posted buffer, 3 done with its status, info, word and flags. `at_` is the MONO of its last DMA request. -/
structure Desc where
  bobbin : Nat
  index : Nat
  bytes : Bytes := []
  phase : Nat := 0
  status : Nat := 0
  info : Nat := 0
  word : Nat := 0
  flags : Nat := 0
  at_ : Nat := 0
  deriving DecidableEq, Repr

/-- A slice command in progress (R393–R395). -/
structure SliceCmd where
  op : Nat
  src : Requester
  handle : Nat
  full : Bool := false
  /-- RESTORE waits for its admission: the sets and the scan domain of the blob, and its plaintext (R424) -/
  waitAdm : List Nat := []
  blob : Bytes := []
  deriving DecidableEq, Repr

/-- A slice beside its registers. -/
structure Slice where
  grants : Tbl Grant := []
  /-- grant fields written and waiting for the Window boundary: entry, field (1–4), value, requester handle (R399) -/
  grantPend : List (Nat × Nat × Nat × Nat) := []
  label : Bytes := []
  /-- PASID and link it is bound to (R389) -/
  pasid : Nat := 0
  link : Nat := 0
  cmd : Option SliceCmd := none
  /-- copies of SQ_TAIL and CQ_HEAD by bobbin (R408) -/
  sqTail : Tbl Nat := []
  cqHead : Tbl Nat := []
  descs : List Desc := []
  /-- completion entries held while FROZEN: bobbin and the 32 bytes without PHASE (R418) -/
  hold : List (Nat × Bytes) := []
  /-- bobbins that were in ERROR when the slice became FROZEN (R418) -/
  errs : List Nat := []
  deriving DecidableEq, Repr


/-! ### Binnacle (chapter 17) -/

/-- A key slot (R502, R503); the key itself never leaves the Binnacle (R494). -/
structure KeySlot where
  /-- 0 EMPTY, 1 ACTIVE, 2 ORPHANED -/
  state : Nat := 0
  kind : Nat := 0
  usage : Nat := 0
  parent : Nat := 0
  owner : Nat := 0
  keyId : Nat := 0
  version : Nat := 0
  key : Bytes := []
  deriving DecidableEq, Repr

/-- A valid key journal slot (R514). Its entries are listed with their keys; `chainTag` names the chain under whose CR
they are wrapped. -/
structure Journal where
  counter : Nat
  chainTag : Bytes
  lsCheck : Bytes
  lmsNext : Nat
  base : Nat := 0
  slrEpoch : Tbl Nat := []
  entries : Tbl KeySlot := []
  deriving DecidableEq, Repr

/-- A journal commit in progress or waiting (R516): what it changes (1 a slot takes a key, 2 a slot is emptied, 3 only what
has changed already, 4 genesis, 5 leaves reserved, 6 the reseal area confirmed, 7 the reseal area prepared), the slot and
its new content, what the operation still needs (nonce of an attestation, component digests), its handle and result. -/
structure Commit where
  what : Nat
  slot : Nat := 0
  key : KeySlot := {}
  data : List Bytes := []
  handle : Option Nat := none
  clamped : Bool := false
  deriving DecidableEq, Repr

/-- The Binnacle beside its registers. -/
structure Binnacle where
  /-- the Lodestone in PD0 SRAM: 48 bytes, or none when it has never been drawn or was zeroed (R496, R497) -/
  lodestone : Option Bytes := none
  slots : Tbl KeySlot := []
  j0 : Option Journal := none
  j1 : Option Journal := none
  reseal : Option Journal := none
  /-- measurement chain value C and the digests of the running components (R499) -/
  chain : Bytes := List.replicate 48 0
  digests : List Bytes := []
  bootNonce : Bytes := []
  slrEpoch : Tbl Nat := []
  /-- next HSS leaf to use, and the first leaf not reserved (R521) -/
  leaf : Nat := 0
  lmsNext : Nat := 0
  /-- the sender of pair frames uses slot 0x0006 (R506) -/
  pairRolled : Bool := false
  /-- applied user table, 160-byte entries (R513) -/
  users : Tbl Bytes := []
  /-- the commit in progress and those that wait for it, oldest first -/
  commits : List Commit := []
  /-- the first commit has started: HOLDUP holds others back (R516, R539) -/
  writing : Bool := false
  /-- result of the last operation that another block asked for -/
  lastAnswer : Bytes := []
  deriving DecidableEq, Repr

/-! ### Logbook (chapter 21) -/

/-- A record waiting to be written (R587, R588); SEQ, LOST and the CRC are added when it is written. -/
structure LogRec where
  type : Nat
  source : Nat
  flags : Nat := 0
  code : Nat
  stxState : Nat
  info : Nat
  opSec : Nat
  opMs : Nat
  pcyc : Nat
  /-- TAI, units of 1/9 ns -/
  tai : Nat
  aux : Nat := 0
  /-- snapshot pairs (offset, value) (R592) -/
  snap : List (Nat × Nat) := []
  body : Bytes := []
  deriving DecidableEq, Repr

/-- A clear in progress (R597): its scope, the SEQ range, the count of records and the handle. -/
structure LogClear where
  scope : Nat
  firstSeq : Nat
  lastSeq : Nat
  count : Nat
  user : Nat
  handle : Nat
  deriving DecidableEq, Repr

/-- The Logbook beside its registers. -/
structure Logbook where
  queue : List LogRec := []
  /-- records in the NOR areas by slot, 256 bytes each; a slot not listed is erased (R585) -/
  perm : Tbl Bytes := []
  circ : Tbl Bytes := []
  /-- records dropped since the last record written (R594) -/
  lost : Nat := 0
  dropRaised : Bool := false
  /-- events recorded per source in the current second of operating time: source ↦ (second, count) -/
  rate : Tbl (Nat × Nat) := []
  /-- the applied trigger table and snapshot lists (R591), by source and by list × 24 + entry -/
  trigger : Tbl Bytes := []
  lists : Tbl Nat := []
  /-- LOG_APPLY waits for the next Window boundary; the handles -/
  applyPend : List Nat := []
  /-- the clear intent in the control sector (R597) -/
  clear : Option LogClear := none
  deriving DecidableEq, Repr
/-! ### Disturbance capture (chapter 15) -/

/-- Something staged (R470–R472): a row of a tick at a divisor, or a whole record of another type. `opens` says that the
row begins a SAMPLES record. -/
structure CapItem where
  tick : Option (Nat × Nat) := none
  opens : Bool := false
  bytes : Bytes
  deriving DecidableEq, Repr

/-- A posted buffer being filled (R469): its ring index and size, the slice's generation, the records closed, the
SAMPLES record open (first tick, divisor, rows), the first row, and the MONO of the first record. -/
structure CapBuf where
  index : Nat
  len : Nat
  gen : Nat
  at_ : Nat
  div : Nat
  recs : Bytes := []
  open_ : Option (Nat × Nat × List Bytes) := none
  first : Option Nat := none
  deriving DecidableEq, Repr

/-- A capture set beside its registers (R460–R475). -/
structure CapSet where
  /-- the entry and the member entries in force; [] for no set -/
  entry : Bytes := []
  members : List Nat := []
  staging : List CapItem := []
  /-- eighths of a byte of the oldest staged item that have drained (R472) -/
  moved : Nat := 0
  buf : Option CapBuf := none
  /-- the next buffer is the first after an apply -/
  fresh : Bool := true
  /-- rows since the last record boundary, and the tick and divisor of the last row -/
  rows : Nat := 0
  lastRow : Option (Nat × Nat) := none
  /-- MARK records waiting for staging (R468) -/
  marks : List Bytes := []
  /-- MONO of the last firing and the last stNum accepted, by trigger entry (R466, R467) -/
  fired : Tbl Nat := []
  stNum : Tbl (Option Nat) := []
  /-- end of the post-trigger hold (R475) -/
  holdEnd : Option Nat := none
  /-- last step of the divisor, since when the fill is low, and a step waiting for its tick (R473, R474) -/
  lastStep : Option Nat := none
  lowSince : Option Nat := none
  step : Option Nat := none
  /-- first and last tick not written, and their number (R475) -/
  gap : Option (Nat × Nat × Nat) := none
  deriving DecidableEq, Repr

/-- A value of a signal slot before a commit or a force (R465): slot, TAI of the change, value, quality, forced. -/
structure SigPast where
  slot : Nat
  tai : Nat
  value : Nat
  qual : Nat
  forced : Bool
  deriving DecidableEq, Repr

/-- An accepted CAP_APPLY (R461, R462): TAI of its Window boundary, its handle, whether a field was clamped, and the sets
by number. -/
structure CapPlan where
  at_ : Nat
  handle : Nat
  clamped : Bool
  sets : List (Bytes × List Nat)
  deriving DecidableEq, Repr

/-- The capture engine beside its registers. -/
structure Capture where
  sets : Tbl CapSet := []
  plans : List CapPlan := []
  past : List SigPast := []
  /-- end of the module's drive of each XTRIG line (R468), MONO -/
  drive : Tbl Nat := []
  /-- last set served, by slice (R472) -/
  turn : Tbl Nat := []
  deriving DecidableEq, Repr

/-! ### Supervision ADC and fans (chapters 16 and 22) -/

/-- A conversion request that waits for the converter (R486, R487): its channel, due instant (MONO), and whether it fell
due while the converter was down. -/
structure AdcWait where
  req : Nat
  chan : Nat
  due : Nat
  wake : Bool
  deriving DecidableEq, Repr

/-- The conversion in progress: MONO of its sampling instant. -/
structure AdcConv where
  req : Nat
  chan : Nat
  sampled : Nat
  late : Bool
  wake : Bool
  deriving DecidableEq, Repr

/-- The converter beside its registers. -/
structure Adc where
  conv : Option AdcConv := none
  waiting : List AdcWait := []
  /-- due instants of software and fan-edge requests that their triggers have set (R485): request, channel, MONO -/
  armed : List (Nat × Nat × Nat) := []
  /-- end of the start-up in progress (R487) -/
  wakeAt : Option Nat := none
  /-- MONO of the last overrange result, and of the start of the last conversion (R484, R487) -/
  ovrAt : Option Nat := none
  last : Nat := 0
  /-- the Sounding step in progress: 0 REF, 1 GND, 2 + 3c + k LOOP of channel c at −8, 0, +8 V (R489, R490) -/
  test : Option Nat := none
  /-- time words latched by a read of their result word, by address (R488) -/
  latch : Tbl (Option Nat) := []
  /-- duty in force and MONO of the period's start, by fan (R622) -/
  fans : Tbl (Nat × Nat) := []
  deriving DecidableEq, Repr

/-! ### Power, update and self-test (chapters 18–20 and 22) -/

/-- The power sequencer beside its registers. Instants are MONO. -/
structure Power where
  /-- the supply is valid (R531), and its instant -/
  valid : Bool := false
  validAt : Nat := 0
  /-- domains that have reported power-good, bit per domain (R531) -/
  good : Nat := 0
  /-- SAFE (R532) -/
  safe : Bool := false
  /-- the control processor is in reset (R529), with its cause: 1 command, 2 watchdog, 3 firmware region of DRAM -/
  down : Option Nat := none
  /-- its resets within 600 s, newest first (R533) -/
  resets : List Nat := []
  /-- tiles that failed meanwhile, whose spares are bound when Wheelhouse resumes (R529) -/
  lateTiles : List Nat := []
  /-- entry of HOLDUP, and MOD_STATE before it (R539, R540) -/
  holdAt : Option Nat := none
  before : Nat := 0
  /-- cause of the next cold reset (R528) -/
  cause : Nat := 1
  /-- the module is off after a thermal shutdown until this instant (R627) -/
  thermal : Option Nat := none
  /-- port groups in reset (R527), bit per group, with the handle of PWR_RESET -/
  groups : Nat := 0
  groupHandle : Tbl Nat := []
  /-- blocks fenced (R534) -/
  fenced : List Blk := []
  /-- settings applied; the handles of the stored functions submitted, and the ADMIT arguments still to submit (R536) -/
  settled : Bool := false
  boot : Option (List Nat) := none
  bootLeft : List Bytes := []
  /-- MOD_STATE has left BOOT: the stored functions have been submitted once -/
  started : Bool := false
  /-- the staged capture table of the settings waits for the stored functions it names (R536, R461) -/
  capDue : Bool := false
  /-- MONO since which MOD_STATE has been RUN without a fence (R558) -/
  runSince : Option Nat := none
  deriving DecidableEq, Repr

/-- A firmware slot (R548): a copy of the manifest and the image. -/
structure FwSlot where
  man : Bytes := []
  image : Bytes := []
  deriving DecidableEq, Repr

/-- A copy of the slot-select record (R555). -/
structure SlotRec where
  counter : Nat := 0
  active : Nat := 0
  prev : Nat := 0
  trial : Bool := false
  left : Nat := 0
  pkgId : Nat := 0
  secMin : List Nat := [0, 0, 0, 0, 0]
  setPos : Nat := 0
  deriving DecidableEq, Repr

/-- A record of a settings image (R563): object, type code, kind 1 value, 2 domain, 3 admission, bytes. -/
structure SetRecord where
  object : Nat
  type : Nat
  kind : Nat
  bytes : Bytes
  deriving DecidableEq, Repr

/-- A generation of the settings store (R561–R563). -/
structure SetGen where
  counter : Nat := 0
  sfmt : Nat := 0
  created : Nat := 0
  recs : List SetRecord := []
  deriving DecidableEq, Repr

/-- Firmware and settings update beside its registers. -/
structure Update where
  /-- the two copies of the record, and the images by component × 2 + slot (R548, R555) -/
  rec0 : Option SlotRec := none
  rec1 : Option SlotRec := none
  slots : Tbl FwSlot := []
  /-- granules staged, by number, and the operating time of the last block (R550, R551) -/
  granules : Tbl Bool := []
  lastBlock : Nat := 0
  /-- the staged package is in its slots (R552) -/
  installed : Bool := false
  /-- handle of the UPD_INSTALL whose flash writes are in progress (R552) -/
  installing : Option Nat := none
  /-- generations of the settings store by position × 2 + generation (R561) -/
  gens : Tbl SetGen := []
  /-- MONO of the first change not yet written (R562) -/
  dirty : Option Nat := none
  /-- the applied ADMITs in stored order: their four arguments (R360, R563) -/
  admits : List Bytes := []
  /-- confirmations (2) and reverts (3) that wait for the end of HOLDUP, with their handles (R539, R558) -/
  waiting : List (Nat × Nat) := []
  /-- how this boot fell back to the old images (R557): 0 not, else the cause; 10 + cause: the next boot will have -/
  fallen : Nat := 0
  deriving DecidableEq, Repr

/-- A record of the fault map (R580). -/
structure FaultRec where
  block : Nat
  unit : Nat
  mem : Nat
  kind : Nat
  addr : Nat := 0
  bits : Nat := 0
  check : Nat := 0
  repair : Nat := 0
  count : Nat := 1
  firstSeen : Nat := 0
  deriving DecidableEq, Repr

/-- Sounding beside its registers. -/
structure Sounding where
  /-- fault map (R580) -/
  map : List FaultRec := []
  /-- spare rows used, by memory (R576), and rows repaired: memory and row -/
  spares : Tbl Nat := []
  repaired : List (Nat × Nat) := []
  /-- consecutive scrubs that found a word's error again: memory, word, count (R576) -/
  found : List (Nat × Nat × Nat) := []
  /-- words that have had an uncorrectable error since the last reset of their domain: memory, word -/
  struck : List (Nat × Nat) := []
  /-- units tested in the present pass, passes complete, and handles of SND_PASS (R578, R581) -/
  tested : List Blk := []
  passes : Nat := 0
  handles : List Nat := []
  /-- windows in a row with the OCXO beyond ±20 ppm (R577) -/
  ocxoBad : Nat := 0
  deriving DecidableEq, Repr


/-! ### What left the module -/

/-- A record of what the module sent or showed to the outside. -/
inductive Output where
  /-- data of a register read on a host link -/
  | readData (link addr value : Nat)
  /-- an MSI-X message: link, requester function, address, data (R115, R117) -/
  | msix (link fn addr data : Nat)
  /-- a memory write to host memory: link, PASID, address, bytes (R390) -/
  | hostWrite (link pasid addr : Nat) (bytes : Bytes)
  /-- a memory read request to host memory: link, PASID, address, length -/
  | hostRead (link pasid addr len : Nat)
  /-- a Chartroom datagram to an IP address -/
  | chartroom (ip : Nat) (bytes : Bytes)
  /-- a frame started on an external port or port M (32) -/
  | frame (port : Nat) (bytes : Bytes)
  /-- a cut-through frame ended with an inverted FCS (R195) -/
  | stomped (port : Nat) (bytes : Bytes)
  /-- a change of level on an output pin: its name number and level -/
  | pin (name level : Nat)
  /-- a line of text on the service UART: the step of R531, or the domain whose fence it tells (R623) -/
  | uart (fence : Bool) (n : Nat)
  /-- a byte of XMODEM on the service UART (R564) -/
  | uartByte (b : Byte)
  deriving DecidableEq, Repr

/-! ### The state -/

/-- The state of the module. -/
structure State where
  /-- commands waiting, first in, first out -/
  pending : List Instr := []
  /-- MONO: time since power-up in units of 1/9 ns (R144) -/
  mono : Nat := 0
  /-- operating-seconds counter of PD0 at power-up, units of 1/9 ns (R587) -/
  opBase : Nat := 0
  /-- what manufacture and wiring fix (R5, R101, R624) -/
  ident : Ident := {}
  /-- register fields that differ from their reset value, by `Fld.key` -/
  regs : Tbl Word := []
  hif : HostIf := {}
  wh : Wheel := {}
  stx : Sextant := {}
  log : Logbook := {}
  net : Net := {}
  red : Redund := {}
  sv : Ingest := {}
  tor : Torchon := {}
  scan : Tbl Scan := []
  slices : Tbl Slice := []
  bnc : Binnacle := {}
  cap : Capture := {}
  adc : Adc := {}
  pwr : Power := {}
  upd : Update := {}
  snd : Sounding := {}
  /-- what left the module, newest first -/
  out : List Output := []
  /-- free values taken so far (log entry 3) -/
  freeTick : Nat := 0
  deriving DecidableEq, Repr

/-- The module right after reset: every field at its default, every register field at its reset value, and the four
tiles 15, 31, 47 and 63 held as spares (R316). -/
def State.reset : State :=
  { regs := [(((0x400400 + 0x20 * 15) * 32), 2), (((0x400400 + 0x20 * 31) * 32), 2),
             (((0x400400 + 0x20 * 47) * 32), 2), (((0x400400 + 0x20 * 63) * 32), 2)] }

end Sys2Proof.Machine
end

