-- ==== Sys2Proof/Machine/RegsHost.lean ====
section
/-!
DEFINITION. The register fields of the blocks named below, one constant per field, copied from the
spec's register tables (R13: access codes; R93: boundaries). Each docstring names the rule whose table holds it.
-/

namespace Sys2Proof.Machine.Reg

/-- R101: REV, offset 0x000 [15:0], RO. -/
def hif_REV : Fld :=
  { blk := 18, base := 0x0, lo := 0, wid := 16, acc := .ro, reset := 16897 }

/-- R101: PART, offset 0x000 [31:16], RO. -/
def hif_PART : Fld :=
  { blk := 18, base := 0x0, lo := 16, wid := 16, acc := .ro, reset := 17424 }

/-- R101: SPLIT, offset 0x004 [0], RO. -/
def hif_SPLIT : Fld :=
  { blk := 18, base := 0x4, lo := 0, wid := 1, acc := .ro }

/-- R101: COMPAT_A, offset 0x010 [0], RWB. -/
def hif_COMPAT_A : Fld :=
  { blk := 18, base := 0x10, lo := 0, wid := 1, acc := .rwb, bnd := .linkIdle, own := true, cfg := true }

/-- R101: COMPAT_B, offset 0x010 [1], RWB. -/
def hif_COMPAT_B : Fld :=
  { blk := 18, base := 0x10, lo := 1, wid := 1, acc := .rwb, bnd := .linkIdle, own := true, cfg := true }

/-- R101: BUSY_A, offset 0x014 [0], RO. -/
def hif_BUSY_A : Fld :=
  { blk := 18, base := 0x14, lo := 0, wid := 1, acc := .ro }

/-- R101: BUSY_B, offset 0x014 [1], RO. -/
def hif_BUSY_B : Fld :=
  { blk := 18, base := 0x14, lo := 1, wid := 1, acc := .ro }

/-- R101: HIF_COMPAT_DROP_A, offset 0x018 [31:0], RC. -/
def hif_HIF_COMPAT_DROP_A : Fld :=
  { blk := 18, base := 0x18, lo := 0, wid := 32, acc := .rc }

/-- R101: HIF_COMPAT_DROP_B, offset 0x01C [31:0], RC. -/
def hif_HIF_COMPAT_DROP_B : Fld :=
  { blk := 18, base := 0x1C, lo := 0, wid := 32, acc := .rc }

/-- R101: HIF_XACC_TIMEOUT, offset 0x020 [31:0], RC. -/
def hif_HIF_XACC_TIMEOUT : Fld :=
  { blk := 18, base := 0x20, lo := 0, wid := 32, acc := .rc }

/-- R101: HIF_BAD_ACCESS, offset 0x024 [31:0], RC. -/
def hif_HIF_BAD_ACCESS : Fld :=
  { blk := 18, base := 0x24, lo := 0, wid := 32, acc := .rc }

/-- R101: HIF_UNMAPPED, offset 0x028 [31:0], RC. -/
def hif_HIF_UNMAPPED : Fld :=
  { blk := 18, base := 0x28, lo := 0, wid := 32, acc := .rc }

/-- R101: HIF_SHADOW_FULL, offset 0x02C [31:0], RC. -/
def hif_HIF_SHADOW_FULL : Fld :=
  { blk := 18, base := 0x2C, lo := 0, wid := 32, acc := .rc }

/-- R109: CHK_EN, offset 0x031000 [18:0], RW. -/
def evt_CHK_EN : Fld :=
  { blk := 16, base := 0x31000, lo := 0, wid := 19, acc := .rw, reset := 524287, cfg := true }

/-- R109: AUTO, offset 0x031000 [31], RW. -/
def evt_AUTO : Fld :=
  { blk := 16, base := 0x31000, lo := 31, wid := 1, acc := .rw, reset := 1, cfg := true }

/-- R109: HOLD, offset 0x031004 [18:0], RW. -/
def evt_HOLD : Fld :=
  { blk := 16, base := 0x31004, lo := 0, wid := 19, acc := .rw, own := true, cfg := true }

/-- R109: PEND, offset 0x031008 [18:0], RO. -/
def evt_PEND : Fld :=
  { blk := 16, base := 0x31008, lo := 0, wid := 19, acc := .ro }

/-- R109: BAD, offset 0x03100C [18:0], RO. -/
def evt_BAD : Fld :=
  { blk := 16, base := 0x3100C, lo := 0, wid := 19, acc := .ro }

/-- R109: EVT_CFG_ALL, offset 0x031010 [31:0], RO. -/
def evt_EVT_CFG_ALL : Fld :=
  { blk := 16, base := 0x31010, lo := 0, wid := 32, acc := .ro }

/-- R109: EVT_CFG_REF, offset 0x031100 + 4b [31:0], RWB. -/
def evt_EVT_CFG_REF : Fld :=
  { blk := 16, base := 0x31100, lo := 0, wid := 32, acc := .rwb, n := 19, stride := 0x4, bnd := .cfgRef, own := true }

/-- R109: EVT_CFG_LIVE, offset 0x031200 + 4b [31:0], RO. -/
def evt_EVT_CFG_LIVE : Fld :=
  { blk := 16, base := 0x31200, lo := 0, wid := 32, acc := .ro, n := 19, stride := 0x4 }

/-- R109: EVT_CFG_MISMATCH, offset 0x031300 + 4b [31:0], RW. -/
def evt_EVT_CFG_MISMATCH : Fld :=
  { blk := 16, base := 0x31300, lo := 0, wid := 32, acc := .rw, n := 19, stride := 0x4 }

/-- R111: PEND, offset +0x0 [0], W1C. -/
def src_PEND : Fld :=
  { blk := 16, base := 0x30000, lo := 0, wid := 1, acc := .w1c, n := 128, stride := 0x10, own := true }

/-- R111: DELIV, offset +0x0 [1], RO. -/
def src_DELIV : Fld :=
  { blk := 16, base := 0x30000, lo := 1, wid := 1, acc := .ro, n := 128, stride := 0x10 }

/-- R111: LOST, offset +0x0 [15:8], RO. -/
def src_LOST : Fld :=
  { blk := 16, base := 0x30000, lo := 8, wid := 8, acc := .ro, n := 128, stride := 0x10 }

/-- R111: CODE, offset +0x0 [31:16], RO. -/
def src_CODE : Fld :=
  { blk := 16, base := 0x30000, lo := 16, wid := 16, acc := .ro, n := 128, stride := 0x10 }

/-- R111: INFO, offset +0x4 [31:0], RO. -/
def src_INFO : Fld :=
  { blk := 16, base := 0x30004, lo := 0, wid := 32, acc := .ro, n := 128, stride := 0x10 }

/-- R111: EN, offset +0x8 [0], RW. -/
def src_EN : Fld :=
  { blk := 16, base := 0x30008, lo := 0, wid := 1, acc := .rw, n := 128, stride := 0x10, reset := 1, cfg := true }

/-- R111: MASK, offset +0x8 [1], RW. -/
def src_MASK : Fld :=
  { blk := 16, base := 0x30008, lo := 1, wid := 1, acc := .rw, n := 128, stride := 0x10, reset := 1, own := true, cfg := true }

/-- R111: ROUTE, offset +0x8 [3:2], RW. -/
def src_ROUTE : Fld :=
  { blk := 16, base := 0x30008, lo := 2, wid := 2, acc := .rw, n := 128, stride := 0x10, clamp := .asVal 3 3 2, cfg := true }

/-- R120: SLC_VEC_PEND, offset 0xF000 [31:0], W1C. -/
def vec_SLC_VEC_PEND : Fld :=
  { blk := 19, base := 0x100F000, lo := 0, wid := 32, acc := .w1c, n := 128, stride := 0x10000, own := true }

/-- R120: SLC_VEC_MASK, offset 0xF004 [31:0], RW. -/
def vec_SLC_VEC_MASK : Fld :=
  { blk := 19, base := 0x100F004, lo := 0, wid := 32, acc := .rw, n := 128, stride := 0x10000, reset := 4294967295, own := true, cfg := true }

/-- R120: SLC_VEC_LOST, offset 0xF008 [31:0], RC. -/
def vec_SLC_VEC_LOST : Fld :=
  { blk := 19, base := 0x100F008, lo := 0, wid := 32, acc := .rc, n := 128, stride := 0x10000 }

/-- R262: APT_STREAM, offset +0x0 [9:0], RW. -/
def apt_APT_STREAM : Fld :=
  { blk := 19, base := 0x100D000, lo := 0, wid := 10, acc := .rw, n := 128, stride := 0x10000, m := 8, stride2 := 0x8, cfg := true }

/-- R262: APT_EN, offset +0x0 [15], RW. -/
def apt_APT_EN : Fld :=
  { blk := 19, base := 0x100D000, lo := 15, wid := 1, acc := .rw, n := 128, stride := 0x10000, m := 8, stride2 := 0x8, cfg := true }

/-- R262: APT_PAGE, offset +0x4 [15:0], RW. -/
def apt_APT_PAGE : Fld :=
  { blk := 19, base := 0x100D004, lo := 0, wid := 16, acc := .rw, n := 128, stride := 0x10000, m := 8, stride2 := 0x8, cfg := true }

/-- R392: SLICE, offset +0x00 [6:0], RW. -/
def cmdb_SLICE : Fld :=
  { blk := 19, base := 0x40000, lo := 0, wid := 7, acc := .rw, n := 2, stride := 0x40, cfg := true }

/-- R392: OP, offset +0x00 [11:8], RW. -/
def cmdb_OP : Fld :=
  { blk := 19, base := 0x40000, lo := 8, wid := 4, acc := .rw, n := 2, stride := 0x40, cfg := true }

/-- R392: FULL, offset +0x00 [12], RW. -/
def cmdb_FULL : Fld :=
  { blk := 19, base := 0x40000, lo := 12, wid := 1, acc := .rw, n := 2, stride := 0x40, cfg := true }

/-- R392: GO, offset +0x00 [16], W1S. -/
def cmdb_GO : Fld :=
  { blk := 19, base := 0x40000, lo := 16, wid := 1, acc := .w1s, n := 2, stride := 0x40, own := true }

/-- R392: HANDLE, offset +0x04 [31:0], RO. -/
def cmdb_HANDLE : Fld :=
  { blk := 19, base := 0x40004, lo := 0, wid := 32, acc := .ro, n := 2, stride := 0x40 }

/-- R392: ACCEPTED, offset +0x08 [0], RO. -/
def cmdb_ACCEPTED : Fld :=
  { blk := 19, base := 0x40008, lo := 0, wid := 1, acc := .ro, n := 2, stride := 0x40 }

/-- R392: REASON, offset +0x08 [15:8], RO. -/
def cmdb_REASON : Fld :=
  { blk := 19, base := 0x40008, lo := 8, wid := 8, acc := .ro, n := 2, stride := 0x40 }

/-- R392: RESULT, offset +0x0C [31:0], RO. -/
def cmdb_RESULT : Fld :=
  { blk := 19, base := 0x4000C, lo := 0, wid := 32, acc := .ro, n := 2, stride := 0x40 }

/-- R414: KIND, offset +0x00 [2:0], RW. -/
def bob_KIND : Fld :=
  { blk := 19, base := 0x1000400, lo := 0, wid := 3, acc := .rw, n := 128, stride := 0x10000, m := 32, stride2 := 0x20, cfg := true }

/-- R414: EN, offset +0x00 [3], RW. -/
def bob_EN : Fld :=
  { blk := 19, base := 0x1000400, lo := 3, wid := 1, acc := .rw, n := 128, stride := 0x10000, m := 32, stride2 := 0x20, own := true, cfg := true }

/-- R414: VEC, offset +0x00 [12:8], RW. -/
def bob_VEC : Fld :=
  { blk := 19, base := 0x1000400, lo := 8, wid := 5, acc := .rw, n := 128, stride := 0x10000, m := 32, stride2 := 0x20, clamp := .asVal 31 31 30, cfg := true }

/-- R414: IRQ_EN, offset +0x00 [13], RW. -/
def bob_IRQ_EN : Fld :=
  { blk := 19, base := 0x1000400, lo := 13, wid := 1, acc := .rw, n := 128, stride := 0x10000, m := 32, stride2 := 0x20, cfg := true }

/-- R414: SQ_LOG2, offset +0x00 [20:16], RW. -/
def bob_SQ_LOG2 : Fld :=
  { blk := 19, base := 0x1000400, lo := 16, wid := 5, acc := .rw, n := 128, stride := 0x10000, m := 32, stride2 := 0x20, reset := 6, cfg := true }

/-- R414: CQ_LOG2, offset +0x00 [28:24], RW. -/
def bob_CQ_LOG2 : Fld :=
  { blk := 19, base := 0x1000400, lo := 24, wid := 5, acc := .rw, n := 128, stride := 0x10000, m := 32, stride2 := 0x20, reset := 6, cfg := true }

/-- R414: SQ_BASE_LO, offset +0x04, +0x08 [31:0], RW. -/
def bob_SQ_BASE_LO : Fld :=
  { blk := 19, base := 0x1000404, lo := 0, wid := 32, acc := .rw, n := 128, stride := 0x10000, m := 32, stride2 := 0x20, cfg := true }

/-- R414: SQ_BASE_HI, offset +0x04, +0x08 [31:0], RW. -/
def bob_SQ_BASE_HI : Fld :=
  { blk := 19, base := 0x1000408, lo := 0, wid := 32, acc := .rw, n := 128, stride := 0x10000, m := 32, stride2 := 0x20, cfg := true }

/-- R414: CQ_BASE_LO, offset +0x0C, +0x10 [31:0], RW. -/
def bob_CQ_BASE_LO : Fld :=
  { blk := 19, base := 0x100040C, lo := 0, wid := 32, acc := .rw, n := 128, stride := 0x10000, m := 32, stride2 := 0x20, cfg := true }

/-- R414: CQ_BASE_HI, offset +0x0C, +0x10 [31:0], RW. -/
def bob_CQ_BASE_HI : Fld :=
  { blk := 19, base := 0x1000410, lo := 0, wid := 32, acc := .rw, n := 128, stride := 0x10000, m := 32, stride2 := 0x20, cfg := true }

/-- R414: SQ_HEAD, offset +0x14 [16:0], RO. -/
def bob_SQ_HEAD : Fld :=
  { blk := 19, base := 0x1000414, lo := 0, wid := 17, acc := .ro, n := 128, stride := 0x10000, m := 32, stride2 := 0x20 }

/-- R414: BSTATE, offset +0x18 [1:0], RO. -/
def bob_BSTATE : Fld :=
  { blk := 19, base := 0x1000418, lo := 0, wid := 2, acc := .ro, n := 128, stride := 0x10000, m := 32, stride2 := 0x20 }

/-- R414: PHASE, offset +0x18 [2], RO. -/
def bob_PHASE : Fld :=
  { blk := 19, base := 0x1000418, lo := 2, wid := 1, acc := .ro, n := 128, stride := 0x10000, m := 32, stride2 := 0x20, reset := 1 }

/-- R414: CQ_TAIL, offset +0x1C [16:0], RO. -/
def bob_CQ_TAIL : Fld :=
  { blk := 19, base := 0x100041C, lo := 0, wid := 17, acc := .ro, n := 128, stride := 0x10000, m := 32, stride2 := 0x20 }

/-- R415: DESC_OUT, offset 0x00C [16:0], RO. -/
def slst_DESC_OUT : Fld :=
  { blk := 19, base := 0x100000C, lo := 0, wid := 17, acc := .ro, n := 128, stride := 0x10000 }

/-- R415: SLC_FULL_SHARE, offset 0x040 [31:0], RC. -/
def slst_SLC_FULL_SHARE : Fld :=
  { blk := 19, base := 0x1000040, lo := 0, wid := 32, acc := .rc, n := 128, stride := 0x10000 }

/-- R415: SLC_BAD_DESC, offset 0x044 [31:0], RC. -/
def slst_SLC_BAD_DESC : Fld :=
  { blk := 19, base := 0x1000044, lo := 0, wid := 32, acc := .rc, n := 128, stride := 0x10000 }

/-- R415: SLC_DMA_ERR, offset 0x048 [31:0], RC. -/
def slst_SLC_DMA_ERR : Fld :=
  { blk := 19, base := 0x1000048, lo := 0, wid := 32, acc := .rc, n := 128, stride := 0x10000 }

/-- R415: SLC_CQ_OVF, offset 0x04C [31:0], RC. -/
def slst_SLC_CQ_OVF : Fld :=
  { blk := 19, base := 0x100004C, lo := 0, wid := 32, acc := .rc, n := 128, stride := 0x10000 }

/-- R415: SLC_RX_NOBUF, offset 0x050 [31:0], RC. -/
def slst_SLC_RX_NOBUF : Fld :=
  { blk := 19, base := 0x1000050, lo := 0, wid := 32, acc := .rc, n := 128, stride := 0x10000 }

/-- R415: SLC_RX_TRUNC, offset 0x054 [31:0], RC. -/
def slst_SLC_RX_TRUNC : Fld :=
  { blk := 19, base := 0x1000054, lo := 0, wid := 32, acc := .rc, n := 128, stride := 0x10000 }

/-- R415: SLC_TX_FILTER, offset 0x058 [31:0], RC. -/
def slst_SLC_TX_FILTER : Fld :=
  { blk := 19, base := 0x1000058, lo := 0, wid := 32, acc := .rc, n := 128, stride := 0x10000 }

/-- R415: SLC_BOB_ERR, offset 0x05C [31:0], RC. -/
def slst_SLC_BOB_ERR : Fld :=
  { blk := 19, base := 0x100005C, lo := 0, wid := 32, acc := .rc, n := 128, stride := 0x10000 }

/-- R86: GO, offset 0x0 [0:0], W1S. -/
def mmbx_GO : Fld :=
  { blk := 19, base := 0xE000, lo := 0, wid := 1, acc := .w1s, n := 2, stride := 0x1000, own := true }

/-- R86: ABORT, offset 0x0 [1:1], W1S. -/
def mmbx_ABORT : Fld :=
  { blk := 19, base := 0xE000, lo := 1, wid := 1, acc := .w1s, n := 2, stride := 0x1000, own := true }

/-- R86: BUSY, offset 0x4 [0:0], RO. -/
def mmbx_BUSY : Fld :=
  { blk := 19, base := 0xE004, lo := 0, wid := 1, acc := .ro, n := 2, stride := 0x1000 }

/-- R86: DONE, offset 0x4 [1:1], W1C. -/
def mmbx_DONE : Fld :=
  { blk := 19, base := 0xE004, lo := 1, wid := 1, acc := .w1c, n := 2, stride := 0x1000 }

/-- R86: OVERRUN, offset 0x4 [2:2], W1C. -/
def mmbx_OVERRUN : Fld :=
  { blk := 19, base := 0xE004, lo := 2, wid := 1, acc := .w1c, n := 2, stride := 0x1000 }

/-- R86: STATUS, offset 0x4 [15:8], RO. -/
def mmbx_STATUS : Fld :=
  { blk := 19, base := 0xE004, lo := 8, wid := 8, acc := .ro, n := 2, stride := 0x1000 }

/-- R86: REQLEN, offset 0x8 [10:0], RW. -/
def mmbx_REQLEN : Fld :=
  { blk := 19, base := 0xE008, lo := 0, wid := 11, acc := .rw, n := 2, stride := 0x1000 }

/-- R86: RSPLEN, offset 0xc [10:0], RO. -/
def mmbx_RSPLEN : Fld :=
  { blk := 19, base := 0xE00C, lo := 0, wid := 11, acc := .ro, n := 2, stride := 0x1000 }

/-- R86: SERVED, offset 0x10 [31:0], RO. -/
def mmbx_SERVED : Fld :=
  { blk := 19, base := 0xE010, lo := 0, wid := 32, acc := .ro, n := 2, stride := 0x1000 }

/-- R86: DROP, offset 0x14 [31:0], RC. -/
def mmbx_DROP : Fld :=
  { blk := 19, base := 0xE014, lo := 0, wid := 32, acc := .rc, n := 2, stride := 0x1000 }

/-- R86: GO, offset 0x0 [0:0], W1S. -/
def smbx_GO : Fld :=
  { blk := 19, base := 0x100E000, lo := 0, wid := 1, acc := .w1s, n := 128, stride := 0x10000, own := true }

/-- R86: ABORT, offset 0x0 [1:1], W1S. -/
def smbx_ABORT : Fld :=
  { blk := 19, base := 0x100E000, lo := 1, wid := 1, acc := .w1s, n := 128, stride := 0x10000, own := true }

/-- R86: BUSY, offset 0x4 [0:0], RO. -/
def smbx_BUSY : Fld :=
  { blk := 19, base := 0x100E004, lo := 0, wid := 1, acc := .ro, n := 128, stride := 0x10000 }

/-- R86: DONE, offset 0x4 [1:1], W1C. -/
def smbx_DONE : Fld :=
  { blk := 19, base := 0x100E004, lo := 1, wid := 1, acc := .w1c, n := 128, stride := 0x10000 }

/-- R86: OVERRUN, offset 0x4 [2:2], W1C. -/
def smbx_OVERRUN : Fld :=
  { blk := 19, base := 0x100E004, lo := 2, wid := 1, acc := .w1c, n := 128, stride := 0x10000 }

/-- R86: STATUS, offset 0x4 [15:8], RO. -/
def smbx_STATUS : Fld :=
  { blk := 19, base := 0x100E004, lo := 8, wid := 8, acc := .ro, n := 128, stride := 0x10000 }

/-- R86: REQLEN, offset 0x8 [10:0], RW. -/
def smbx_REQLEN : Fld :=
  { blk := 19, base := 0x100E008, lo := 0, wid := 11, acc := .rw, n := 128, stride := 0x10000 }

/-- R86: RSPLEN, offset 0xc [10:0], RO. -/
def smbx_RSPLEN : Fld :=
  { blk := 19, base := 0x100E00C, lo := 0, wid := 11, acc := .ro, n := 128, stride := 0x10000 }

/-- R86: SERVED, offset 0x10 [31:0], RO. -/
def smbx_SERVED : Fld :=
  { blk := 19, base := 0x100E010, lo := 0, wid := 32, acc := .ro, n := 128, stride := 0x10000 }

/-- R86: DROP, offset 0x14 [31:0], RC. -/
def smbx_DROP : Fld :=
  { blk := 19, base := 0x100E014, lo := 0, wid := 32, acc := .rc, n := 128, stride := 0x10000 }

/-- R408: SQ_TAIL, offset 0x1000+8b [16:0], WO. -/
def door_SQ_TAIL : Fld :=
  { blk := 19, base := 0x1001000, lo := 0, wid := 17, acc := .wo, n := 128, stride := 0x10000, m := 32, stride2 := 0x8, own := true }

/-- R408: CQ_HEAD, offset 0x1004+8b [16:0], WO. -/
def door_CQ_HEAD : Fld :=
  { blk := 19, base := 0x1001004, lo := 0, wid := 17, acc := .wo, n := 128, stride := 0x10000, m := 32, stride2 := 0x8, own := true }

/-- R176: RX_FRAMES_UP, offset +0x10, +0x14 [63:32] of the running count, running count. -/
def prt_RX_FRAMES_UP : Fld :=
  { blk := 19, base := 0x8000000, lo := 0, wid := 32, acc := .hid, n := 32, stride := 0x4 }

/-- R176: RX_BYTES_UP, offset +0x18, +0x1C [63:32] of the running count, running count. -/
def prt_RX_BYTES_UP : Fld :=
  { blk := 19, base := 0x8010000, lo := 0, wid := 32, acc := .hid, n := 32, stride := 0x4 }

/-- R176: TX_FRAMES_UP, offset +0x20, +0x24 [63:32] of the running count, running count. -/
def prt_TX_FRAMES_UP : Fld :=
  { blk := 19, base := 0x8020000, lo := 0, wid := 32, acc := .hid, n := 32, stride := 0x4 }

/-- R176: TX_BYTES_UP, offset +0x28, +0x2C [63:32] of the running count, running count. -/
def prt_TX_BYTES_UP : Fld :=
  { blk := 19, base := 0x8030000, lo := 0, wid := 32, acc := .hid, n := 32, stride := 0x4 }

/-- The fields with prefix `hif` (block 18). -/
def list_b18_hif : List Fld :=
  [hif_REV, hif_PART, hif_SPLIT, hif_COMPAT_A,
   hif_COMPAT_B, hif_BUSY_A, hif_BUSY_B, hif_HIF_COMPAT_DROP_A,
   hif_HIF_COMPAT_DROP_B, hif_HIF_XACC_TIMEOUT, hif_HIF_BAD_ACCESS, hif_HIF_UNMAPPED,
   hif_HIF_SHADOW_FULL]

/-- The fields with prefix `evt` (block 16). -/
def list_b16_evt : List Fld :=
  [evt_CHK_EN, evt_AUTO, evt_HOLD, evt_PEND,
   evt_BAD, evt_EVT_CFG_ALL, evt_EVT_CFG_REF, evt_EVT_CFG_LIVE,
   evt_EVT_CFG_MISMATCH]

/-- The fields with prefix `src` (block 16). -/
def list_b16_src : List Fld :=
  [src_PEND, src_DELIV, src_LOST, src_CODE,
   src_INFO, src_EN, src_MASK, src_ROUTE]

/-- The fields with prefix `vec` (block 19). -/
def list_b19_vec : List Fld :=
  [vec_SLC_VEC_PEND, vec_SLC_VEC_MASK, vec_SLC_VEC_LOST]

/-- The fields with prefix `apt` (block 19). -/
def list_b19_apt : List Fld :=
  [apt_APT_STREAM, apt_APT_EN, apt_APT_PAGE]

/-- The fields with prefix `cmdb` (block 19). -/
def list_b19_cmdb : List Fld :=
  [cmdb_SLICE, cmdb_OP, cmdb_FULL, cmdb_GO,
   cmdb_HANDLE, cmdb_ACCEPTED, cmdb_REASON, cmdb_RESULT]

/-- The fields with prefix `bob` (block 19). -/
def list_b19_bob : List Fld :=
  [bob_KIND, bob_EN, bob_VEC, bob_IRQ_EN,
   bob_SQ_LOG2, bob_CQ_LOG2, bob_SQ_BASE_LO, bob_SQ_BASE_HI,
   bob_CQ_BASE_LO, bob_CQ_BASE_HI, bob_SQ_HEAD, bob_BSTATE,
   bob_PHASE, bob_CQ_TAIL]

/-- The fields with prefix `slst` (block 19). -/
def list_b19_slst : List Fld :=
  [slst_DESC_OUT, slst_SLC_FULL_SHARE, slst_SLC_BAD_DESC, slst_SLC_DMA_ERR,
   slst_SLC_CQ_OVF, slst_SLC_RX_NOBUF, slst_SLC_RX_TRUNC, slst_SLC_TX_FILTER,
   slst_SLC_BOB_ERR]

/-- The fields with prefix `mmbx` (block 19). -/
def list_b19_mmbx : List Fld :=
  [mmbx_GO, mmbx_ABORT, mmbx_BUSY, mmbx_DONE,
   mmbx_OVERRUN, mmbx_STATUS, mmbx_REQLEN, mmbx_RSPLEN,
   mmbx_SERVED, mmbx_DROP]

/-- The fields with prefix `smbx` (block 19). -/
def list_b19_smbx : List Fld :=
  [smbx_GO, smbx_ABORT, smbx_BUSY, smbx_DONE,
   smbx_OVERRUN, smbx_STATUS, smbx_REQLEN, smbx_RSPLEN,
   smbx_SERVED, smbx_DROP]

/-- The fields with prefix `door` (block 19). -/
def list_b19_door : List Fld :=
  [door_SQ_TAIL, door_CQ_HEAD]

/-- The fields with prefix `prt` (block 19). -/
def list_b19_prt : List Fld :=
  [prt_RX_FRAMES_UP, prt_RX_BYTES_UP, prt_TX_FRAMES_UP, prt_TX_BYTES_UP]

/-- All fields of this file. -/
def allRegsHost : List Fld :=
  list_b18_hif ++ list_b16_evt ++ list_b16_src ++ list_b19_vec ++ list_b19_apt ++ list_b19_cmdb ++ list_b19_bob ++ list_b19_slst ++ list_b19_mmbx ++ list_b19_smbx ++ list_b19_door ++ list_b19_prt

end Sys2Proof.Machine.Reg
end

