-- ==== Sys2Proof/Machine/RegsNet.lean ====
section
/-!
DEFINITION. The register fields of the blocks named below, one constant per field, copied from the
spec's register tables (R13: access codes; R93: boundaries). Each docstring names the rule whose table holds it.
-/

namespace Sys2Proof.Machine.Reg

/-- R146: PTP_EN, offset 0x000 [0], RWB. -/
def stx_PTP_EN : Fld :=
  { blk := 3, base := 0x280000, lo := 0, wid := 1, acc := .rwb, reset := 1, bnd := .window, cfg := true }

/-- R146: PROFILE, offset 0x000 [2:1], RWB. -/
def stx_PROFILE : Fld :=
  { blk := 3, base := 0x280000, lo := 1, wid := 2, acc := .rwb, bnd := .window, clamp := .asVal 2 3 0, cfg := true }

/-- R146: BACKUP_EN, offset 0x000 [3], RWB. -/
def stx_BACKUP_EN : Fld :=
  { blk := 3, base := 0x280000, lo := 3, wid := 1, acc := .rwb, bnd := .window, cfg := true }

/-- R146: STEP_MODE, offset 0x000 [4], RWB. -/
def stx_STEP_MODE : Fld :=
  { blk := 3, base := 0x280000, lo := 4, wid := 1, acc := .rwb, bnd := .window, cfg := true }

/-- R146: PPS_IN_EN, offset 0x000 [5], RWB. -/
def stx_PPS_IN_EN : Fld :=
  { blk := 3, base := 0x280000, lo := 5, wid := 1, acc := .rwb, bnd := .window, cfg := true }

/-- R146: STEP_NOW, offset 0x000 [6], W1S. -/
def stx_STEP_NOW : Fld :=
  { blk := 3, base := 0x280000, lo := 6, wid := 1, acc := .w1s, own := true }

/-- R146: SET_TIME, offset 0x000 [7], W1S. -/
def stx_SET_TIME : Fld :=
  { blk := 3, base := 0x280000, lo := 7, wid := 1, acc := .w1s, own := true }

/-- R146: DOMAIN, offset 0x000 [15:8], RWB. -/
def stx_DOMAIN : Fld :=
  { blk := 3, base := 0x280000, lo := 8, wid := 8, acc := .rwb, bnd := .window, cfg := true }

/-- R146: STATE, offset 0x004 [2:0], RO. -/
def stx_STATE : Fld :=
  { blk := 3, base := 0x280004, lo := 0, wid := 3, acc := .ro }

/-- R146: JUMP_PEND, offset 0x004 [3], RO. -/
def stx_JUMP_PEND : Fld :=
  { blk := 3, base := 0x280004, lo := 3, wid := 1, acc := .ro }

/-- R146: SLEWING, offset 0x004 [4], RO. -/
def stx_SLEWING : Fld :=
  { blk := 3, base := 0x280004, lo := 4, wid := 1, acc := .ro }

/-- R146: PPS_OK, offset 0x004 [5], RO. -/
def stx_PPS_OK : Fld :=
  { blk := 3, base := 0x280004, lo := 5, wid := 1, acc := .ro }

/-- R146: MASTER, offset 0x004 [6], RO. -/
def stx_MASTER : Fld :=
  { blk := 3, base := 0x280004, lo := 6, wid := 1, acc := .ro }

/-- R146: CLOCK_CLASS, offset 0x004 [15:8], RO. -/
def stx_CLOCK_CLASS : Fld :=
  { blk := 3, base := 0x280004, lo := 8, wid := 8, acc := .ro, reset := 248 }

/-- R146: STX_JUMP_THR, offset 0x008 [19:0], RWB. -/
def stx_STX_JUMP_THR : Fld :=
  { blk := 3, base := 0x280008, lo := 0, wid := 20, acc := .rwb, reset := 1000, bnd := .window, clamp := .range 100 1000000, cfg := true }

/-- R146: STX_JUMP_PERSIST, offset 0x00C [5:0], RWB. -/
def stx_STX_JUMP_PERSIST : Fld :=
  { blk := 3, base := 0x28000C, lo := 0, wid := 6, acc := .rwb, reset := 8, bnd := .window, clamp := .range 2 63, cfg := true }

/-- R146: STX_SLEW_MAX, offset 0x010 [7:0], RWB. -/
def stx_STX_SLEW_MAX : Fld :=
  { blk := 3, base := 0x280010, lo := 0, wid := 8, acc := .rwb, reset := 50, bnd := .window, clamp := .range 1 200, cfg := true }

/-- R146: STX_HOLD_LIMIT, offset 0x014 [15:0], RWB. -/
def stx_STX_HOLD_LIMIT : Fld :=
  { blk := 3, base := 0x280014, lo := 0, wid := 16, acc := .rwb, reset := 240, bnd := .window, clamp := .range 1 65535, cfg := true }

/-- R146: STX_PPS_OUT_W, offset 0x018 [9:0], RWB. -/
def stx_STX_PPS_OUT_W : Fld :=
  { blk := 3, base := 0x280018, lo := 0, wid := 10, acc := .rwb, reset := 100, bnd := .hyper, clamp := .range 1 900, cfg := true }

/-- R146: STX_UTC_OFFSET, offset 0x01C [15:0], RO. -/
def stx_STX_UTC_OFFSET : Fld :=
  { blk := 3, base := 0x28001C, lo := 0, wid := 16, acc := .ro, reset := 37 }

/-- R146: UTC_VALID, offset 0x01C [16], RO. -/
def stx_UTC_VALID : Fld :=
  { blk := 3, base := 0x28001C, lo := 16, wid := 1, acc := .ro }

/-- R146: LEAP61, offset 0x01C [17], RO. -/
def stx_LEAP61 : Fld :=
  { blk := 3, base := 0x28001C, lo := 17, wid := 1, acc := .ro }

/-- R146: LEAP59, offset 0x01C [18], RO. -/
def stx_LEAP59 : Fld :=
  { blk := 3, base := 0x28001C, lo := 18, wid := 1, acc := .ro }

/-- R146: STX_TIME_SEC_LO, offset 0x020 [31:0], RO. -/
def stx_STX_TIME_SEC_LO : Fld :=
  { blk := 3, base := 0x280020, lo := 0, wid := 32, acc := .ro }

/-- R146: STX_TIME_SEC_HI, offset 0x024 [31:0], RO. -/
def stx_STX_TIME_SEC_HI : Fld :=
  { blk := 3, base := 0x280024, lo := 0, wid := 32, acc := .ro }

/-- R146: STX_TIME_NS, offset 0x028 [29:0], RO. -/
def stx_STX_TIME_NS : Fld :=
  { blk := 3, base := 0x280028, lo := 0, wid := 30, acc := .ro }

/-- R146: STX_SET_SEC_LO, offset 0x030 [31:0], RW. -/
def stx_STX_SET_SEC_LO : Fld :=
  { blk := 3, base := 0x280030, lo := 0, wid := 32, acc := .rw, cfg := true }

/-- R146: STX_SET_SEC_HI, offset 0x034 [31:0], RW. -/
def stx_STX_SET_SEC_HI : Fld :=
  { blk := 3, base := 0x280034, lo := 0, wid := 32, acc := .rw, cfg := true }

/-- R146: STX_SET_NS, offset 0x038 [29:0], RW. -/
def stx_STX_SET_NS : Fld :=
  { blk := 3, base := 0x280038, lo := 0, wid := 30, acc := .rw, clamp := .range 0 999999999, cfg := true }

/-- R146: STX_OFFSET, offset 0x040 [31:0], RO. -/
def stx_STX_OFFSET : Fld :=
  { blk := 3, base := 0x280040, lo := 0, wid := 32, acc := .ro }

/-- R146: STX_FREQ_ADJ, offset 0x044 [31:0], RO. -/
def stx_STX_FREQ_ADJ : Fld :=
  { blk := 3, base := 0x280044, lo := 0, wid := 32, acc := .ro }

/-- R146: STX_TERR, offset 0x048 [31:0], RO. -/
def stx_STX_TERR : Fld :=
  { blk := 3, base := 0x280048, lo := 0, wid := 32, acc := .ro, reset := 4294967295 }

/-- R146: STX_DISC_SEC, offset 0x04C [31:0], RO. -/
def stx_STX_DISC_SEC : Fld :=
  { blk := 3, base := 0x28004C, lo := 0, wid := 32, acc := .ro }

/-- R146: STX_DR_SEC, offset 0x050 [31:0], RO. -/
def stx_STX_DR_SEC : Fld :=
  { blk := 3, base := 0x280050, lo := 0, wid := 32, acc := .ro }

/-- R146: STX_GM_ID_LO, offset 0x054 [31:0], RO. -/
def stx_STX_GM_ID_LO : Fld :=
  { blk := 3, base := 0x280054, lo := 0, wid := 32, acc := .ro }

/-- R146: STX_GM_ID_HI, offset 0x058 [31:0], RO. -/
def stx_STX_GM_ID_HI : Fld :=
  { blk := 3, base := 0x280058, lo := 0, wid := 32, acc := .ro }

/-- R146: STX_CLOCK_ID_LO, offset 0x05C [31:0], RO. -/
def stx_STX_CLOCK_ID_LO : Fld :=
  { blk := 3, base := 0x28005C, lo := 0, wid := 32, acc := .ro }

/-- R146: STX_CLOCK_ID_HI, offset 0x060 [31:0], RO. -/
def stx_STX_CLOCK_ID_HI : Fld :=
  { blk := 3, base := 0x280060, lo := 0, wid := 32, acc := .ro }

/-- R146: STX_PPS_OFFSET, offset 0x064 [31:0], RO. -/
def stx_STX_PPS_OFFSET : Fld :=
  { blk := 3, base := 0x280064, lo := 0, wid := 32, acc := .ro }

/-- R146: STX_SYNC_RX, offset 0x080 [31:0], RC. -/
def stx_STX_SYNC_RX : Fld :=
  { blk := 3, base := 0x280080, lo := 0, wid := 32, acc := .rc }

/-- R146: STX_ANN_TIMEOUT, offset 0x084 [31:0], RC. -/
def stx_STX_ANN_TIMEOUT : Fld :=
  { blk := 3, base := 0x280084, lo := 0, wid := 32, acc := .rc }

/-- R146: STX_JUMP_REFUSED, offset 0x088 [31:0], RC. -/
def stx_STX_JUMP_REFUSED : Fld :=
  { blk := 3, base := 0x280088, lo := 0, wid := 32, acc := .rc }

/-- R146: STX_STEP_COUNT, offset 0x08C [31:0], RC. -/
def stx_STX_STEP_COUNT : Fld :=
  { blk := 3, base := 0x28008C, lo := 0, wid := 32, acc := .rc }

/-- R146: STX_TC_CORR, offset 0x090 [31:0], RC. -/
def stx_STX_TC_CORR : Fld :=
  { blk := 3, base := 0x280090, lo := 0, wid := 32, acc := .rc }

/-- R146: STX_TC_NOMATCH, offset 0x094 [31:0], RC. -/
def stx_STX_TC_NOMATCH : Fld :=
  { blk := 3, base := 0x280094, lo := 0, wid := 32, acc := .rc }

/-- R146: STX_TC_OVF, offset 0x098 [31:0], RC. -/
def stx_STX_TC_OVF : Fld :=
  { blk := 3, base := 0x280098, lo := 0, wid := 32, acc := .rc }

/-- R146: STX_TC_NOLINK, offset 0x09C [31:0], RC. -/
def stx_STX_TC_NOLINK : Fld :=
  { blk := 3, base := 0x28009C, lo := 0, wid := 32, acc := .rc }

/-- R146: STX_PPS_REFUSED, offset 0x0A0 [31:0], RC. -/
def stx_STX_PPS_REFUSED : Fld :=
  { blk := 3, base := 0x2800A0, lo := 0, wid := 32, acc := .rc }

/-- R146: STX_PTP_HDX_DROP, offset 0x0A4 [31:0], RC. -/
def stx_STX_PTP_HDX_DROP : Fld :=
  { blk := 3, base := 0x2800A4, lo := 0, wid := 32, acc := .rc }

/-- R146: STX_SET_IGNORED, offset 0x0A8 [31:0], RC. -/
def stx_STX_SET_IGNORED : Fld :=
  { blk := 3, base := 0x2800A8, lo := 0, wid := 32, acc := .rc }

/-- R147: PTP_PORT_EN, offset +0x00 [0], RWB. -/
def stxp_PTP_PORT_EN : Fld :=
  { blk := 3, base := 0x281000, lo := 0, wid := 1, acc := .rwb, n := 32, stride := 0x20, reset := 1, bnd := .frame, cfg := true }

/-- R147: STX_ASYM, offset +0x04 [31:0], RWB. -/
def stxp_STX_ASYM : Fld :=
  { blk := 3, base := 0x281004, lo := 0, wid := 32, acc := .rwb, n := 32, stride := 0x20, bnd := .window, clamp := .srange 100000, cfg := true }

/-- R147: EXT_RX_LAT, offset +0x08 [15:0], RWB. -/
def stxp_EXT_RX_LAT : Fld :=
  { blk := 3, base := 0x281008, lo := 0, wid := 16, acc := .rwb, n := 32, stride := 0x20, bnd := .window, cfg := true }

/-- R147: EXT_TX_LAT, offset +0x08 [31:16], RWB. -/
def stxp_EXT_TX_LAT : Fld :=
  { blk := 3, base := 0x281008, lo := 16, wid := 16, acc := .rwb, n := 32, stride := 0x20, bnd := .window, cfg := true }

/-- R147: STX_LINK_DELAY, offset +0x0C [31:0], RO. -/
def stxp_STX_LINK_DELAY : Fld :=
  { blk := 3, base := 0x28100C, lo := 0, wid := 32, acc := .ro, n := 32, stride := 0x20, reset := 4294967295 }

/-- R147: STX_PDELAY_FAIL, offset +0x10 [31:0], RC. -/
def stxp_STX_PDELAY_FAIL : Fld :=
  { blk := 3, base := 0x281010, lo := 0, wid := 32, acc := .rc, n := 32, stride := 0x20 }

/-- R175: GRP_LP, offset 0x000 [3:0], RO. -/
def prtg_GRP_LP : Fld :=
  { blk := 0, base := 0x100000, lo := 0, wid := 4, acc := .ro }

/-- R175: GRP_WAKING, offset 0x000 [7:4], RO. -/
def prtg_GRP_WAKING : Fld :=
  { blk := 0, base := 0x100000, lo := 4, wid := 4, acc := .ro }

/-- R175: FLAP_MAX, offset 0x004 [5:0], RWB. -/
def prtg_FLAP_MAX : Fld :=
  { blk := 0, base := 0x100004, lo := 0, wid := 6, acc := .rwb, reset := 5, bnd := .window, cfg := true }

/-- R175: FLAP_WIN, offset 0x004 [15:8], RWB. -/
def prtg_FLAP_WIN : Fld :=
  { blk := 0, base := 0x100004, lo := 8, wid := 8, acc := .rwb, reset := 10, bnd := .window, clamp := .range 1 255, cfg := true }

/-- R175: FLAP_HOLD, offset 0x004 [27:16], RWB. -/
def prtg_FLAP_HOLD : Fld :=
  { blk := 0, base := 0x100004, lo := 16, wid := 12, acc := .rwb, reset := 30, bnd := .window, clamp := .range 1 3600, cfg := true }

/-- R175: DOWN_HOLD, offset 0x008 [5:0], RWB. -/
def prtg_DOWN_HOLD : Fld :=
  { blk := 0, base := 0x100008, lo := 0, wid := 6, acc := .rwb, reset := 50, bnd := .window, clamp := .range 0 50, cfg := true }

/-- R175: M_EN, offset 0x1100 [0], RWB. -/
def prtg_M_EN : Fld :=
  { blk := 0, base := 0x101100, lo := 0, wid := 1, acc := .rwb, reset := 1, bnd := .frame, cfg := true }

/-- R175: M_LINK, offset 0x1104 [0], RO. -/
def prtg_M_LINK : Fld :=
  { blk := 0, base := 0x101104, lo := 0, wid := 1, acc := .ro }

/-- R175: M_SPEED, offset 0x1104 [2:1], RO. -/
def prtg_M_SPEED : Fld :=
  { blk := 0, base := 0x101104, lo := 1, wid := 2, acc := .ro }

/-- R175: PRT_M_DROP, offset 0x1108 [31:0], RC. -/
def prtg_PRT_M_DROP : Fld :=
  { blk := 0, base := 0x101108, lo := 0, wid := 32, acc := .rc }

/-- R176: LANE_MODE, offset +0x00 [2:0], RWB. -/
def prt_LANE_MODE : Fld :=
  { blk := 0, base := 0x100100, lo := 0, wid := 3, acc := .rwb, n := 32, stride := 0x80, bnd := .frame, own := true, cfg := true }

/-- R176: SPEED, offset +0x00 [5:4], RWB. -/
def prt_SPEED : Fld :=
  { blk := 0, base := 0x100100, lo := 4, wid := 2, acc := .rwb, n := 32, stride := 0x80, reset := 2, bnd := .frame, clamp := .asVal 3 3 2, own := true, cfg := true }

/-- R176: AN_EN, offset +0x00 [6], RWB. -/
def prt_AN_EN : Fld :=
  { blk := 0, base := 0x100100, lo := 6, wid := 1, acc := .rwb, n := 32, stride := 0x80, reset := 1, bnd := .frame, cfg := true }

/-- R176: HDX, offset +0x00 [7], RWB. -/
def prt_HDX : Fld :=
  { blk := 0, base := 0x100100, lo := 7, wid := 1, acc := .rwb, n := 32, stride := 0x80, bnd := .frame, cfg := true }

/-- R176: RX_PAUSE_EN, offset +0x00 [8], RWB. -/
def prt_RX_PAUSE_EN : Fld :=
  { blk := 0, base := 0x100100, lo := 8, wid := 1, acc := .rwb, n := 32, stride := 0x80, reset := 1, bnd := .frame, cfg := true }

/-- R176: TX_PAUSE_EN, offset +0x00 [9], RWB. -/
def prt_TX_PAUSE_EN : Fld :=
  { blk := 0, base := 0x100100, lo := 9, wid := 1, acc := .rwb, n := 32, stride := 0x80, bnd := .frame, cfg := true }

/-- R176: LP_REQ, offset +0x00 [10], RWB. -/
def prt_LP_REQ : Fld :=
  { blk := 0, base := 0x100100, lo := 10, wid := 1, acc := .rwb, n := 32, stride := 0x80, bnd := .frame, own := true }

/-- R176: WAKE_EN, offset +0x00 [11], RWB. -/
def prt_WAKE_EN : Fld :=
  { blk := 0, base := 0x100100, lo := 11, wid := 1, acc := .rwb, n := 32, stride := 0x80, reset := 1, bnd := .frame, cfg := true }

/-- R176: FEC, offset +0x00 [13:12], RWB. -/
def prt_FEC : Fld :=
  { blk := 0, base := 0x100100, lo := 12, wid := 2, acc := .rwb, n := 32, stride := 0x80, bnd := .frame, cfg := true }

/-- R176: PAUSE_IMMUNE, offset +0x00 [23:16], RWB. -/
def prt_PAUSE_IMMUNE : Fld :=
  { blk := 0, base := 0x100100, lo := 16, wid := 8, acc := .rwb, n := 32, stride := 0x80, reset := 192, bnd := .frame, own := true, cfg := true }

/-- R176: MAX_FRAME, offset +0x04 [13:0], RWB. -/
def prt_MAX_FRAME : Fld :=
  { blk := 0, base := 0x100104, lo := 0, wid := 14, acc := .rwb, n := 32, stride := 0x80, reset := 1536, bnd := .frame, clamp := .range 1518 9216, own := true, cfg := true }

/-- R176: LINK_STABLE, offset +0x04 [25:16], RWB. -/
def prt_LINK_STABLE : Fld :=
  { blk := 0, base := 0x100104, lo := 16, wid := 10, acc := .rwb, n := 32, stride := 0x80, reset := 10, bnd := .window, clamp := .range 0 1000, cfg := true }

/-- R176: HDX_QLIMIT, offset +0x04 [31:26], RWB. -/
def prt_HDX_QLIMIT : Fld :=
  { blk := 0, base := 0x100104, lo := 26, wid := 6, acc := .rwb, n := 32, stride := 0x80, reset := 32, bnd := .window, clamp := .range 1 63, cfg := true }

/-- R176: PAUSE_QUANTA, offset +0x08 [15:0], RWB. -/
def prt_PAUSE_QUANTA : Fld :=
  { blk := 0, base := 0x100108, lo := 0, wid := 16, acc := .rwb, n := 32, stride := 0x80, reset := 65535, bnd := .frame, cfg := true }

/-- R176: PAUSE_REFRESH, offset +0x08 [31:16], RWB. -/
def prt_PAUSE_REFRESH : Fld :=
  { blk := 0, base := 0x100108, lo := 16, wid := 16, acc := .rwb, n := 32, stride := 0x80, reset := 32768, bnd := .frame, clamp := .range 1 65535, cfg := true }

/-- R176: LINK, offset +0x0C [0], RO. -/
def prt_LINK : Fld :=
  { blk := 0, base := 0x10010C, lo := 0, wid := 1, acc := .ro, n := 32, stride := 0x80 }

/-- R176: FWD, offset +0x0C [1], RO. -/
def prt_FWD : Fld :=
  { blk := 0, base := 0x10010C, lo := 1, wid := 1, acc := .ro, n := 32, stride := 0x80 }

/-- R176: SUPPRESSED, offset +0x0C [2], RO. -/
def prt_SUPPRESSED : Fld :=
  { blk := 0, base := 0x10010C, lo := 2, wid := 1, acc := .ro, n := 32, stride := 0x80 }

/-- R176: LP, offset +0x0C [3], RO. -/
def prt_LP : Fld :=
  { blk := 0, base := 0x10010C, lo := 3, wid := 1, acc := .ro, n := 32, stride := 0x80 }

/-- R176: SPEED_ACT, offset +0x0C [5:4], RO. -/
def prt_SPEED_ACT : Fld :=
  { blk := 0, base := 0x10010C, lo := 4, wid := 2, acc := .ro, n := 32, stride := 0x80 }

/-- R176: FULL, offset +0x0C [6], RO. -/
def prt_FULL : Fld :=
  { blk := 0, base := 0x10010C, lo := 6, wid := 1, acc := .ro, n := 32, stride := 0x80 }

/-- R176: PAUSED, offset +0x0C [7], RO. -/
def prt_PAUSED : Fld :=
  { blk := 0, base := 0x10010C, lo := 7, wid := 1, acc := .ro, n := 32, stride := 0x80 }

/-- R176: QUARANTINE, offset +0x0C [8], RO. -/
def prt_QUARANTINE : Fld :=
  { blk := 0, base := 0x10010C, lo := 8, wid := 1, acc := .ro, n := 32, stride := 0x80 }

/-- R176: FEC_ACT, offset +0x0C [10:9], RO. -/
def prt_FEC_ACT : Fld :=
  { blk := 0, base := 0x10010C, lo := 9, wid := 2, acc := .ro, n := 32, stride := 0x80 }

/-- R176: PAUSE_LEFT, offset +0x0C [31:16], RO. -/
def prt_PAUSE_LEFT : Fld :=
  { blk := 0, base := 0x10010C, lo := 16, wid := 16, acc := .ro, n := 32, stride := 0x80 }

/-- R176: RX_FRAMES_LO, offset +0x10, +0x14 [31:0], RC. -/
def prt_RX_FRAMES_LO : Fld :=
  { blk := 0, base := 0x100110, lo := 0, wid := 32, acc := .rc, n := 32, stride := 0x80 }

/-- R176: RX_FRAMES_HI, offset +0x10, +0x14 [31:0], RO. -/
def prt_RX_FRAMES_HI : Fld :=
  { blk := 0, base := 0x100114, lo := 0, wid := 32, acc := .ro, n := 32, stride := 0x80 }

/-- R176: RX_BYTES_LO, offset +0x18, +0x1C [31:0], RC. -/
def prt_RX_BYTES_LO : Fld :=
  { blk := 0, base := 0x100118, lo := 0, wid := 32, acc := .rc, n := 32, stride := 0x80 }

/-- R176: RX_BYTES_HI, offset +0x18, +0x1C [31:0], RO. -/
def prt_RX_BYTES_HI : Fld :=
  { blk := 0, base := 0x10011C, lo := 0, wid := 32, acc := .ro, n := 32, stride := 0x80 }

/-- R176: TX_FRAMES_LO, offset +0x20, +0x24 [31:0], RC. -/
def prt_TX_FRAMES_LO : Fld :=
  { blk := 0, base := 0x100120, lo := 0, wid := 32, acc := .rc, n := 32, stride := 0x80 }

/-- R176: TX_FRAMES_HI, offset +0x20, +0x24 [31:0], RO. -/
def prt_TX_FRAMES_HI : Fld :=
  { blk := 0, base := 0x100124, lo := 0, wid := 32, acc := .ro, n := 32, stride := 0x80 }

/-- R176: TX_BYTES_LO, offset +0x28, +0x2C [31:0], RC. -/
def prt_TX_BYTES_LO : Fld :=
  { blk := 0, base := 0x100128, lo := 0, wid := 32, acc := .rc, n := 32, stride := 0x80 }

/-- R176: TX_BYTES_HI, offset +0x28, +0x2C [31:0], RO. -/
def prt_TX_BYTES_HI : Fld :=
  { blk := 0, base := 0x10012C, lo := 0, wid := 32, acc := .ro, n := 32, stride := 0x80 }

/-- R176: PRT_RX_FCS_ERR, offset +0x30 [31:0], RC. -/
def prt_PRT_RX_FCS_ERR : Fld :=
  { blk := 0, base := 0x100130, lo := 0, wid := 32, acc := .rc, n := 32, stride := 0x80 }

/-- R176: PRT_RX_RUNT, offset +0x34 [31:0], RC. -/
def prt_PRT_RX_RUNT : Fld :=
  { blk := 0, base := 0x100134, lo := 0, wid := 32, acc := .rc, n := 32, stride := 0x80 }

/-- R176: PRT_RX_OVERSIZE, offset +0x38 [31:0], RC. -/
def prt_PRT_RX_OVERSIZE : Fld :=
  { blk := 0, base := 0x100138, lo := 0, wid := 32, acc := .rc, n := 32, stride := 0x80 }

/-- R176: PRT_RX_PAUSE, offset +0x3C [31:0], RC. -/
def prt_PRT_RX_PAUSE : Fld :=
  { blk := 0, base := 0x10013C, lo := 0, wid := 32, acc := .rc, n := 32, stride := 0x80 }

/-- R176: PRT_TX_PAUSE, offset +0x40 [31:0], RC. -/
def prt_PRT_TX_PAUSE : Fld :=
  { blk := 0, base := 0x100140, lo := 0, wid := 32, acc := .rc, n := 32, stride := 0x80 }

/-- R176: PRT_RX_MACCTL_DROP, offset +0x44 [31:0], RC. -/
def prt_PRT_RX_MACCTL_DROP : Fld :=
  { blk := 0, base := 0x100144, lo := 0, wid := 32, acc := .rc, n := 32, stride := 0x80 }

/-- R176: PRT_COLL, offset +0x48 [31:0], RC. -/
def prt_PRT_COLL : Fld :=
  { blk := 0, base := 0x100148, lo := 0, wid := 32, acc := .rc, n := 32, stride := 0x80 }

/-- R176: PRT_LATE_COLL, offset +0x4C [31:0], RC. -/
def prt_PRT_LATE_COLL : Fld :=
  { blk := 0, base := 0x10014C, lo := 0, wid := 32, acc := .rc, n := 32, stride := 0x80 }

/-- R176: PRT_EXCESS_COLL, offset +0x50 [31:0], RC. -/
def prt_PRT_EXCESS_COLL : Fld :=
  { blk := 0, base := 0x100150, lo := 0, wid := 32, acc := .rc, n := 32, stride := 0x80 }

/-- R176: PRT_DROP_DOWN_RT, offset +0x54 [31:0], RC. -/
def prt_PRT_DROP_DOWN_RT : Fld :=
  { blk := 0, base := 0x100154, lo := 0, wid := 32, acc := .rc, n := 32, stride := 0x80 }

/-- R176: PRT_DROP_DOWN_BE, offset +0x58 [31:0], RC. -/
def prt_PRT_DROP_DOWN_BE : Fld :=
  { blk := 0, base := 0x100158, lo := 0, wid := 32, acc := .rc, n := 32, stride := 0x80 }

/-- R176: PRT_TX_ABORT, offset +0x5C [31:0], RC. -/
def prt_PRT_TX_ABORT : Fld :=
  { blk := 0, base := 0x10015C, lo := 0, wid := 32, acc := .rc, n := 32, stride := 0x80 }

/-- R176: PRT_LINK_DOWN, offset +0x60 [31:0], RC. -/
def prt_PRT_LINK_DOWN : Fld :=
  { blk := 0, base := 0x100160, lo := 0, wid := 32, acc := .rc, n := 32, stride := 0x80 }

/-- R176: PRT_FLAP_SUPPRESS, offset +0x64 [31:0], RC. -/
def prt_PRT_FLAP_SUPPRESS : Fld :=
  { blk := 0, base := 0x100164, lo := 0, wid := 32, acc := .rc, n := 32, stride := 0x80 }

/-- R176: PRT_TSO_BAD, offset +0x68 [31:0], RC. -/
def prt_PRT_TSO_BAD : Fld :=
  { blk := 0, base := 0x100168, lo := 0, wid := 32, acc := .rc, n := 32, stride := 0x80 }

/-- R176: PRT_IMMUNE_HELD, offset +0x6C [31:0], RC. -/
def prt_PRT_IMMUNE_HELD : Fld :=
  { blk := 0, base := 0x10016C, lo := 0, wid := 32, acc := .rc, n := 32, stride := 0x80 }

/-- R176: PRT_PAUSE_HDX_IGN, offset +0x70 [31:0], RC. -/
def prt_PRT_PAUSE_HDX_IGN : Fld :=
  { blk := 0, base := 0x100170, lo := 0, wid := 32, acc := .rc, n := 32, stride := 0x80 }

/-- R176: PRT_LP_HELD, offset +0x74 [31:0], RC. -/
def prt_PRT_LP_HELD : Fld :=
  { blk := 0, base := 0x100174, lo := 0, wid := 32, acc := .rc, n := 32, stride := 0x80 }

/-- R176: PRT_RX_NOFWD, offset +0x78 [31:0], RC. -/
def prt_PRT_RX_NOFWD : Fld :=
  { blk := 0, base := 0x100178, lo := 0, wid := 32, acc := .rc, n := 32, stride := 0x80 }

/-- R207: SWC_RES_LIMIT, offset 0x000 [9:0], RWB. -/
def swc_SWC_RES_LIMIT : Fld :=
  { blk := 1, base := 0x180000, lo := 0, wid := 10, acc := .rwb, reset := 100, bnd := .window, clamp := .range 60 1000, cfg := true }

/-- R207: SWC_STARVE, offset 0x000 [25:16], RWB. -/
def swc_SWC_STARVE : Fld :=
  { blk := 1, base := 0x180000, lo := 16, wid := 10, acc := .rwb, reset := 20, bnd := .window, clamp := .range 1 1000, cfg := true }

/-- R207: SWC_AGE, offset 0x004 [11:0], RWB. -/
def swc_SWC_AGE : Fld :=
  { blk := 1, base := 0x180004, lo := 0, wid := 12, acc := .rwb, reset := 300, bnd := .window, clamp := .range 10 3600, cfg := true }

/-- R207: CLS_EPOCH, offset 0x008 [15:0], RO. -/
def swc_CLS_EPOCH : Fld :=
  { blk := 1, base := 0x180008, lo := 0, wid := 16, acc := .ro }

/-- R207: LIVE, offset 0x008 [18:16], RO. -/
def swc_LIVE : Fld :=
  { blk := 1, base := 0x180008, lo := 16, wid := 3, acc := .ro, reset := 1 }

/-- R207: FREE_CELLS, offset 0x00C [15:0], RO. -/
def swc_FREE_CELLS : Fld :=
  { blk := 1, base := 0x18000C, lo := 0, wid := 16, acc := .ro, reset := 49152 }

/-- R207: ADM_CELLS, offset 0x00C [31:16], RO. -/
def swc_ADM_CELLS : Fld :=
  { blk := 1, base := 0x18000C, lo := 16, wid := 16, acc := .ro }

/-- R207: AUDIT_EN, offset 0x010 [0], RW. -/
def swc_AUDIT_EN : Fld :=
  { blk := 1, base := 0x180010, lo := 0, wid := 1, acc := .rw, reset := 1, cfg := true }

/-- R207: FLOOD_LO, offset 0x014 [31:0], RWB. -/
def swc_FLOOD_LO : Fld :=
  { blk := 1, base := 0x180014, lo := 0, wid := 32, acc := .rwb, reset := 4294967295, bnd := .frame, cfg := true }

/-- R207: FLOOD_HOST, offset 0x018 [0], RWB. -/
def swc_FLOOD_HOST : Fld :=
  { blk := 1, base := 0x180018, lo := 0, wid := 1, acc := .rwb, reset := 1, bnd := .frame, cfg := true }

/-- R207: SWC_DROP_STALE, offset 0x040 [31:0], RC. -/
def swc_SWC_DROP_STALE : Fld :=
  { blk := 1, base := 0x180040, lo := 0, wid := 32, acc := .rc }

/-- R207: SWC_DROP_SHARE, offset 0x044 [31:0], RC. -/
def swc_SWC_DROP_SHARE : Fld :=
  { blk := 1, base := 0x180044, lo := 0, wid := 32, acc := .rc }

/-- R207: SWC_DROP_NOBUF, offset 0x048 [31:0], RC. -/
def swc_SWC_DROP_NOBUF : Fld :=
  { blk := 1, base := 0x180048, lo := 0, wid := 32, acc := .rc }

/-- R207: SWC_DEMOTE, offset 0x04C [31:0], RC. -/
def swc_SWC_DEMOTE : Fld :=
  { blk := 1, base := 0x18004C, lo := 0, wid := 32, acc := .rc }

/-- R207: SWC_POLICE_DROP, offset 0x050 [31:0], RC. -/
def swc_SWC_POLICE_DROP : Fld :=
  { blk := 1, base := 0x180050, lo := 0, wid := 32, acc := .rc }

/-- R207: SWC_CT_STOMP, offset 0x054 [31:0], RC. -/
def swc_SWC_CT_STOMP : Fld :=
  { blk := 1, base := 0x180054, lo := 0, wid := 32, acc := .rc }

/-- R207: SWC_CT_FALLBACK, offset 0x058 [31:0], RC. -/
def swc_SWC_CT_FALLBACK : Fld :=
  { blk := 1, base := 0x180058, lo := 0, wid := 32, acc := .rc }

/-- R207: SWC_LEAK_RECLAIM, offset 0x05C [31:0], RC. -/
def swc_SWC_LEAK_RECLAIM : Fld :=
  { blk := 1, base := 0x18005C, lo := 0, wid := 32, acc := .rc }

/-- R207: SWC_FREE_DUP, offset 0x060 [31:0], RC. -/
def swc_SWC_FREE_DUP : Fld :=
  { blk := 1, base := 0x180060, lo := 0, wid := 32, acc := .rc }

/-- R207: SWC_TAG_FAIL, offset 0x064 [31:0], RC. -/
def swc_SWC_TAG_FAIL : Fld :=
  { blk := 1, base := 0x180064, lo := 0, wid := 32, acc := .rc }

/-- R207: SWC_TAG_MISSING, offset 0x068 [31:0], RC. -/
def swc_SWC_TAG_MISSING : Fld :=
  { blk := 1, base := 0x180068, lo := 0, wid := 32, acc := .rc }

/-- R207: SWC_TAG_GEN, offset 0x06C [31:0], RC. -/
def swc_SWC_TAG_GEN : Fld :=
  { blk := 1, base := 0x18006C, lo := 0, wid := 32, acc := .rc }

/-- R207: SWC_STARVE_PROMOTE, offset 0x070 [31:0], RC. -/
def swc_SWC_STARVE_PROMOTE : Fld :=
  { blk := 1, base := 0x180070, lo := 0, wid := 32, acc := .rc }

/-- R207: SWC_EPOCH_WAIT, offset 0x074 [31:0], RC. -/
def swc_SWC_EPOCH_WAIT : Fld :=
  { blk := 1, base := 0x180074, lo := 0, wid := 32, acc := .rc }

/-- R207: SWC_DROP_XING, offset 0x078 [31:0], RC. -/
def swc_SWC_DROP_XING : Fld :=
  { blk := 1, base := 0x180078, lo := 0, wid := 32, acc := .rc }

/-- R207: SWC_DROP_RESET, offset 0x07C [31:0], RC. -/
def swc_SWC_DROP_RESET : Fld :=
  { blk := 1, base := 0x18007C, lo := 0, wid := 32, acc := .rc }

/-- R207: SWC_DROP_ECC, offset 0x080 [31:0], RC. -/
def swc_SWC_DROP_ECC : Fld :=
  { blk := 1, base := 0x180080, lo := 0, wid := 32, acc := .rc }

/-- R207: SWC_FDB_FULL, offset 0x084 [31:0], RC. -/
def swc_SWC_FDB_FULL : Fld :=
  { blk := 1, base := 0x180084, lo := 0, wid := 32, acc := .rc }

/-- R207: SWC_KEY_ROLL, offset 0x088 [31:0], RC. -/
def swc_SWC_KEY_ROLL : Fld :=
  { blk := 1, base := 0x180088, lo := 0, wid := 32, acc := .rc }

/-- R207: SWC_TAG_ORPHAN, offset 0x08C [31:0], RC. -/
def swc_SWC_TAG_ORPHAN : Fld :=
  { blk := 1, base := 0x18008C, lo := 0, wid := 32, acc := .rc }

/-- R208: CT_EN, offset Port +0x00 [7:0], RWB. -/
def swp_CT_EN : Fld :=
  { blk := 1, base := 0x180400, lo := 0, wid := 8, acc := .rwb, n := 36, stride := 0x20, reset := 255, bnd := .frame, cfg := true }

/-- R208: DWRR_W, offset Port +0x04 [31:0], RWB. -/
def swp_DWRR_W : Fld :=
  { blk := 1, base := 0x180404, lo := 0, wid := 32, acc := .rwb, n := 36, stride := 0x20, reset := 1077952576, bnd := .frame, clamp := .bytesMin1, cfg := true }

/-- R208: XOFF, offset Port +0x08 [15:0], RWB. -/
def swp_XOFF : Fld :=
  { blk := 1, base := 0x180408, lo := 0, wid := 16, acc := .rwb, n := 36, stride := 0x20, reset := 1024, bnd := .window, cfg := true }

/-- R208: XON, offset Port +0x08 [31:16], RWB. -/
def swp_XON : Fld :=
  { blk := 1, base := 0x180408, lo := 16, wid := 16, acc := .rwb, n := 36, stride := 0x20, reset := 512, bnd := .window, cfg := true }

/-- R208: PTP_RATE, offset Port +0x0C [15:0], RWB. -/
def swp_PTP_RATE : Fld :=
  { blk := 1, base := 0x18040C, lo := 0, wid := 16, acc := .rwb, n := 36, stride := 0x20, reset := 2000, bnd := .window, clamp := .range 100 65535, cfg := true }

/-- R208: BE_CELLS, offset Port +0x10 [15:0], RO. -/
def swp_BE_CELLS : Fld :=
  { blk := 1, base := 0x180410, lo := 0, wid := 16, acc := .ro, n := 36, stride := 0x20 }

/-- R208: XOFF_ACT, offset Port +0x10 [16], RO. -/
def swp_XOFF_ACT : Fld :=
  { blk := 1, base := 0x180410, lo := 16, wid := 1, acc := .ro, n := 36, stride := 0x20 }

/-- R208: OCC, offset Owner +0x4 [15:0], RO. -/
def own_OCC : Fld :=
  { blk := 1, base := 0x181004, lo := 0, wid := 16, acc := .ro, n := 129, stride := 0x10 }

/-- R208: FULL, offset Owner +0x4 [16], RO. -/
def own_FULL : Fld :=
  { blk := 1, base := 0x181004, lo := 16, wid := 1, acc := .ro, n := 129, stride := 0x10 }

/-- R208: SWC_OWN_DROP, offset Owner +0x8 [31:0], RC. -/
def own_SWC_OWN_DROP : Fld :=
  { blk := 1, base := 0x181008, lo := 0, wid := 32, acc := .rc, n := 129, stride := 0x10 }

/-- R234: SUP_ADDR, offset 0x000 [7:0], RWB. -/
def red_SUP_ADDR : Fld :=
  { blk := 2, base := 0x200000, lo := 0, wid := 8, acc := .rwb, bnd := .window, cfg := true }

/-- R234: LIFE_CHECK, offset 0x000 [31:16], RWB. -/
def red_LIFE_CHECK : Fld :=
  { blk := 2, base := 0x200000, lo := 16, wid := 16, acc := .rwb, reset := 2000, bnd := .window, clamp := .range 100 10000, cfg := true }

/-- R234: ENTRY_FORGET, offset 0x004 [15:0], RWB. -/
def red_ENTRY_FORGET : Fld :=
  { blk := 2, base := 0x200004, lo := 0, wid := 16, acc := .rwb, reset := 400, bnd := .window, clamp := .range 10 1000, cfg := true }

/-- R234: NODE_FORGET, offset 0x004 [31:16], RWB. -/
def red_NODE_FORGET : Fld :=
  { blk := 2, base := 0x200004, lo := 16, wid := 16, acc := .rwb, reset := 60, bnd := .window, clamp := .range 1 3600, cfg := true }

/-- R234: NODE_COUNT, offset 0x008 [10:0], RO. -/
def red_NODE_COUNT : Fld :=
  { blk := 2, base := 0x200008, lo := 0, wid := 11, acc := .ro }

/-- R234: RED_NODE_FULL, offset 0x00C [31:0], RC. -/
def red_RED_NODE_FULL : Fld :=
  { blk := 2, base := 0x20000C, lo := 0, wid := 32, acc := .rc }

/-- R234: RED_TOO_LONG, offset 0x010 [31:0], RC. -/
def red_RED_TOO_LONG : Fld :=
  { blk := 2, base := 0x200010, lo := 0, wid := 32, acc := .rc }

/-- R234: PORT_A, offset 0x100 + 0x20k [4:0], RWB. -/
def pair_PORT_A : Fld :=
  { blk := 2, base := 0x200100, lo := 0, wid := 5, acc := .rwb, n := 8, stride := 0x20, bnd := .window, cfg := true }

/-- R234: PORT_B, offset +0x00 [12:8], RWB. -/
def pair_PORT_B : Fld :=
  { blk := 2, base := 0x200100, lo := 8, wid := 5, acc := .rwb, n := 8, stride := 0x20, bnd := .window, cfg := true }

/-- R234: EN, offset +0x00 [16], RWB. -/
def pair_EN : Fld :=
  { blk := 2, base := 0x200100, lo := 16, wid := 1, acc := .rwb, n := 8, stride := 0x20, bnd := .window, cfg := true }

/-- R234: REDBOX, offset +0x00 [17], RWB. -/
def pair_REDBOX : Fld :=
  { blk := 2, base := 0x200100, lo := 17, wid := 1, acc := .rwb, n := 8, stride := 0x20, bnd := .window, cfg := true }

/-- R234: SILENT, offset +0x04 [15:0], RWB. -/
def pair_SILENT : Fld :=
  { blk := 2, base := 0x200104, lo := 0, wid := 16, acc := .rwb, n := 8, stride := 0x20, reset := 10, bnd := .window, clamp := .range 1 1000, cfg := true }

/-- R234: A_OK, offset +0x08 [0], RO. -/
def pair_A_OK : Fld :=
  { blk := 2, base := 0x200108, lo := 0, wid := 1, acc := .ro, n := 8, stride := 0x20 }

/-- R234: B_OK, offset +0x08 [1], RO. -/
def pair_B_OK : Fld :=
  { blk := 2, base := 0x200108, lo := 1, wid := 1, acc := .ro, n := 8, stride := 0x20 }

/-- R234: BAD, offset +0x08 [2], RO. -/
def pair_BAD : Fld :=
  { blk := 2, base := 0x200108, lo := 2, wid := 1, acc := .ro, n := 8, stride := 0x20 }

/-- R234: RED_DUP_DISCARD, offset +0x0C [31:0], RC. -/
def pair_RED_DUP_DISCARD : Fld :=
  { blk := 2, base := 0x20010C, lo := 0, wid := 32, acc := .rc, n := 8, stride := 0x20 }

/-- R234: RED_WRONG_LAN, offset +0x10 [31:0], RC. -/
def pair_RED_WRONG_LAN : Fld :=
  { blk := 2, base := 0x200110, lo := 0, wid := 32, acc := .rc, n := 8, stride := 0x20 }

/-- R234: RED_WIN_EVICT, offset +0x14 [31:0], RC. -/
def pair_RED_WIN_EVICT : Fld :=
  { blk := 2, base := 0x200114, lo := 0, wid := 32, acc := .rc, n := 8, stride := 0x20 }

/-- R234: RED_RX_NO_RCT, offset +0x18 [31:0], RC. -/
def pair_RED_RX_NO_RCT : Fld :=
  { blk := 2, base := 0x200118, lo := 0, wid := 32, acc := .rc, n := 8, stride := 0x20 }

/-- R234: RED_SUP_RX, offset +0x1C [31:0], RC. -/
def pair_RED_SUP_RX : Fld :=
  { blk := 2, base := 0x20011C, lo := 0, wid := 32, acc := .rc, n := 8, stride := 0x20 }

/-- R235: PORT_A, offset 0x100 + 0x20k [4:0], RWB. -/
def ring_PORT_A : Fld :=
  { blk := 2, base := 0x200200, lo := 0, wid := 5, acc := .rwb, n := 4, stride := 0x20, bnd := .window, cfg := true }

/-- R235: PORT_B, offset +0x00 [12:8], RWB. -/
def ring_PORT_B : Fld :=
  { blk := 2, base := 0x200200, lo := 8, wid := 5, acc := .rwb, n := 4, stride := 0x20, bnd := .window, cfg := true }

/-- R235: EN, offset +0x00 [16], RWB. -/
def ring_EN : Fld :=
  { blk := 2, base := 0x200200, lo := 16, wid := 1, acc := .rwb, n := 4, stride := 0x20, bnd := .window, cfg := true }

/-- R235: REDBOX, offset +0x00 [17], RWB. -/
def ring_REDBOX : Fld :=
  { blk := 2, base := 0x200200, lo := 17, wid := 1, acc := .rwb, n := 4, stride := 0x20, bnd := .window, cfg := true }

/-- R235: RING_OK, offset +0x08 [0], RO. -/
def ring_RING_OK : Fld :=
  { blk := 2, base := 0x200208, lo := 0, wid := 1, acc := .ro, n := 4, stride := 0x20 }

/-- R235: BAD, offset +0x08 [2], RO. -/
def ring_BAD : Fld :=
  { blk := 2, base := 0x200208, lo := 2, wid := 1, acc := .ro, n := 4, stride := 0x20 }

/-- R235: RED_DUP_DISCARD, offset +0x0C [31:0], RC. -/
def ring_RED_DUP_DISCARD : Fld :=
  { blk := 2, base := 0x20020C, lo := 0, wid := 32, acc := .rc, n := 4, stride := 0x20 }

/-- R235: RED_OWN_REMOVED, offset +0x10 [31:0], RC. -/
def ring_RED_OWN_REMOVED : Fld :=
  { blk := 2, base := 0x200210, lo := 0, wid := 32, acc := .rc, n := 4, stride := 0x20 }

/-- R235: RED_WIN_EVICT, offset +0x14 [31:0], RC. -/
def ring_RED_WIN_EVICT : Fld :=
  { blk := 2, base := 0x200214, lo := 0, wid := 32, acc := .rc, n := 4, stride := 0x20 }

/-- R235: RED_TAG_ERR, offset +0x18 [31:0], RC. -/
def ring_RED_TAG_ERR : Fld :=
  { blk := 2, base := 0x200218, lo := 0, wid := 32, acc := .rc, n := 4, stride := 0x20 }

/-- R235: RED_SUP_RX, offset +0x1C [31:0], RC. -/
def ring_RED_SUP_RX : Fld :=
  { blk := 2, base := 0x20021C, lo := 0, wid := 32, acc := .rc, n := 4, stride := 0x20 }

/-- R235: UNIT_EN, offset 0x300 [0], RWB. -/
def unit_UNIT_EN : Fld :=
  { blk := 2, base := 0x200300, lo := 0, wid := 1, acc := .rwb, bnd := .window, own := true, cfg := true }

/-- R235: RELINQUISH, offset 0x300 [1], W1S. -/
def unit_RELINQUISH : Fld :=
  { blk := 2, base := 0x200300, lo := 1, wid := 1, acc := .w1s, own := true }

/-- R235: TAKEOVER, offset 0x300 [2], W1S. -/
def unit_TAKEOVER : Fld :=
  { blk := 2, base := 0x200300, lo := 2, wid := 1, acc := .w1s, own := true }

/-- R235: PEER, offset 0x300 [31:16], RWB. -/
def unit_PEER : Fld :=
  { blk := 2, base := 0x200300, lo := 16, wid := 16, acc := .rwb, bnd := .window, cfg := true }

/-- R235: TAKEOVER_TMO, offset 0x304 [15:0], RWB. -/
def unit_TAKEOVER_TMO : Fld :=
  { blk := 2, base := 0x200304, lo := 0, wid := 16, acc := .rwb, reset := 10, bnd := .window, clamp := .range 3 1000, cfg := true }

/-- R235: MIRROR_HOLD, offset 0x304 [31:16], RWB. -/
def unit_MIRROR_HOLD : Fld :=
  { blk := 2, base := 0x200304, lo := 16, wid := 16, acc := .rwb, reset := 2000, bnd := .window, clamp := .range 100 10000, cfg := true }

/-- R235: MISMATCH_LIMIT, offset 0x308 [7:0], RWB. -/
def unit_MISMATCH_LIMIT : Fld :=
  { blk := 2, base := 0x200308, lo := 0, wid := 8, acc := .rwb, reset := 3, bnd := .window, clamp := .range 1 255, cfg := true }

/-- R235: UNIT_STATE, offset 0x30C [2:0], RO. -/
def unit_UNIT_STATE : Fld :=
  { blk := 2, base := 0x20030C, lo := 0, wid := 3, acc := .ro }

/-- R235: PARTNER_SEEN, offset 0x30C [3], RO. -/
def unit_PARTNER_SEEN : Fld :=
  { blk := 2, base := 0x20030C, lo := 3, wid := 1, acc := .ro }

/-- R235: RED_EPOCH_EXHAUSTED, offset 0x30C [4], RO. -/
def unit_RED_EPOCH_EXHAUSTED : Fld :=
  { blk := 2, base := 0x20030C, lo := 4, wid := 1, acc := .ro }

/-- R235: RED_CLAIM_OWN, offset 0x310 [31:0], RO. -/
def unit_RED_CLAIM_OWN : Fld :=
  { blk := 2, base := 0x200310, lo := 0, wid := 32, acc := .ro, reset := 2147483648 }

/-- R235: RED_CLAIM_HIGH, offset 0x314 [31:0], RO. -/
def unit_RED_CLAIM_HIGH : Fld :=
  { blk := 2, base := 0x200314, lo := 0, wid := 32, acc := .ro }

/-- R235: RED_RESYNC_LEFT, offset 0x318 [15:0], RO. -/
def unit_RED_RESYNC_LEFT : Fld :=
  { blk := 2, base := 0x200318, lo := 0, wid := 16, acc := .ro }

/-- R235: PAIR_EGRESS, offset 0x31C [31:0], RWB. -/
def unit_PAIR_EGRESS : Fld :=
  { blk := 2, base := 0x20031C, lo := 0, wid := 32, acc := .rwb, bnd := .window, cfg := true }

/-- R235: RED_MIRROR_MATCH, offset 0x320 [31:0], RC. -/
def unit_RED_MIRROR_MATCH : Fld :=
  { blk := 2, base := 0x200320, lo := 0, wid := 32, acc := .rc }

/-- R235: RED_MIRROR_MISMATCH, offset 0x324 [31:0], RC. -/
def unit_RED_MIRROR_MISMATCH : Fld :=
  { blk := 2, base := 0x200324, lo := 0, wid := 32, acc := .rc }

/-- R235: RED_MIRROR_SKIP, offset 0x328 [31:0], RC. -/
def unit_RED_MIRROR_SKIP : Fld :=
  { blk := 2, base := 0x200328, lo := 0, wid := 32, acc := .rc }

/-- R235: RED_MIRROR_LATE, offset 0x32C [31:0], RC. -/
def unit_RED_MIRROR_LATE : Fld :=
  { blk := 2, base := 0x20032C, lo := 0, wid := 32, acc := .rc }

/-- R235: RED_TAKEOVER, offset 0x330 [31:0], RC. -/
def unit_RED_TAKEOVER : Fld :=
  { blk := 2, base := 0x200330, lo := 0, wid := 32, acc := .rc }

/-- R235: RED_DEMOTE, offset 0x334 [31:0], RC. -/
def unit_RED_DEMOTE : Fld :=
  { blk := 2, base := 0x200334, lo := 0, wid := 32, acc := .rc }

/-- R235: RED_PAIR_AUTH_FAIL, offset 0x338 [31:0], RC. -/
def unit_RED_PAIR_AUTH_FAIL : Fld :=
  { blk := 2, base := 0x200338, lo := 0, wid := 32, acc := .rc }

/-- R235: RED_CMD_IGNORED, offset 0x33C [31:0], RC. -/
def unit_RED_CMD_IGNORED : Fld :=
  { blk := 2, base := 0x20033C, lo := 0, wid := 32, acc := .rc }

/-- The fields with prefix `stx` (block 3). -/
def list_b3_stx : List Fld :=
  [stx_PTP_EN, stx_PROFILE, stx_BACKUP_EN, stx_STEP_MODE,
   stx_PPS_IN_EN, stx_STEP_NOW, stx_SET_TIME, stx_DOMAIN,
   stx_STATE, stx_JUMP_PEND, stx_SLEWING, stx_PPS_OK,
   stx_MASTER, stx_CLOCK_CLASS, stx_STX_JUMP_THR, stx_STX_JUMP_PERSIST,
   stx_STX_SLEW_MAX, stx_STX_HOLD_LIMIT, stx_STX_PPS_OUT_W, stx_STX_UTC_OFFSET]

/-- The fields with prefix `stx` (block 3). -/
def list_b3_stx1 : List Fld :=
  [stx_UTC_VALID, stx_LEAP61, stx_LEAP59, stx_STX_TIME_SEC_LO,
   stx_STX_TIME_SEC_HI, stx_STX_TIME_NS, stx_STX_SET_SEC_LO, stx_STX_SET_SEC_HI,
   stx_STX_SET_NS, stx_STX_OFFSET, stx_STX_FREQ_ADJ, stx_STX_TERR,
   stx_STX_DISC_SEC, stx_STX_DR_SEC, stx_STX_GM_ID_LO, stx_STX_GM_ID_HI,
   stx_STX_CLOCK_ID_LO, stx_STX_CLOCK_ID_HI, stx_STX_PPS_OFFSET, stx_STX_SYNC_RX]

/-- The fields with prefix `stx` (block 3). -/
def list_b3_stx2 : List Fld :=
  [stx_STX_ANN_TIMEOUT, stx_STX_JUMP_REFUSED, stx_STX_STEP_COUNT, stx_STX_TC_CORR,
   stx_STX_TC_NOMATCH, stx_STX_TC_OVF, stx_STX_TC_NOLINK, stx_STX_PPS_REFUSED,
   stx_STX_PTP_HDX_DROP, stx_STX_SET_IGNORED]

/-- The fields with prefix `stxp` (block 3). -/
def list_b3_stxp : List Fld :=
  [stxp_PTP_PORT_EN, stxp_STX_ASYM, stxp_EXT_RX_LAT, stxp_EXT_TX_LAT,
   stxp_STX_LINK_DELAY, stxp_STX_PDELAY_FAIL]

/-- The fields with prefix `prtg` (block 0). -/
def list_b0_prtg : List Fld :=
  [prtg_GRP_LP, prtg_GRP_WAKING, prtg_FLAP_MAX, prtg_FLAP_WIN,
   prtg_FLAP_HOLD, prtg_DOWN_HOLD, prtg_M_EN, prtg_M_LINK,
   prtg_M_SPEED, prtg_PRT_M_DROP]

/-- The fields with prefix `prt` (block 0). -/
def list_b0_prt : List Fld :=
  [prt_LANE_MODE, prt_SPEED, prt_AN_EN, prt_HDX,
   prt_RX_PAUSE_EN, prt_TX_PAUSE_EN, prt_LP_REQ, prt_WAKE_EN,
   prt_FEC, prt_PAUSE_IMMUNE, prt_MAX_FRAME, prt_LINK_STABLE,
   prt_HDX_QLIMIT, prt_PAUSE_QUANTA, prt_PAUSE_REFRESH, prt_LINK,
   prt_FWD, prt_SUPPRESSED, prt_LP, prt_SPEED_ACT]

/-- The fields with prefix `prt` (block 0). -/
def list_b0_prt1 : List Fld :=
  [prt_FULL, prt_PAUSED, prt_QUARANTINE, prt_FEC_ACT,
   prt_PAUSE_LEFT, prt_RX_FRAMES_LO, prt_RX_FRAMES_HI, prt_RX_BYTES_LO,
   prt_RX_BYTES_HI, prt_TX_FRAMES_LO, prt_TX_FRAMES_HI, prt_TX_BYTES_LO,
   prt_TX_BYTES_HI, prt_PRT_RX_FCS_ERR, prt_PRT_RX_RUNT, prt_PRT_RX_OVERSIZE,
   prt_PRT_RX_PAUSE, prt_PRT_TX_PAUSE, prt_PRT_RX_MACCTL_DROP, prt_PRT_COLL]

/-- The fields with prefix `prt` (block 0). -/
def list_b0_prt2 : List Fld :=
  [prt_PRT_LATE_COLL, prt_PRT_EXCESS_COLL, prt_PRT_DROP_DOWN_RT, prt_PRT_DROP_DOWN_BE,
   prt_PRT_TX_ABORT, prt_PRT_LINK_DOWN, prt_PRT_FLAP_SUPPRESS, prt_PRT_TSO_BAD,
   prt_PRT_IMMUNE_HELD, prt_PRT_PAUSE_HDX_IGN, prt_PRT_LP_HELD, prt_PRT_RX_NOFWD]

/-- The fields with prefix `swc` (block 1). -/
def list_b1_swc : List Fld :=
  [swc_SWC_RES_LIMIT, swc_SWC_STARVE, swc_SWC_AGE, swc_CLS_EPOCH,
   swc_LIVE, swc_FREE_CELLS, swc_ADM_CELLS, swc_AUDIT_EN,
   swc_FLOOD_LO, swc_FLOOD_HOST, swc_SWC_DROP_STALE, swc_SWC_DROP_SHARE,
   swc_SWC_DROP_NOBUF, swc_SWC_DEMOTE, swc_SWC_POLICE_DROP, swc_SWC_CT_STOMP,
   swc_SWC_CT_FALLBACK, swc_SWC_LEAK_RECLAIM, swc_SWC_FREE_DUP, swc_SWC_TAG_FAIL]

/-- The fields with prefix `swc` (block 1). -/
def list_b1_swc1 : List Fld :=
  [swc_SWC_TAG_MISSING, swc_SWC_TAG_GEN, swc_SWC_STARVE_PROMOTE, swc_SWC_EPOCH_WAIT,
   swc_SWC_DROP_XING, swc_SWC_DROP_RESET, swc_SWC_DROP_ECC, swc_SWC_FDB_FULL,
   swc_SWC_KEY_ROLL, swc_SWC_TAG_ORPHAN]

/-- The fields with prefix `swp` (block 1). -/
def list_b1_swp : List Fld :=
  [swp_CT_EN, swp_DWRR_W, swp_XOFF, swp_XON,
   swp_PTP_RATE, swp_BE_CELLS, swp_XOFF_ACT]

/-- The fields with prefix `own` (block 1). -/
def list_b1_own : List Fld :=
  [own_OCC, own_FULL, own_SWC_OWN_DROP]

/-- The fields with prefix `red` (block 2). -/
def list_b2_red : List Fld :=
  [red_SUP_ADDR, red_LIFE_CHECK, red_ENTRY_FORGET, red_NODE_FORGET,
   red_NODE_COUNT, red_RED_NODE_FULL, red_RED_TOO_LONG]

/-- The fields with prefix `pair` (block 2). -/
def list_b2_pair : List Fld :=
  [pair_PORT_A, pair_PORT_B, pair_EN, pair_REDBOX,
   pair_SILENT, pair_A_OK, pair_B_OK, pair_BAD,
   pair_RED_DUP_DISCARD, pair_RED_WRONG_LAN, pair_RED_WIN_EVICT, pair_RED_RX_NO_RCT,
   pair_RED_SUP_RX]

/-- The fields with prefix `ring` (block 2). -/
def list_b2_ring : List Fld :=
  [ring_PORT_A, ring_PORT_B, ring_EN, ring_REDBOX,
   ring_RING_OK, ring_BAD, ring_RED_DUP_DISCARD, ring_RED_OWN_REMOVED,
   ring_RED_WIN_EVICT, ring_RED_TAG_ERR, ring_RED_SUP_RX]

/-- The fields with prefix `unit` (block 2). -/
def list_b2_unit : List Fld :=
  [unit_UNIT_EN, unit_RELINQUISH, unit_TAKEOVER, unit_PEER,
   unit_TAKEOVER_TMO, unit_MIRROR_HOLD, unit_MISMATCH_LIMIT, unit_UNIT_STATE,
   unit_PARTNER_SEEN, unit_RED_EPOCH_EXHAUSTED, unit_RED_CLAIM_OWN, unit_RED_CLAIM_HIGH,
   unit_RED_RESYNC_LEFT, unit_PAIR_EGRESS, unit_RED_MIRROR_MATCH, unit_RED_MIRROR_MISMATCH,
   unit_RED_MIRROR_SKIP, unit_RED_MIRROR_LATE, unit_RED_TAKEOVER, unit_RED_DEMOTE]

/-- The fields with prefix `unit` (block 2). -/
def list_b2_unit1 : List Fld :=
  [unit_RED_PAIR_AUTH_FAIL, unit_RED_CMD_IGNORED]

/-- All fields of this file. -/
def allRegsNet : List Fld :=
  list_b3_stx ++ list_b3_stx1 ++ list_b3_stx2 ++ list_b3_stxp ++ list_b0_prtg ++ list_b0_prt ++ list_b0_prt1 ++ list_b0_prt2 ++ list_b1_swc ++ list_b1_swc1 ++ list_b1_swp ++ list_b1_own ++ list_b2_red ++ list_b2_pair ++ list_b2_ring ++ list_b2_unit ++ list_b2_unit1

end Sys2Proof.Machine.Reg
end

