-- ==== Sys2Proof/Machine/RegsPlat.lean ====
section
/-!
DEFINITION. The register fields of the blocks named below, one constant per field, copied from the
spec's register tables (R13: access codes; R93: boundaries). Each docstring names the rule whose table holds it.
-/

namespace Sys2Proof.Machine.Reg

/-- R396: PASID, offset +0x00 [19:0], RW. -/
def slc_PASID : Fld :=
  { blk := 17, base := 0x980000, lo := 0, wid := 20, acc := .rw, n := 128, stride := 0x20, cfg := true }

/-- R396: LINK, offset +0x00 [20], RW. -/
def slc_LINK : Fld :=
  { blk := 17, base := 0x980000, lo := 20, wid := 1, acc := .rw, n := 128, stride := 0x20, cfg := true }

/-- R396: TOR_SHARE, offset +0x04 [9:0], RWB. -/
def slc_TOR_SHARE : Fld :=
  { blk := 17, base := 0x980004, lo := 0, wid := 10, acc := .rwb, n := 128, stride := 0x20, bnd := .window, clamp := .range 0 850, own := true, cfg := true }

/-- R396: SCAN_SHARE, offset +0x04 [25:16], RWB. -/
def slc_SCAN_SHARE : Fld :=
  { blk := 17, base := 0x980004, lo := 16, wid := 10, acc := .rwb, n := 128, stride := 0x20, bnd := .window, clamp := .range 0 950, own := true, cfg := true }

/-- R396: BUF_SHARE, offset +0x08 [15:0], RWB. -/
def slc_BUF_SHARE : Fld :=
  { blk := 17, base := 0x980008, lo := 0, wid := 16, acc := .rwb, n := 128, stride := 0x20, bnd := .window, own := true, cfg := true }

/-- R396: BOB_COUNT, offset +0x08 [21:16], RWB. -/
def slc_BOB_COUNT : Fld :=
  { blk := 17, base := 0x980008, lo := 16, wid := 6, acc := .rwb, n := 128, stride := 0x20, bnd := .window, clamp := .range 0 32, own := true, cfg := true }

/-- R396: DESC_SHARE, offset +0x0C [16:0], RWB. -/
def slc_DESC_SHARE : Fld :=
  { blk := 17, base := 0x98000C, lo := 0, wid := 17, acc := .rwb, n := 128, stride := 0x20, bnd := .window, clamp := .range 0 65536, own := true, cfg := true }

/-- R396: CAP_SHARE, offset +0x10 [13:0], RWB. -/
def slc_CAP_SHARE : Fld :=
  { blk := 17, base := 0x980010, lo := 0, wid := 14, acc := .rwb, n := 128, stride := 0x20, bnd := .window, clamp := .range 0 10000, own := true, cfg := true }

/-- R396: STATE, offset +0x14 [2:0], RO. -/
def slc_STATE : Fld :=
  { blk := 17, base := 0x980014, lo := 0, wid := 3, acc := .ro, n := 128, stride := 0x20 }

/-- R396: GEN, offset +0x14 [31:16], RO. -/
def slc_GEN : Fld :=
  { blk := 17, base := 0x980014, lo := 16, wid := 16, acc := .ro, n := 128, stride := 0x20 }

/-- R396: HOST_DEFAULT, offset 0x000 [7:0], RWB. -/
def slcg_HOST_DEFAULT : Fld :=
  { blk := 17, base := 0x981000, lo := 0, wid := 8, acc := .rwb, reset := 255, bnd := .window, clamp := .asVal 128 254 255, cfg := true }

/-- R396: SLC_STALE_DROP, offset 0x040 [31:0], RC. -/
def slcg_SLC_STALE_DROP : Fld :=
  { blk := 17, base := 0x981040, lo := 0, wid := 32, acc := .rc }

/-- R396: SLC_SHARE_HELD, offset 0x044 [31:0], RC. -/
def slcg_SLC_SHARE_HELD : Fld :=
  { blk := 17, base := 0x981044, lo := 0, wid := 32, acc := .rc }

/-- R396: SLC_RX_NOBOB, offset 0x048 [31:0], RC. -/
def slcg_SLC_RX_NOBOB : Fld :=
  { blk := 17, base := 0x981048, lo := 0, wid := 32, acc := .rc }

/-- R396: SLC_CMD_REFUSE, offset 0x04C [31:0], RC. -/
def slcg_SLC_CMD_REFUSE : Fld :=
  { blk := 17, base := 0x98104C, lo := 0, wid := 32, acc := .rc }

/-- R491: AUTO_PD, offset 0x000 [0], RWB. -/
def adc_AUTO_PD : Fld :=
  { blk := 10, base := 0x600000, lo := 0, wid := 1, acc := .rwb, reset := 1, bnd := .window, cfg := true }

/-- R491: PD_IDLE, offset 0x000 [15:8], RWB. -/
def adc_PD_IDLE : Fld :=
  { blk := 10, base := 0x600000, lo := 8, wid := 8, acc := .rwb, reset := 10, bnd := .window, clamp := .range 1 255, cfg := true }

/-- R491: OVR_STICKY, offset 0x004 [15:0], W1C. -/
def adc_OVR_STICKY : Fld :=
  { blk := 10, base := 0x600004, lo := 0, wid := 16, acc := .w1c }

/-- R491: AWAKE, offset 0x008 [0], RO. -/
def adc_AWAKE : Fld :=
  { blk := 10, base := 0x600008, lo := 0, wid := 1, acc := .ro }

/-- R491: TESTING, offset 0x008 [1], RO. -/
def adc_TESTING : Fld :=
  { blk := 10, base := 0x600008, lo := 1, wid := 1, acc := .ro }

/-- R491: REF_FAIL, offset 0x008 [2], RO. -/
def adc_REF_FAIL : Fld :=
  { blk := 10, base := 0x600008, lo := 2, wid := 1, acc := .ro }

/-- R491: LOOP_FAIL, offset 0x008 [3], RO. -/
def adc_LOOP_FAIL : Fld :=
  { blk := 10, base := 0x600008, lo := 3, wid := 1, acc := .ro }

/-- R491: ADC_CONV, offset 0x040 [31:0], RC. -/
def adc_ADC_CONV : Fld :=
  { blk := 10, base := 0x600040, lo := 0, wid := 32, acc := .rc }

/-- R491: ADC_OVR, offset 0x044 [31:0], RC. -/
def adc_ADC_OVR : Fld :=
  { blk := 10, base := 0x600044, lo := 0, wid := 32, acc := .rc }

/-- R491: ADC_MISS, offset 0x048 [31:0], RC. -/
def adc_ADC_MISS : Fld :=
  { blk := 10, base := 0x600048, lo := 0, wid := 32, acc := .rc }

/-- R491: ADC_LATE, offset 0x04C [31:0], RC. -/
def adc_ADC_LATE : Fld :=
  { blk := 10, base := 0x60004C, lo := 0, wid := 32, acc := .rc }

/-- R491: ADC_TEST_ABORT, offset 0x050 [31:0], RC. -/
def adc_ADC_TEST_ABORT : Fld :=
  { blk := 10, base := 0x600050, lo := 0, wid := 32, acc := .rc }

/-- R491: CH_RES, offset 0x100 + 8c [31:0], RO. -/
def adcch_CH_RES : Fld :=
  { blk := 10, base := 0x600100, lo := 0, wid := 32, acc := .ro, n := 16, stride := 0x8 }

/-- R491: CH_TIME, offset +0x4 [31:0], RO. -/
def adcch_CH_TIME : Fld :=
  { blk := 10, base := 0x600104, lo := 0, wid := 32, acc := .ro, n := 16, stride := 0x8 }

/-- R491: CHAN, offset 0x200 + 0x10r [3:0], RWB. -/
def adcrq_CHAN : Fld :=
  { blk := 10, base := 0x600200, lo := 0, wid := 4, acc := .rwb, n := 8, stride := 0x10, bnd := .window, cfg := true }

/-- R491: SRC, offset +0x0 [6:4], RWB. -/
def adcrq_SRC : Fld :=
  { blk := 10, base := 0x600200, lo := 4, wid := 3, acc := .rwb, n := 8, stride := 0x10, bnd := .window, cfg := true }

/-- R491: START, offset +0x0 [7], W1S. -/
def adcrq_START : Fld :=
  { blk := 10, base := 0x600200, lo := 7, wid := 1, acc := .w1s, n := 8, stride := 0x10, own := true }

/-- R491: DELAY, offset +0x0 [23:8], RWB. -/
def adcrq_DELAY : Fld :=
  { blk := 10, base := 0x600200, lo := 8, wid := 16, acc := .rwb, n := 8, stride := 0x10, bnd := .window, cfg := true }

/-- R491: PERIOD, offset +0x4 [15:0], RWB. -/
def adcrq_PERIOD : Fld :=
  { blk := 10, base := 0x600204, lo := 0, wid := 16, acc := .rwb, n := 8, stride := 0x10, reset := 1000, bnd := .window, clamp := .range 1 65535, cfg := true }

/-- R491: REQ_RES, offset +0x8 [31:0], RO. -/
def adcrq_REQ_RES : Fld :=
  { blk := 10, base := 0x600208, lo := 0, wid := 32, acc := .ro, n := 8, stride := 0x10 }

/-- R491: REQ_TIME, offset +0xC [31:0], RO. -/
def adcrq_REQ_TIME : Fld :=
  { blk := 10, base := 0x60020C, lo := 0, wid := 32, acc := .ro, n := 8, stride := 0x10 }

/-- R524: LS_STATE, offset 0x000 [2:0], RO. -/
def bnc_LS_STATE : Fld :=
  { blk := 11, base := 0x680000, lo := 0, wid := 3, acc := .ro }

/-- R524: MEAS_COUNT, offset 0x000 [5:3], RO. -/
def bnc_MEAS_COUNT : Fld :=
  { blk := 11, base := 0x680000, lo := 3, wid := 3, acc := .ro }

/-- R524: TRIAL, offset 0x000 [6], RO. -/
def bnc_TRIAL : Fld :=
  { blk := 11, base := 0x680000, lo := 6, wid := 1, acc := .ro }

/-- R524: JSEL, offset 0x000 [8:7], RO. -/
def bnc_JSEL : Fld :=
  { blk := 11, base := 0x680000, lo := 7, wid := 2, acc := .ro, reset := 3 }

/-- R524: RESEAL_PEND, offset 0x000 [9], RO. -/
def bnc_RESEAL_PEND : Fld :=
  { blk := 11, base := 0x680000, lo := 9, wid := 1, acc := .ro }

/-- R524: TAMP_LATCH, offset 0x000 [10], RO. -/
def bnc_TAMP_LATCH : Fld :=
  { blk := 11, base := 0x680000, lo := 10, wid := 1, acc := .ro }

/-- R524: TAMP_LOOP_EN, offset 0x004 [0], RWB. -/
def bnc_TAMP_LOOP_EN : Fld :=
  { blk := 11, base := 0x680004, lo := 0, wid := 1, acc := .rwb, reset := 1, bnd := .window, cfg := true }

/-- R524: TAMP_SW_EN, offset 0x004 [1], RWB. -/
def bnc_TAMP_SW_EN : Fld :=
  { blk := 11, base := 0x680004, lo := 1, wid := 1, acc := .rwb, reset := 1, bnd := .window, cfg := true }

/-- R524: JNL_COUNT_LO, offset 0x008 [31:0], RO. -/
def bnc_JNL_COUNT_LO : Fld :=
  { blk := 11, base := 0x680008, lo := 0, wid := 32, acc := .ro }

/-- R524: JNL_COUNT_HI, offset 0x00C [31:0], RO. -/
def bnc_JNL_COUNT_HI : Fld :=
  { blk := 11, base := 0x68000C, lo := 0, wid := 32, acc := .ro }

/-- R524: LMS_LEAF_LO, offset 0x010 [31:0], RO. -/
def bnc_LMS_LEAF_LO : Fld :=
  { blk := 11, base := 0x680010, lo := 0, wid := 32, acc := .ro }

/-- R524: LMS_LEAF_HI, offset 0x014 [7:0], RO. -/
def bnc_LMS_LEAF_HI : Fld :=
  { blk := 11, base := 0x680014, lo := 0, wid := 8, acc := .ro }

/-- R524: SLOTS_ACTIVE, offset 0x018 [12:0], RO. -/
def bnc_SLOTS_ACTIVE : Fld :=
  { blk := 11, base := 0x680018, lo := 0, wid := 13, acc := .ro }

/-- R524: SLOTS_ORPHANED, offset 0x018 [28:16], RO. -/
def bnc_SLOTS_ORPHANED : Fld :=
  { blk := 11, base := 0x680018, lo := 16, wid := 13, acc := .ro }

/-- R524: BNC_REFUSE, offset 0x040 [31:0], RC. -/
def bnc_BNC_REFUSE : Fld :=
  { blk := 11, base := 0x680040, lo := 0, wid := 32, acc := .rc }

/-- R524: BNC_ORPHAN_USE, offset 0x044 [31:0], RC. -/
def bnc_BNC_ORPHAN_USE : Fld :=
  { blk := 11, base := 0x680044, lo := 0, wid := 32, acc := .rc }

/-- R524: BNC_IMPORT_FAIL, offset 0x048 [31:0], RC. -/
def bnc_BNC_IMPORT_FAIL : Fld :=
  { blk := 11, base := 0x680048, lo := 0, wid := 32, acc := .rc }

/-- R524: BNC_JNL_FAIL, offset 0x04C [31:0], RC. -/
def bnc_BNC_JNL_FAIL : Fld :=
  { blk := 11, base := 0x68004C, lo := 0, wid := 32, acc := .rc }

/-- R524: BNC_SESS_TORN, offset 0x050 [31:0], RC. -/
def bnc_BNC_SESS_TORN : Fld :=
  { blk := 11, base := 0x680050, lo := 0, wid := 32, acc := .rc }

/-- R544: MOD_STATE, offset 0x000 [2:0], RO. -/
def pwr_MOD_STATE : Fld :=
  { blk := 15, base := 0x880000, lo := 0, wid := 3, acc := .ro }

/-- R544: LAST_CAUSE, offset 0x000 [7:4], RO. -/
def pwr_LAST_CAUSE : Fld :=
  { blk := 15, base := 0x880000, lo := 4, wid := 4, acc := .ro, reset := 1 }

/-- R544: DOM_ON, offset 0x000 [19:8], RO. -/
def pwr_DOM_ON : Fld :=
  { blk := 15, base := 0x880000, lo := 8, wid := 12, acc := .ro }

/-- R544: DOM_FENCED, offset 0x000 [31:20], RO. -/
def pwr_DOM_FENCED : Fld :=
  { blk := 15, base := 0x880000, lo := 20, wid := 12, acc := .ro }

/-- R544: PWR_CYCLES, offset 0x004 [31:0], RO. -/
def pwr_PWR_CYCLES : Fld :=
  { blk := 15, base := 0x880004, lo := 0, wid := 32, acc := .ro }

/-- R544: HOLD_OK, offset 0x008 [0], RO. -/
def pwr_HOLD_OK : Fld :=
  { blk := 15, base := 0x880008, lo := 0, wid := 1, acc := .ro }

/-- R544: BROWNOUT, offset 0x008 [1], RO. -/
def pwr_BROWNOUT : Fld :=
  { blk := 15, base := 0x880008, lo := 1, wid := 1, acc := .ro }

/-- R544: WDT_MS, offset 0x00C [13:0], RWB. -/
def pwr_WDT_MS : Fld :=
  { blk := 15, base := 0x88000C, lo := 0, wid := 14, acc := .rwb, reset := 1000, bnd := .window, clamp := .range 100 10000, cfg := true }

/-- R544: START_SYNC_S, offset 0x00C [25:16], RWB. -/
def pwr_START_SYNC_S : Fld :=
  { blk := 15, base := 0x88000C, lo := 16, wid := 10, acc := .rwb, reset := 20, bnd := .window, clamp := .range 0 600, cfg := true }

/-- R544: PWR_BROWNOUT, offset 0x040 [31:0], RC. -/
def pwr_PWR_BROWNOUT : Fld :=
  { blk := 15, base := 0x880040, lo := 0, wid := 32, acc := .rc }

/-- R544: PWR_WDT, offset 0x044 [31:0], RC. -/
def pwr_PWR_WDT : Fld :=
  { blk := 15, base := 0x880044, lo := 0, wid := 32, acc := .rc }

/-- R544: PWR_XING_ABORT, offset 0x080 + 4i [31:0], RC. -/
def pwr_PWR_XING_ABORT : Fld :=
  { blk := 15, base := 0x880080, lo := 0, wid := 32, acc := .rc, n := 28, stride := 0x4 }

/-- R565: STAGE, offset 0x000 [2:0], RO. -/
def upd_STAGE : Fld :=
  { blk := 12, base := 0x700000, lo := 0, wid := 3, acc := .ro }

/-- R565: FW_STATE, offset 0x000 [5:4], RO. -/
def upd_FW_STATE : Fld :=
  { blk := 12, base := 0x700000, lo := 4, wid := 2, acc := .ro }

/-- R565: TRIAL_LEFT, offset 0x000 [7:6], RO. -/
def upd_TRIAL_LEFT : Fld :=
  { blk := 12, base := 0x700000, lo := 6, wid := 2, acc := .ro }

/-- R565: ACTIVE_MASK, offset 0x000 [12:8], RO. -/
def upd_ACTIVE_MASK : Fld :=
  { blk := 12, base := 0x700000, lo := 8, wid := 5, acc := .ro }

/-- R565: PREV_MASK, offset 0x000 [20:16], RO. -/
def upd_PREV_MASK : Fld :=
  { blk := 12, base := 0x700000, lo := 16, wid := 5, acc := .ro }

/-- R565: STAGED_GRANULES, offset 0x004 [31:0], RO. -/
def upd_STAGED_GRANULES : Fld :=
  { blk := 12, base := 0x700004, lo := 0, wid := 32, acc := .ro }

/-- R565: PKG_LEN, offset 0x008 [31:0], RO. -/
def upd_PKG_LEN : Fld :=
  { blk := 12, base := 0x700008, lo := 0, wid := 32, acc := .ro }

/-- R565: RUN_PKG_ID_LO, offset 0x00C [31:0], RO. -/
def upd_RUN_PKG_ID_LO : Fld :=
  { blk := 12, base := 0x70000C, lo := 0, wid := 32, acc := .ro }

/-- R565: RUN_PKG_ID_HI, offset 0x010 [31:0], RO. -/
def upd_RUN_PKG_ID_HI : Fld :=
  { blk := 12, base := 0x700010, lo := 0, wid := 32, acc := .ro }

/-- R565: AUTO_CONFIRM_S, offset 0x014 [15:0], RWB. -/
def upd_AUTO_CONFIRM_S : Fld :=
  { blk := 12, base := 0x700014, lo := 0, wid := 16, acc := .rwb, bnd := .window, cfg := true }

/-- R565: SFMT_RUN, offset 0x018 [15:0], RO. -/
def upd_SFMT_RUN : Fld :=
  { blk := 12, base := 0x700018, lo := 0, wid := 16, acc := .ro }

/-- R565: SET_POS, offset 0x018 [16], RO. -/
def upd_SET_POS : Fld :=
  { blk := 12, base := 0x700018, lo := 16, wid := 1, acc := .ro }

/-- R565: SET_FROM_DEFAULTS, offset 0x018 [17], RO. -/
def upd_SET_FROM_DEFAULTS : Fld :=
  { blk := 12, base := 0x700018, lo := 17, wid := 1, acc := .ro }

/-- R565: LAST_REASON, offset 0x01C [15:0], RO. -/
def upd_LAST_REASON : Fld :=
  { blk := 12, base := 0x70001C, lo := 0, wid := 16, acc := .ro }

/-- R565: LAST_COMP, offset 0x01C [31:16], RO. -/
def upd_LAST_COMP : Fld :=
  { blk := 12, base := 0x70001C, lo := 16, wid := 16, acc := .ro }

/-- R565: UPD_REFUSE, offset 0x040 [31:0], RC. -/
def upd_UPD_REFUSE : Fld :=
  { blk := 12, base := 0x700040, lo := 0, wid := 32, acc := .rc }

/-- R565: UPD_SIG_FAIL, offset 0x044 [31:0], RC. -/
def upd_UPD_SIG_FAIL : Fld :=
  { blk := 12, base := 0x700044, lo := 0, wid := 32, acc := .rc }

/-- R565: UPD_ROLLBACK, offset 0x048 [31:0], RC. -/
def upd_UPD_ROLLBACK : Fld :=
  { blk := 12, base := 0x700048, lo := 0, wid := 32, acc := .rc }

/-- R565: UPD_FLASH_FAIL, offset 0x04C [31:0], RC. -/
def upd_UPD_FLASH_FAIL : Fld :=
  { blk := 12, base := 0x70004C, lo := 0, wid := 32, acc := .rc }

/-- R565: UPD_FALLBACK, offset 0x050 [31:0], RC. -/
def upd_UPD_FALLBACK : Fld :=
  { blk := 12, base := 0x700050, lo := 0, wid := 32, acc := .rc }

/-- R565: UPD_STAGE_EXPIRED, offset 0x054 [31:0], RC. -/
def upd_UPD_STAGE_EXPIRED : Fld :=
  { blk := 12, base := 0x700054, lo := 0, wid := 32, acc := .rc }

/-- R565: UPD_SET_WRITE_FAIL, offset 0x058 [31:0], RC. -/
def upd_UPD_SET_WRITE_FAIL : Fld :=
  { blk := 12, base := 0x700058, lo := 0, wid := 32, acc := .rc }

/-- R565: VERSION, offset 0x100 + 0x10(c − 1) [31:0], RO. -/
def comp_VERSION : Fld :=
  { blk := 12, base := 0x700100, lo := 0, wid := 32, acc := .ro, n := 5, stride := 0x10 }

/-- R565: IF_REV, offset +0x4 [15:0], RO. -/
def comp_IF_REV : Fld :=
  { blk := 12, base := 0x700104, lo := 0, wid := 16, acc := .ro, n := 5, stride := 0x10 }

/-- R565: SLOT, offset +0x4 [16], RO. -/
def comp_SLOT : Fld :=
  { blk := 12, base := 0x700104, lo := 16, wid := 1, acc := .ro, n := 5, stride := 0x10 }

/-- R565: SEC_VER, offset +0x8 [31:0], RO. -/
def comp_SEC_VER : Fld :=
  { blk := 12, base := 0x700108, lo := 0, wid := 32, acc := .ro, n := 5, stride := 0x10 }

/-- R565: SEC_MIN, offset +0xC [31:0], RO. -/
def comp_SEC_MIN : Fld :=
  { blk := 12, base := 0x70010C, lo := 0, wid := 32, acc := .ro, n := 5, stride := 0x10 }

/-- R582: RT_EN, offset 0x000 [0], RWB. -/
def snd_RT_EN : Fld :=
  { blk := 14, base := 0x800000, lo := 0, wid := 1, acc := .rwb, reset := 1, bnd := .window, cfg := true }

/-- R582: SCRUB_EN, offset 0x000 [1], RWB. -/
def snd_SCRUB_EN : Fld :=
  { blk := 14, base := 0x800000, lo := 1, wid := 1, acc := .rwb, reset := 1, bnd := .window, cfg := true }

/-- R582: TEST_PERIOD, offset 0x004 [15:0], RWB. -/
def snd_TEST_PERIOD : Fld :=
  { blk := 14, base := 0x800004, lo := 0, wid := 16, acc := .rwb, reset := 60, bnd := .window, clamp := .range 10 3600, cfg := true }

/-- R582: DRAM_SCRUB_H, offset 0x004 [23:16], RWB. -/
def snd_DRAM_SCRUB_H : Fld :=
  { blk := 14, base := 0x800004, lo := 16, wid := 8, acc := .rwb, reset := 8, bnd := .window, clamp := .range 1 72, cfg := true }

/-- R582: PHASE, offset 0x008 [1:0], RO. -/
def snd_PHASE : Fld :=
  { blk := 14, base := 0x800008, lo := 0, wid := 2, acc := .ro }

/-- R582: STEP, offset 0x008 [2], RO. -/
def snd_STEP : Fld :=
  { blk := 14, base := 0x800008, lo := 2, wid := 1, acc := .ro }

/-- R582: OCXO_FAIL, offset 0x008 [3], RO. -/
def snd_OCXO_FAIL : Fld :=
  { blk := 14, base := 0x800008, lo := 3, wid := 1, acc := .ro }

/-- R582: BNC_KAT_FAIL, offset 0x008 [4], RO. -/
def snd_BNC_KAT_FAIL : Fld :=
  { blk := 14, base := 0x800008, lo := 4, wid := 1, acc := .ro }

/-- R582: BLOCK, offset 0x008 [12:8], RO. -/
def snd_BLOCK : Fld :=
  { blk := 14, base := 0x800008, lo := 8, wid := 5, acc := .ro }

/-- R582: UNIT, offset 0x008 [23:16], RO. -/
def snd_UNIT : Fld :=
  { blk := 14, base := 0x800008, lo := 16, wid := 8, acc := .ro }

/-- R582: PORT_FAIL, offset 0x00C [31:0], RO. -/
def snd_PORT_FAIL : Fld :=
  { blk := 14, base := 0x80000C, lo := 0, wid := 32, acc := .ro }

/-- R582: MAP_COUNT, offset 0x010 [8:0], RO. -/
def snd_MAP_COUNT : Fld :=
  { blk := 14, base := 0x800010, lo := 0, wid := 9, acc := .ro }

/-- R582: RCV_NEXT, offset 0x010 [25:16], RO. -/
def snd_RCV_NEXT : Fld :=
  { blk := 14, base := 0x800010, lo := 16, wid := 10, acc := .ro }

/-- R582: SND_STEPS, offset 0x040 [31:0], RC. -/
def snd_SND_STEPS : Fld :=
  { blk := 14, base := 0x800040, lo := 0, wid := 32, acc := .rc }

/-- R582: SND_ABORT, offset 0x044 [31:0], RC. -/
def snd_SND_ABORT : Fld :=
  { blk := 14, base := 0x800044, lo := 0, wid := 32, acc := .rc }

/-- R582: SND_FAIL, offset 0x048 [31:0], RC. -/
def snd_SND_FAIL : Fld :=
  { blk := 14, base := 0x800048, lo := 0, wid := 32, acc := .rc }

/-- R582: SND_REPAIR, offset 0x04C [31:0], RC. -/
def snd_SND_REPAIR : Fld :=
  { blk := 14, base := 0x80004C, lo := 0, wid := 32, acc := .rc }

/-- R582: SND_SCRUB_CORR, offset 0x050 [31:0], RC. -/
def snd_SND_SCRUB_CORR : Fld :=
  { blk := 14, base := 0x800050, lo := 0, wid := 32, acc := .rc }

/-- R582: SND_HARD, offset 0x054 [31:0], RC. -/
def snd_SND_HARD : Fld :=
  { blk := 14, base := 0x800054, lo := 0, wid := 32, acc := .rc }

/-- R582: RCV_EXACT, offset 0x058 [31:0], RC. -/
def snd_RCV_EXACT : Fld :=
  { blk := 14, base := 0x800058, lo := 0, wid := 32, acc := .rc }

/-- R582: RCV_LOST, offset 0x05C [31:0], RC. -/
def snd_RCV_LOST : Fld :=
  { blk := 14, base := 0x80005C, lo := 0, wid := 32, acc := .rc }

/-- R582: RCV_OUTSIDE, offset 0x060 [31:0], RC. -/
def snd_RCV_OUTSIDE : Fld :=
  { blk := 14, base := 0x800060, lo := 0, wid := 32, acc := .rc }

/-- R599: PERM_COUNT, offset 0x000 [13:0], RO. -/
def log_PERM_COUNT : Fld :=
  { blk := 13, base := 0x780000, lo := 0, wid := 14, acc := .ro }

/-- R599: CLEARING, offset 0x000 [14], RO. -/
def log_CLEARING : Fld :=
  { blk := 13, base := 0x780000, lo := 14, wid := 1, acc := .ro }

/-- R599: CIRC_HEAD, offset 0x004 [15:0], RO. -/
def log_CIRC_HEAD : Fld :=
  { blk := 13, base := 0x780004, lo := 0, wid := 16, acc := .ro }

/-- R599: CIRC_WRAPPED, offset 0x004 [16], RO. -/
def log_CIRC_WRAPPED : Fld :=
  { blk := 13, base := 0x780004, lo := 16, wid := 1, acc := .ro }

/-- R599: SEQ_NEXT, offset 0x008 [31:0], RO. -/
def log_SEQ_NEXT : Fld :=
  { blk := 13, base := 0x780008, lo := 0, wid := 32, acc := .ro }

/-- R599: QUEUED, offset 0x00C [8:0], RO. -/
def log_QUEUED : Fld :=
  { blk := 13, base := 0x78000C, lo := 0, wid := 9, acc := .ro }

/-- R599: RATE_MAX, offset 0x010 [9:0], RWB. -/
def log_RATE_MAX : Fld :=
  { blk := 13, base := 0x780010, lo := 0, wid := 10, acc := .rwb, reset := 100, bnd := .window, clamp := .range 1 1000, cfg := true }

/-- R599: LOG_WRITTEN, offset 0x040 [31:0], RC. -/
def log_LOG_WRITTEN : Fld :=
  { blk := 13, base := 0x780040, lo := 0, wid := 32, acc := .rc }

/-- R599: LOG_DROP, offset 0x044 [31:0], RC. -/
def log_LOG_DROP : Fld :=
  { blk := 13, base := 0x780044, lo := 0, wid := 32, acc := .rc }

/-- R599: LOG_RATE_DROP, offset 0x048 [31:0], RC. -/
def log_LOG_RATE_DROP : Fld :=
  { blk := 13, base := 0x780048, lo := 0, wid := 32, acc := .rc }

/-- R599: LOG_NOR_FAIL, offset 0x04C [31:0], RC. -/
def log_LOG_NOR_FAIL : Fld :=
  { blk := 13, base := 0x78004C, lo := 0, wid := 32, acc := .rc }

/-- R599: LOG_CRC_BAD, offset 0x050 [31:0], RC. -/
def log_LOG_CRC_BAD : Fld :=
  { blk := 13, base := 0x780050, lo := 0, wid := 32, acc := .rc }

/-- R599: LOG_REFUSE, offset 0x054 [31:0], RC. -/
def log_LOG_REFUSE : Fld :=
  { blk := 13, base := 0x780054, lo := 0, wid := 32, acc := .rc }

/-- R631: SLOT_ID, offset 0x010 [5:0], RO. -/
def pwr_SLOT_ID : Fld :=
  { blk := 15, base := 0x880010, lo := 0, wid := 6, acc := .ro }

/-- R631: CAGE_PRESENT, offset 0x010 [11:8], RO. -/
def pwr_CAGE_PRESENT : Fld :=
  { blk := 15, base := 0x880010, lo := 8, wid := 4, acc := .ro }

/-- R631: VBAT_LOW, offset 0x010 [12], RO. -/
def pwr_VBAT_LOW : Fld :=
  { blk := 15, base := 0x880010, lo := 12, wid := 1, acc := .ro }

/-- R631: DIE_HOT, offset 0x010 [13], RO. -/
def pwr_DIE_HOT : Fld :=
  { blk := 15, base := 0x880010, lo := 13, wid := 1, acc := .ro }

/-- R631: FAN0_DUTY, offset 0x014 [9:0], RW. -/
def pwr_FAN0_DUTY : Fld :=
  { blk := 15, base := 0x880014, lo := 0, wid := 10, acc := .rw, reset := 1000, clamp := .range 0 1000, cfg := true }

/-- R631: FAN1_DUTY, offset 0x014 [25:16], RW. -/
def pwr_FAN1_DUTY : Fld :=
  { blk := 15, base := 0x880014, lo := 16, wid := 10, acc := .rw, reset := 1000, clamp := .range 0 1000, cfg := true }

/-- R631: FAN_FREQ, offset 0x018 [15:0], RW. -/
def pwr_FAN_FREQ : Fld :=
  { blk := 15, base := 0x880018, lo := 0, wid := 16, acc := .rw, reset := 25000, clamp := .range 1000 40000, cfg := true }

/-- R631: MAX_AMBIENT, offset 0x01C [6:0], RWB. -/
def pwr_MAX_AMBIENT : Fld :=
  { blk := 15, base := 0x88001C, lo := 0, wid := 7, acc := .rwb, reset := 70, bnd := .hyper, own := true, cfg := true }

/-- R631: QCLK_CEIL, offset 0x01C [11:8], RO. -/
def pwr_QCLK_CEIL : Fld :=
  { blk := 15, base := 0x88001C, lo := 8, wid := 4, acc := .ro, reset := 12 }

/-- R631: PWR_AMB_HELD, offset 0x048 [31:0], RC. -/
def pwr_PWR_AMB_HELD : Fld :=
  { blk := 15, base := 0x880048, lo := 0, wid := 32, acc := .rc }

/-- The fields with prefix `slc` (block 17). -/
def list_b17_slc : List Fld :=
  [slc_PASID, slc_LINK, slc_TOR_SHARE, slc_SCAN_SHARE,
   slc_BUF_SHARE, slc_BOB_COUNT, slc_DESC_SHARE, slc_CAP_SHARE,
   slc_STATE, slc_GEN]

/-- The fields with prefix `slcg` (block 17). -/
def list_b17_slcg : List Fld :=
  [slcg_HOST_DEFAULT, slcg_SLC_STALE_DROP, slcg_SLC_SHARE_HELD, slcg_SLC_RX_NOBOB,
   slcg_SLC_CMD_REFUSE]

/-- The fields with prefix `adc` (block 10). -/
def list_b10_adc : List Fld :=
  [adc_AUTO_PD, adc_PD_IDLE, adc_OVR_STICKY, adc_AWAKE,
   adc_TESTING, adc_REF_FAIL, adc_LOOP_FAIL, adc_ADC_CONV,
   adc_ADC_OVR, adc_ADC_MISS, adc_ADC_LATE, adc_ADC_TEST_ABORT]

/-- The fields with prefix `adcch` (block 10). -/
def list_b10_adcch : List Fld :=
  [adcch_CH_RES, adcch_CH_TIME]

/-- The fields with prefix `adcrq` (block 10). -/
def list_b10_adcrq : List Fld :=
  [adcrq_CHAN, adcrq_SRC, adcrq_START, adcrq_DELAY,
   adcrq_PERIOD, adcrq_REQ_RES, adcrq_REQ_TIME]

/-- The fields with prefix `bnc` (block 11). -/
def list_b11_bnc : List Fld :=
  [bnc_LS_STATE, bnc_MEAS_COUNT, bnc_TRIAL, bnc_JSEL,
   bnc_RESEAL_PEND, bnc_TAMP_LATCH, bnc_TAMP_LOOP_EN, bnc_TAMP_SW_EN,
   bnc_JNL_COUNT_LO, bnc_JNL_COUNT_HI, bnc_LMS_LEAF_LO, bnc_LMS_LEAF_HI,
   bnc_SLOTS_ACTIVE, bnc_SLOTS_ORPHANED, bnc_BNC_REFUSE, bnc_BNC_ORPHAN_USE,
   bnc_BNC_IMPORT_FAIL, bnc_BNC_JNL_FAIL, bnc_BNC_SESS_TORN]

/-- The fields with prefix `pwr` (block 15). -/
def list_b15_pwr : List Fld :=
  [pwr_MOD_STATE, pwr_LAST_CAUSE, pwr_DOM_ON, pwr_DOM_FENCED,
   pwr_PWR_CYCLES, pwr_HOLD_OK, pwr_BROWNOUT, pwr_WDT_MS,
   pwr_START_SYNC_S, pwr_PWR_BROWNOUT, pwr_PWR_WDT, pwr_PWR_XING_ABORT,
   pwr_SLOT_ID, pwr_CAGE_PRESENT, pwr_VBAT_LOW, pwr_DIE_HOT,
   pwr_FAN0_DUTY, pwr_FAN1_DUTY, pwr_FAN_FREQ, pwr_MAX_AMBIENT]

/-- The fields with prefix `pwr` (block 15). -/
def list_b15_pwr1 : List Fld :=
  [pwr_QCLK_CEIL, pwr_PWR_AMB_HELD]

/-- The fields with prefix `upd` (block 12). -/
def list_b12_upd : List Fld :=
  [upd_STAGE, upd_FW_STATE, upd_TRIAL_LEFT, upd_ACTIVE_MASK,
   upd_PREV_MASK, upd_STAGED_GRANULES, upd_PKG_LEN, upd_RUN_PKG_ID_LO,
   upd_RUN_PKG_ID_HI, upd_AUTO_CONFIRM_S, upd_SFMT_RUN, upd_SET_POS,
   upd_SET_FROM_DEFAULTS, upd_LAST_REASON, upd_LAST_COMP, upd_UPD_REFUSE,
   upd_UPD_SIG_FAIL, upd_UPD_ROLLBACK, upd_UPD_FLASH_FAIL, upd_UPD_FALLBACK]

/-- The fields with prefix `upd` (block 12). -/
def list_b12_upd1 : List Fld :=
  [upd_UPD_STAGE_EXPIRED, upd_UPD_SET_WRITE_FAIL]

/-- The fields with prefix `comp` (block 12). -/
def list_b12_comp : List Fld :=
  [comp_VERSION, comp_IF_REV, comp_SLOT, comp_SEC_VER,
   comp_SEC_MIN]

/-- The fields with prefix `snd` (block 14). -/
def list_b14_snd : List Fld :=
  [snd_RT_EN, snd_SCRUB_EN, snd_TEST_PERIOD, snd_DRAM_SCRUB_H,
   snd_PHASE, snd_STEP, snd_OCXO_FAIL, snd_BNC_KAT_FAIL,
   snd_BLOCK, snd_UNIT, snd_PORT_FAIL, snd_MAP_COUNT,
   snd_RCV_NEXT, snd_SND_STEPS, snd_SND_ABORT, snd_SND_FAIL,
   snd_SND_REPAIR, snd_SND_SCRUB_CORR, snd_SND_HARD, snd_RCV_EXACT]

/-- The fields with prefix `snd` (block 14). -/
def list_b14_snd1 : List Fld :=
  [snd_RCV_LOST, snd_RCV_OUTSIDE]

/-- The fields with prefix `log` (block 13). -/
def list_b13_log : List Fld :=
  [log_PERM_COUNT, log_CLEARING, log_CIRC_HEAD, log_CIRC_WRAPPED,
   log_SEQ_NEXT, log_QUEUED, log_RATE_MAX, log_LOG_WRITTEN,
   log_LOG_DROP, log_LOG_RATE_DROP, log_LOG_NOR_FAIL, log_LOG_CRC_BAD,
   log_LOG_REFUSE]

/-- All fields of this file. -/
def allRegsPlat : List Fld :=
  list_b17_slc ++ list_b17_slcg ++ list_b10_adc ++ list_b10_adcch ++ list_b10_adcrq ++ list_b11_bnc ++ list_b15_pwr ++ list_b15_pwr1 ++ list_b12_upd ++ list_b12_upd1 ++ list_b12_comp ++ list_b14_snd ++ list_b14_snd1 ++ list_b13_log

end Sys2Proof.Machine.Reg
end

