-- ==== Sys2Proof/Machine/RegsProc.lean ====
section
/-!
DEFINITION. The register fields of the blocks named below, one constant per field, copied from the
spec's register tables (R13: access codes; R93: boundaries). Each docstring names the rule whose table holds it.
-/

namespace Sys2Proof.Machine.Reg

/-- R263: STREAMS, offset 0x000 [10:0], RO. -/
def svi_STREAMS : Fld :=
  { blk := 4, base := 0x300000, lo := 0, wid := 11, acc := .ro }

/-- R263: SLOTS_USED, offset 0x000 [29:16], RO. -/
def svi_SLOTS_USED : Fld :=
  { blk := 4, base := 0x300000, lo := 16, wid := 14, acc := .ro }

/-- R263: ASDU_LOAD, offset 0x004 [22:0], RO. -/
def svi_ASDU_LOAD : Fld :=
  { blk := 4, base := 0x300004, lo := 0, wid := 23, acc := .ro }

/-- R263: CHS_LOAD, offset 0x008 [25:0], RO. -/
def svi_CHS_LOAD : Fld :=
  { blk := 4, base := 0x300008, lo := 0, wid := 26, acc := .ro }

/-- R263: EARLY_TOL, offset 0x00C [9:0], RWB. -/
def svi_EARLY_TOL : Fld :=
  { blk := 4, base := 0x30000C, lo := 0, wid := 10, acc := .rwb, reset := 20, bnd := .window, clamp := .range 0 1000, cfg := true }

/-- R263: LOST_MS, offset 0x010 [13:0], RWB. -/
def svi_LOST_MS : Fld :=
  { blk := 4, base := 0x300010, lo := 0, wid := 14, acc := .rwb, reset := 200, bnd := .window, clamp := .range 10 10000, cfg := true }

/-- R263: SVI_NOMATCH, offset 0x040 [31:0], RC. -/
def svi_SVI_NOMATCH : Fld :=
  { blk := 4, base := 0x300040, lo := 0, wid := 32, acc := .rc }

/-- R263: SVI_BER_ERR, offset 0x044 [31:0], RC. -/
def svi_SVI_BER_ERR : Fld :=
  { blk := 4, base := 0x300044, lo := 0, wid := 32, acc := .rc }

/-- R263: SVI_CONFREV, offset 0x048 [31:0], RC. -/
def svi_SVI_CONFREV : Fld :=
  { blk := 4, base := 0x300048, lo := 0, wid := 32, acc := .rc }

/-- R263: SVI_APT_DENY, offset 0x04C [31:0], RC. -/
def svi_SVI_APT_DENY : Fld :=
  { blk := 4, base := 0x30004C, lo := 0, wid := 32, acc := .rc }

/-- R263: SVI_ADM_REFUSE, offset 0x050 [31:0], RC. -/
def svi_SVI_ADM_REFUSE : Fld :=
  { blk := 4, base := 0x300050, lo := 0, wid := 32, acc := .rc }

/-- R263: SVI_STORE_ECC, offset 0x054 [31:0], RC. -/
def svi_SVI_STORE_ECC : Fld :=
  { blk := 4, base := 0x300054, lo := 0, wid := 32, acc := .rc }

/-- R264: STATE, offset +0x00 [1:0], RO. -/
def str_STATE : Fld :=
  { blk := 4, base := 0x310000, lo := 0, wid := 2, acc := .ro, n := 1024, stride := 0x40 }

/-- R264: LAST_SMPCNT, offset +0x00 [31:16], RO. -/
def str_LAST_SMPCNT : Fld :=
  { blk := 4, base := 0x310000, lo := 16, wid := 16, acc := .ro, n := 1024, stride := 0x40 }

/-- R264: LAST_SEC, offset +0x04 [31:0], RO. -/
def str_LAST_SEC : Fld :=
  { blk := 4, base := 0x310004, lo := 0, wid := 32, acc := .ro, n := 1024, stride := 0x40 }

/-- R264: HEAD, offset +0x08 [17:0], RO. -/
def str_HEAD : Fld :=
  { blk := 4, base := 0x310008, lo := 0, wid := 18, acc := .ro, n := 1024, stride := 0x40 }

/-- R264: DEPTH, offset +0x0C [17:0], RO. -/
def str_DEPTH : Fld :=
  { blk := 4, base := 0x31000C, lo := 0, wid := 18, acc := .ro, n := 1024, stride := 0x40 }

/-- R264: SVI_RX, offset +0x10 [31:0], RC. -/
def str_SVI_RX : Fld :=
  { blk := 4, base := 0x310010, lo := 0, wid := 32, acc := .rc, n := 1024, stride := 0x40 }

/-- R264: SVI_DUP, offset +0x14 [31:0], RC. -/
def str_SVI_DUP : Fld :=
  { blk := 4, base := 0x310014, lo := 0, wid := 32, acc := .rc, n := 1024, stride := 0x40 }

/-- R264: SVI_EARLY, offset +0x18 [31:0], RC. -/
def str_SVI_EARLY : Fld :=
  { blk := 4, base := 0x310018, lo := 0, wid := 32, acc := .rc, n := 1024, stride := 0x40 }

/-- R264: SVI_LATE, offset +0x1C [31:0], RC. -/
def str_SVI_LATE : Fld :=
  { blk := 4, base := 0x31001C, lo := 0, wid := 32, acc := .rc, n := 1024, stride := 0x40 }

/-- R264: SVI_LATE_DROP, offset +0x20 [31:0], RC. -/
def str_SVI_LATE_DROP : Fld :=
  { blk := 4, base := 0x310020, lo := 0, wid := 32, acc := .rc, n := 1024, stride := 0x40 }

/-- R264: SVI_RECKONED, offset +0x24 [31:0], RC. -/
def str_SVI_RECKONED : Fld :=
  { blk := 4, base := 0x310024, lo := 0, wid := 32, acc := .rc, n := 1024, stride := 0x40 }

/-- R264: SVI_CONFIRM, offset +0x28 [31:0], RC. -/
def str_SVI_CONFIRM : Fld :=
  { blk := 4, base := 0x310028, lo := 0, wid := 32, acc := .rc, n := 1024, stride := 0x40 }

/-- R264: SVI_MISMATCH, offset +0x2C [31:0], RC. -/
def str_SVI_MISMATCH : Fld :=
  { blk := 4, base := 0x31002C, lo := 0, wid := 32, acc := .rc, n := 1024, stride := 0x40 }

/-- R264: SVI_SUBST, offset +0x30 [31:0], RC. -/
def str_SVI_SUBST : Fld :=
  { blk := 4, base := 0x310030, lo := 0, wid := 32, acc := .rc, n := 1024, stride := 0x40 }

/-- R264: SVI_BAD_SMPCNT, offset +0x34 [31:0], RC. -/
def str_SVI_BAD_SMPCNT : Fld :=
  { blk := 4, base := 0x310034, lo := 0, wid := 32, acc := .rc, n := 1024, stride := 0x40 }

/-- R264: SVI_FMT_ERR, offset +0x38 [31:0], RC. -/
def str_SVI_FMT_ERR : Fld :=
  { blk := 4, base := 0x310038, lo := 0, wid := 32, acc := .rc, n := 1024, stride := 0x40 }

/-- R264: SVI_TAGFAIL, offset +0x3C [31:0], RC. -/
def str_SVI_TAGFAIL : Fld :=
  { blk := 4, base := 0x31003C, lo := 0, wid := 32, acc := .rc, n := 1024, stride := 0x40 }

/-- R281: CHAINS_ACTIVE, offset 0x000 [13:0], RO. -/
def flt_CHAINS_ACTIVE : Fld :=
  { blk := 5, base := 0x380000, lo := 0, wid := 14, acc := .ro }

/-- R281: FLT_SAT, offset 0x040 [31:0], RC. -/
def flt_FLT_SAT : Fld :=
  { blk := 5, base := 0x380040, lo := 0, wid := 32, acc := .rc }

/-- R281: FLT_RINGING, offset 0x044 [31:0], RC. -/
def flt_FLT_RINGING : Fld :=
  { blk := 5, base := 0x380044, lo := 0, wid := 32, acc := .rc }

/-- R281: FLT_CFG_HELD, offset 0x048 [31:0], RC. -/
def flt_FLT_CFG_HELD : Fld :=
  { blk := 5, base := 0x380048, lo := 0, wid := 32, acc := .rc }

/-- R281: FLT_RECOMPUTE, offset 0x04C [31:0], RC. -/
def flt_FLT_RECOMPUTE : Fld :=
  { blk := 5, base := 0x38004C, lo := 0, wid := 32, acc := .rc }

/-- R281: FLT_ECC, offset 0x050 [31:0], RC. -/
def flt_FLT_ECC : Fld :=
  { blk := 5, base := 0x380050, lo := 0, wid := 32, acc := .rc }

/-- R282: S1_SEL, offset +0x0 [3:0], RWB. -/
def slot_S1_SEL : Fld :=
  { blk := 5, base := 0x390000, lo := 0, wid := 4, acc := .rwb, n := 8192, stride := 0x8, bnd := .sample, clamp := .keepAbove 7, own := true, cfg := true }

/-- R282: S2_SEL, offset +0x0 [7:4], RWB. -/
def slot_S2_SEL : Fld :=
  { blk := 5, base := 0x390000, lo := 4, wid := 4, acc := .rwb, n := 8192, stride := 0x8, bnd := .sample, clamp := .keepAbove 7, own := true, cfg := true }

/-- R282: RINGING, offset +0x4 [0], RO. -/
def slot_RINGING : Fld :=
  { blk := 5, base := 0x390004, lo := 0, wid := 1, acc := .ro, n := 8192, stride := 0x8 }

/-- R282: SETTLING, offset +0x4 [1], RO. -/
def slot_SETTLING : Fld :=
  { blk := 5, base := 0x390004, lo := 1, wid := 1, acc := .ro, n := 8192, stride := 0x8 }

/-- R282: SAT, offset +0x4 [2], W1C. -/
def slot_SAT : Fld :=
  { blk := 5, base := 0x390004, lo := 2, wid := 1, acc := .w1c, n := 8192, stride := 0x8 }

/-- R282: M_ACT, offset +0x4 [15:8], RO. -/
def slot_M_ACT : Fld :=
  { blk := 5, base := 0x390004, lo := 8, wid := 8, acc := .ro, n := 8192, stride := 0x8, reset := 1 }

/-- R282: D_ACT, offset +0x4 [31:16], RO. -/
def slot_D_ACT : Fld :=
  { blk := 5, base := 0x390004, lo := 16, wid := 16, acc := .ro, n := 8192, stride := 0x8 }

/-- R318: TILES_ALLOC, offset 0x000 [6:0], RO. -/
def tor_TILES_ALLOC : Fld :=
  { blk := 6, base := 0x400000, lo := 0, wid := 7, acc := .ro }

/-- R318: TILES_SPARE, offset 0x000 [14:8], RO. -/
def tor_TILES_SPARE : Fld :=
  { blk := 6, base := 0x400000, lo := 8, wid := 7, acc := .ro, reset := 4 }

/-- R318: TILES_FENCED, offset 0x000 [22:16], RO. -/
def tor_TILES_FENCED : Fld :=
  { blk := 6, base := 0x400000, lo := 16, wid := 7, acc := .ro }

/-- R318: SPARE_N, offset 0x004 [3:0], RWB. -/
def tor_SPARE_N : Fld :=
  { blk := 6, base := 0x400004, lo := 0, wid := 4, acc := .rwb, reset := 4, bnd := .hyper, clamp := .range 0 8, cfg := true }

/-- R318: ISA_REV, offset 0x008 [15:0], RO. -/
def tor_ISA_REV : Fld :=
  { blk := 6, base := 0x400008, lo := 0, wid := 16, acc := .ro, reset := 1 }

/-- R318: INSTANCES, offset 0x008 [29:16], RO. -/
def tor_INSTANCES : Fld :=
  { blk := 6, base := 0x400008, lo := 16, wid := 14, acc := .ro }

/-- R318: TOR_ADM_REFUSE, offset 0x040 [31:0], RC. -/
def tor_TOR_ADM_REFUSE : Fld :=
  { blk := 6, base := 0x400040, lo := 0, wid := 32, acc := .rc }

/-- R318: TOR_CLK_HELD, offset 0x044 [31:0], RC. -/
def tor_TOR_CLK_HELD : Fld :=
  { blk := 6, base := 0x400044, lo := 0, wid := 32, acc := .rc }

/-- R318: TOR_SPARE_USED, offset 0x048 [31:0], RC. -/
def tor_TOR_SPARE_USED : Fld :=
  { blk := 6, base := 0x400048, lo := 0, wid := 32, acc := .rc }

/-- R318: TOR_SPARE_NONE, offset 0x04C [31:0], RC. -/
def tor_TOR_SPARE_NONE : Fld :=
  { blk := 6, base := 0x40004C, lo := 0, wid := 32, acc := .rc }

/-- R319: QCLK, offset +0x0 [3:0], RWB. -/
def quad_QCLK : Fld :=
  { blk := 6, base := 0x400100, lo := 0, wid := 4, acc := .rwb, n := 16, stride := 0x10, reset := 8, bnd := .hyper, clamp := .range 0 12, own := true, cfg := true }

/-- R319: QCLK_MHZ, offset +0x4 [10:0], RO. -/
def quad_QCLK_MHZ : Fld :=
  { blk := 6, base := 0x400104, lo := 0, wid := 11, acc := .ro, n := 16, stride := 0x10, reset := 1000 }

/-- R320: STATE, offset +0x00 [2:0], RO. -/
def tile_STATE : Fld :=
  { blk := 6, base := 0x400400, lo := 0, wid := 3, acc := .ro, n := 64, stride := 0x20 }

/-- R320: MODE, offset +0x00 [3], RO. -/
def tile_MODE : Fld :=
  { blk := 6, base := 0x400400, lo := 3, wid := 1, acc := .ro, n := 64, stride := 0x20 }

/-- R320: LTILE, offset +0x00 [13:8], RO. -/
def tile_LTILE : Fld :=
  { blk := 6, base := 0x400400, lo := 8, wid := 6, acc := .ro, n := 64, stride := 0x20, reset := 63 }

/-- R320: INST_COUNT, offset +0x00 [24:16], RO. -/
def tile_INST_COUNT : Fld :=
  { blk := 6, base := 0x400400, lo := 16, wid := 9, acc := .ro, n := 64, stride := 0x20 }

/-- R320: DATA_KIB, offset +0x04 [8:0], RO. -/
def tile_DATA_KIB : Fld :=
  { blk := 6, base := 0x400404, lo := 0, wid := 9, acc := .ro, n := 64, stride := 0x20 }

/-- R320: PROG_KIB, offset +0x04 [22:16], RO. -/
def tile_PROG_KIB : Fld :=
  { blk := 6, base := 0x400404, lo := 16, wid := 7, acc := .ro, n := 64, stride := 0x20 }

/-- R320: TOR_EVALS, offset +0x08 [31:0], RC. -/
def tile_TOR_EVALS : Fld :=
  { blk := 6, base := 0x400408, lo := 0, wid := 32, acc := .rc, n := 64, stride := 0x20 }

/-- R320: TOR_FAULTS, offset +0x0C [31:0], RC. -/
def tile_TOR_FAULTS : Fld :=
  { blk := 6, base := 0x40040C, lo := 0, wid := 32, acc := .rc, n := 64, stride := 0x20 }

/-- R320: TOR_FP_INVALID, offset +0x10 [31:0], RC. -/
def tile_TOR_FP_INVALID : Fld :=
  { blk := 6, base := 0x400410, lo := 0, wid := 32, acc := .rc, n := 64, stride := 0x20 }

/-- R320: TOR_ECC_CORR, offset +0x14 [31:0], RC. -/
def tile_TOR_ECC_CORR : Fld :=
  { blk := 6, base := 0x400414, lo := 0, wid := 32, acc := .rc, n := 64, stride := 0x20 }

/-- R320: TOR_ECC_UNCORR, offset +0x18 [31:0], RC. -/
def tile_TOR_ECC_UNCORR : Fld :=
  { blk := 6, base := 0x400418, lo := 0, wid := 32, acc := .rc, n := 64, stride := 0x20 }

/-- R356: TOR_ROLLBACK, offset 0x050 [31:0], RC. -/
def tor_TOR_ROLLBACK : Fld :=
  { blk := 6, base := 0x400050, lo := 0, wid := 32, acc := .rc }

/-- R356: TOR_REPLAY_EVALS, offset 0x054 [31:0], RC. -/
def tor_TOR_REPLAY_EVALS : Fld :=
  { blk := 6, base := 0x400054, lo := 0, wid := 32, acc := .rc }

/-- R356: TOR_DEFER, offset 0x058 [31:0], RC. -/
def tor_TOR_DEFER : Fld :=
  { blk := 6, base := 0x400058, lo := 0, wid := 32, acc := .rc }

/-- R356: TOR_RA_WAIT, offset 0x05C [31:0], RC. -/
def tor_TOR_RA_WAIT : Fld :=
  { blk := 6, base := 0x40005C, lo := 0, wid := 32, acc := .rc }

/-- R356: TOR_FIX_OVF, offset 0x060 [31:0], RC. -/
def tor_TOR_FIX_OVF : Fld :=
  { blk := 6, base := 0x400060, lo := 0, wid := 32, acc := .rc }

/-- R356: TOR_FARFIX_LATE, offset 0x064 [31:0], RC. -/
def tor_TOR_FARFIX_LATE : Fld :=
  { blk := 6, base := 0x400064, lo := 0, wid := 32, acc := .rc }

/-- R356: TOR_LOST_EVALS, offset 0x068 [31:0], RC. -/
def tor_TOR_LOST_EVALS : Fld :=
  { blk := 6, base := 0x400068, lo := 0, wid := 32, acc := .rc }

/-- R356: TOR_SIGLOG_OVF, offset 0x06C [31:0], RC. -/
def tor_TOR_SIGLOG_OVF : Fld :=
  { blk := 6, base := 0x40006C, lo := 0, wid := 32, acc := .rc }

/-- R356: TOR_FARFIX_BAD, offset 0x070 [31:0], RC. -/
def tor_TOR_FARFIX_BAD : Fld :=
  { blk := 6, base := 0x400070, lo := 0, wid := 32, acc := .rc }

/-- R356: TOR_JNL_FULL, offset 0x074 [31:0], RC. -/
def tor_TOR_JNL_FULL : Fld :=
  { blk := 6, base := 0x400074, lo := 0, wid := 32, acc := .rc }

/-- R357: INFLIGHT, offset +0x00 [8:0], RO. -/
def tspec_INFLIGHT : Fld :=
  { blk := 6, base := 0x401000, lo := 0, wid := 9, acc := .ro, n := 64, stride := 0x20 }

/-- R357: SPEC, offset +0x00 [20:16], RO. -/
def tspec_SPEC : Fld :=
  { blk := 6, base := 0x401000, lo := 16, wid := 5, acc := .ro, n := 64, stride := 0x20 }

/-- R357: JNL_USED, offset +0x04 [9:0], RO. -/
def tspec_JNL_USED : Fld :=
  { blk := 6, base := 0x401004, lo := 0, wid := 10, acc := .ro, n := 64, stride := 0x20 }

/-- R357: JNL_RESV, offset +0x04 [25:16], RO. -/
def tspec_JNL_RESV : Fld :=
  { blk := 6, base := 0x401004, lo := 16, wid := 10, acc := .ro, n := 64, stride := 0x20 }

/-- R357: FIX_FRAME, offset +0x08 [31:0], RO. -/
def tspec_FIX_FRAME : Fld :=
  { blk := 6, base := 0x401008, lo := 0, wid := 32, acc := .ro, n := 64, stride := 0x20 }

/-- R357: FARFIX_FRAME, offset +0x0C [31:0], RO. -/
def tspec_FARFIX_FRAME : Fld :=
  { blk := 6, base := 0x40100C, lo := 0, wid := 32, acc := .ro, n := 64, stride := 0x20 }

/-- R357: FIX_OVF, offset +0x10 [0], RO. -/
def tspec_FIX_OVF : Fld :=
  { blk := 6, base := 0x401010, lo := 0, wid := 1, acc := .ro, n := 64, stride := 0x20 }

/-- R357: MODE_PEND, offset +0x10 [1], RO. -/
def tspec_MODE_PEND : Fld :=
  { blk := 6, base := 0x401010, lo := 1, wid := 1, acc := .ro, n := 64, stride := 0x20 }

/-- R357: MODE_NEXT, offset +0x10 [2], RO. -/
def tspec_MODE_NEXT : Fld :=
  { blk := 6, base := 0x401010, lo := 2, wid := 1, acc := .ro, n := 64, stride := 0x20 }

/-- R386: LIM_TRIP, offset 0x000 [15:0], RWB. -/
def adm_LIM_TRIP : Fld :=
  { blk := 7, base := 0x480000, lo := 0, wid := 16, acc := .rwb, reset := 250, bnd := .hyper, clamp := .range 38 65535, cfg := true }

/-- R386: LIM_OTHER, offset 0x000 [31:16], RWB. -/
def adm_LIM_OTHER : Fld :=
  { blk := 7, base := 0x480000, lo := 16, wid := 16, acc := .rwb, reset := 250, bnd := .hyper, clamp := .range 38 65535, cfg := true }

/-- R386: HOST_PATH_NS, offset 0x004 [15:0], RWB. -/
def adm_HOST_PATH_NS : Fld :=
  { blk := 7, base := 0x480004, lo := 0, wid := 16, acc := .rwb, reset := 1000, bnd := .hyper, cfg := true }

/-- R386: ADM_SEQ, offset 0x008 [31:0], RO. -/
def adm_ADM_SEQ : Fld :=
  { blk := 7, base := 0x480008, lo := 0, wid := 32, acc := .ro }

/-- R386: QUEUED, offset 0x00C [4:0], RO. -/
def adm_QUEUED : Fld :=
  { blk := 7, base := 0x48000C, lo := 0, wid := 5, acc := .ro }

/-- R386: COMPUTING, offset 0x00C [5], RO. -/
def adm_COMPUTING : Fld :=
  { blk := 7, base := 0x48000C, lo := 5, wid := 1, acc := .ro }

/-- R386: LAST_REASON, offset 0x010 [15:0], RO. -/
def adm_LAST_REASON : Fld :=
  { blk := 7, base := 0x480010, lo := 0, wid := 16, acc := .ro }

/-- R386: LAST_ITEM, offset 0x010 [31:16], RO. -/
def adm_LAST_ITEM : Fld :=
  { blk := 7, base := 0x480010, lo := 16, wid := 16, acc := .ro }

/-- R386: Q32_NS, offset 0x014 [15:0], RO. -/
def adm_Q32_NS : Fld :=
  { blk := 7, base := 0x480014, lo := 0, wid := 16, acc := .ro }

/-- R386: ADM_REFUSE, offset 0x040 [31:0], RC. -/
def adm_ADM_REFUSE : Fld :=
  { blk := 7, base := 0x480040, lo := 0, wid := 32, acc := .rc }

/-- R386: ADM_PUB_REFUSE, offset 0x044 [31:0], RC. -/
def adm_ADM_PUB_REFUSE : Fld :=
  { blk := 7, base := 0x480044, lo := 0, wid := 32, acc := .rc }

/-- R386: ADM_SCAN_REFUSE, offset 0x048 [31:0], RC. -/
def adm_ADM_SCAN_REFUSE : Fld :=
  { blk := 7, base := 0x480048, lo := 0, wid := 32, acc := .rc }

/-- R386: ADM_BOUND_MISS, offset 0x04C [31:0], RC. -/
def adm_ADM_BOUND_MISS : Fld :=
  { blk := 7, base := 0x48004C, lo := 0, wid := 32, acc := .rc }

/-- R386: ADM_HELD, offset 0x050 [31:0], RC. -/
def adm_ADM_HELD : Fld :=
  { blk := 7, base := 0x480050, lo := 0, wid := 32, acc := .rc }

/-- R386: RESV_SLOTS, offset 0x100 + 8l [9:0], RO. -/
def ltile_RESV_SLOTS : Fld :=
  { blk := 7, base := 0x480100, lo := 0, wid := 10, acc := .ro, n := 64, stride := 0x8 }

/-- R386: UTIL, offset +0x0 [25:16], RO. -/
def ltile_UTIL : Fld :=
  { blk := 7, base := 0x480100, lo := 16, wid := 10, acc := .ro, n := 64, stride := 0x8 }

/-- R386: RB_SLOTS, offset +0x4 [6:0], RO. -/
def ltile_RB_SLOTS : Fld :=
  { blk := 7, base := 0x480104, lo := 0, wid := 7, acc := .ro, n := 64, stride := 0x8 }

/-- R386: PORT_LOAD, offset 0x300 + 4p [9:0], RO. -/
def admport_PORT_LOAD : Fld :=
  { blk := 7, base := 0x480300, lo := 0, wid := 10, acc := .ro, n := 36, stride := 0x4 }

/-- R386: SCAN_LOAD, offset 0x400 + 4c [9:0], RO. -/
def admcore_SCAN_LOAD : Fld :=
  { blk := 7, base := 0x480400, lo := 0, wid := 10, acc := .ro, n := 8, stride := 0x4 }

/-- R457: PROGRAMS, offset 0x000 [7:0], RO. -/
def scn_PROGRAMS : Fld :=
  { blk := 8, base := 0x500000, lo := 0, wid := 8, acc := .ro }

/-- R457: FORCES, offset 0x000 [20:8], RO. -/
def scn_FORCES : Fld :=
  { blk := 8, base := 0x500000, lo := 8, wid := 13, acc := .ro }

/-- R457: OVR_ABANDON, offset 0x004 [3:0], RWB. -/
def scn_OVR_ABANDON : Fld :=
  { blk := 8, base := 0x500004, lo := 0, wid := 4, acc := .rwb, reset := 2, bnd := .cycle, clamp := .range 2 15, cfg := true }

/-- R457: SCN_OVERRUN, offset 0x040 [31:0], RC. -/
def scn_SCN_OVERRUN : Fld :=
  { blk := 8, base := 0x500040, lo := 0, wid := 32, acc := .rc }

/-- R457: SCN_WC_EXCEED, offset 0x044 [31:0], RC. -/
def scn_SCN_WC_EXCEED : Fld :=
  { blk := 8, base := 0x500044, lo := 0, wid := 32, acc := .rc }

/-- R457: SCN_ABANDON, offset 0x048 [31:0], RC. -/
def scn_SCN_ABANDON : Fld :=
  { blk := 8, base := 0x500048, lo := 0, wid := 32, acc := .rc }

/-- R457: SCN_SKIP, offset 0x04C [31:0], RC. -/
def scn_SCN_SKIP : Fld :=
  { blk := 8, base := 0x50004C, lo := 0, wid := 32, acc := .rc }

/-- R457: SCN_FAULT, offset 0x050 [31:0], RC. -/
def scn_SCN_FAULT : Fld :=
  { blk := 8, base := 0x500050, lo := 0, wid := 32, acc := .rc }

/-- R457: SCN_FORCE_REL, offset 0x054 [31:0], RC. -/
def scn_SCN_FORCE_REL : Fld :=
  { blk := 8, base := 0x500054, lo := 0, wid := 32, acc := .rc }

/-- R457: SCN_ECC_UNCORR, offset 0x058 [31:0], RC. -/
def scn_SCN_ECC_UNCORR : Fld :=
  { blk := 8, base := 0x500058, lo := 0, wid := 32, acc := .rc }

/-- R457: STATE, offset +0x00 [1:0], RO. -/
def prog_STATE : Fld :=
  { blk := 8, base := 0x501000, lo := 0, wid := 2, acc := .ro, n := 128, stride := 0x20 }

/-- R457: CORE, offset +0x00 [4:2], RO. -/
def prog_CORE : Fld :=
  { blk := 8, base := 0x501000, lo := 2, wid := 3, acc := .ro, n := 128, stride := 0x20 }

/-- R457: WC_OVER, offset +0x00 [5], W1C. -/
def prog_WC_OVER : Fld :=
  { blk := 8, base := 0x501000, lo := 5, wid := 1, acc := .w1c, n := 128, stride := 0x20 }

/-- R457: EXCH_PEND, offset +0x00 [6], RO. -/
def prog_EXCH_PEND : Fld :=
  { blk := 8, base := 0x501000, lo := 6, wid := 1, acc := .ro, n := 128, stride := 0x20 }

/-- R457: CYCLE_LO, offset +0x04 [31:0], RO. -/
def prog_CYCLE_LO : Fld :=
  { blk := 8, base := 0x501004, lo := 0, wid := 32, acc := .ro, n := 128, stride := 0x20 }

/-- R457: CYCLE_LAST, offset +0x08 [31:0], RO. -/
def prog_CYCLE_LAST : Fld :=
  { blk := 8, base := 0x501008, lo := 0, wid := 32, acc := .ro, n := 128, stride := 0x20 }

/-- R457: CYCLE_MAX, offset +0x0C [31:0], RC. -/
def prog_CYCLE_MAX : Fld :=
  { blk := 8, base := 0x50100C, lo := 0, wid := 32, acc := .rc, n := 128, stride := 0x20 }

/-- R457: CT_US, offset +0x10 [31:0], RO. -/
def prog_CT_US : Fld :=
  { blk := 8, base := 0x501010, lo := 0, wid := 32, acc := .ro, n := 128, stride := 0x20 }

/-- R477: CAP_FLUSH_MS, offset 0x000 [9:0], RWB. -/
def cap_CAP_FLUSH_MS : Fld :=
  { blk := 9, base := 0x580000, lo := 0, wid := 10, acc := .rwb, reset := 10, bnd := .window, clamp := .range 1 1000, cfg := true }

/-- R477: XTRIG_LVL, offset 0x004 [3:0], RO. -/
def cap_XTRIG_LVL : Fld :=
  { blk := 9, base := 0x580004, lo := 0, wid := 4, acc := .ro }

/-- R477: TRIG_IN_LVL, offset 0x004 [4], RO. -/
def cap_TRIG_IN_LVL : Fld :=
  { blk := 9, base := 0x580004, lo := 4, wid := 1, acc := .ro }

/-- R477: CAP_REFUSE, offset 0x040 [31:0], RC. -/
def cap_CAP_REFUSE : Fld :=
  { blk := 9, base := 0x580040, lo := 0, wid := 32, acc := .rc }

/-- R477: CAP_TRIG_SUPPRESS, offset 0x044 [31:0], RC. -/
def cap_CAP_TRIG_SUPPRESS : Fld :=
  { blk := 9, base := 0x580044, lo := 0, wid := 32, acc := .rc }

/-- R477: CAP_MARK_LOST, offset 0x048 [31:0], RC. -/
def cap_CAP_MARK_LOST : Fld :=
  { blk := 9, base := 0x580048, lo := 0, wid := 32, acc := .rc }

/-- R477: CAP_STAGE_ECC, offset 0x04C [31:0], RC. -/
def cap_CAP_STAGE_ECC : Fld :=
  { blk := 9, base := 0x58004C, lo := 0, wid := 32, acc := .rc }

/-- R477: STATE, offset 0x1000 + 0x20k [1:0], RO. -/
def cset_STATE : Fld :=
  { blk := 9, base := 0x581000, lo := 0, wid := 2, acc := .ro, n := 64, stride := 0x20 }

/-- R477: DIV_ACT, offset +0x00 [5:2], RO. -/
def cset_DIV_ACT : Fld :=
  { blk := 9, base := 0x581000, lo := 2, wid := 4, acc := .ro, n := 64, stride := 0x20, reset := 1 }

/-- R477: HOLD, offset +0x00 [6], RO. -/
def cset_HOLD : Fld :=
  { blk := 9, base := 0x581000, lo := 6, wid := 1, acc := .ro, n := 64, stride := 0x20 }

/-- R477: FILL_KIB, offset +0x04 [31:0], RO. -/
def cset_FILL_KIB : Fld :=
  { blk := 9, base := 0x581004, lo := 0, wid := 32, acc := .ro, n := 64, stride := 0x20 }

/-- R477: SEQ, offset +0x08 [31:0], RO. -/
def cset_SEQ : Fld :=
  { blk := 9, base := 0x581008, lo := 0, wid := 32, acc := .ro, n := 64, stride := 0x20 }

/-- R477: CAP_RATE_DOWN, offset +0x0C [31:0], RC. -/
def cset_CAP_RATE_DOWN : Fld :=
  { blk := 9, base := 0x58100C, lo := 0, wid := 32, acc := .rc, n := 64, stride := 0x20 }

/-- R477: CAP_RATE_UP, offset +0x10 [31:0], RC. -/
def cset_CAP_RATE_UP : Fld :=
  { blk := 9, base := 0x581010, lo := 0, wid := 32, acc := .rc, n := 64, stride := 0x20 }

/-- R477: CAP_GAP_TICKS, offset +0x14 [31:0], RC. -/
def cset_CAP_GAP_TICKS : Fld :=
  { blk := 9, base := 0x581014, lo := 0, wid := 32, acc := .rc, n := 64, stride := 0x20 }

/-- R477: CAP_MARKS, offset +0x18 [31:0], RC. -/
def cset_CAP_MARKS : Fld :=
  { blk := 9, base := 0x581018, lo := 0, wid := 32, acc := .rc, n := 64, stride := 0x20 }

/-- The fields with prefix `svi` (block 4). -/
def list_b4_svi : List Fld :=
  [svi_STREAMS, svi_SLOTS_USED, svi_ASDU_LOAD, svi_CHS_LOAD,
   svi_EARLY_TOL, svi_LOST_MS, svi_SVI_NOMATCH, svi_SVI_BER_ERR,
   svi_SVI_CONFREV, svi_SVI_APT_DENY, svi_SVI_ADM_REFUSE, svi_SVI_STORE_ECC]

/-- The fields with prefix `str` (block 4). -/
def list_b4_str : List Fld :=
  [str_STATE, str_LAST_SMPCNT, str_LAST_SEC, str_HEAD,
   str_DEPTH, str_SVI_RX, str_SVI_DUP, str_SVI_EARLY,
   str_SVI_LATE, str_SVI_LATE_DROP, str_SVI_RECKONED, str_SVI_CONFIRM,
   str_SVI_MISMATCH, str_SVI_SUBST, str_SVI_BAD_SMPCNT, str_SVI_FMT_ERR,
   str_SVI_TAGFAIL]

/-- The fields with prefix `flt` (block 5). -/
def list_b5_flt : List Fld :=
  [flt_CHAINS_ACTIVE, flt_FLT_SAT, flt_FLT_RINGING, flt_FLT_CFG_HELD,
   flt_FLT_RECOMPUTE, flt_FLT_ECC]

/-- The fields with prefix `slot` (block 5). -/
def list_b5_slot : List Fld :=
  [slot_S1_SEL, slot_S2_SEL, slot_RINGING, slot_SETTLING,
   slot_SAT, slot_M_ACT, slot_D_ACT]

/-- The fields with prefix `tor` (block 6). -/
def list_b6_tor : List Fld :=
  [tor_TILES_ALLOC, tor_TILES_SPARE, tor_TILES_FENCED, tor_SPARE_N,
   tor_ISA_REV, tor_INSTANCES, tor_TOR_ADM_REFUSE, tor_TOR_CLK_HELD,
   tor_TOR_SPARE_USED, tor_TOR_SPARE_NONE, tor_TOR_ROLLBACK, tor_TOR_REPLAY_EVALS,
   tor_TOR_DEFER, tor_TOR_RA_WAIT, tor_TOR_FIX_OVF, tor_TOR_FARFIX_LATE,
   tor_TOR_LOST_EVALS, tor_TOR_SIGLOG_OVF, tor_TOR_FARFIX_BAD, tor_TOR_JNL_FULL]

/-- The fields with prefix `quad` (block 6). -/
def list_b6_quad : List Fld :=
  [quad_QCLK, quad_QCLK_MHZ]

/-- The fields with prefix `tile` (block 6). -/
def list_b6_tile : List Fld :=
  [tile_STATE, tile_MODE, tile_LTILE, tile_INST_COUNT,
   tile_DATA_KIB, tile_PROG_KIB, tile_TOR_EVALS, tile_TOR_FAULTS,
   tile_TOR_FP_INVALID, tile_TOR_ECC_CORR, tile_TOR_ECC_UNCORR]

/-- The fields with prefix `tspec` (block 6). -/
def list_b6_tspec : List Fld :=
  [tspec_INFLIGHT, tspec_SPEC, tspec_JNL_USED, tspec_JNL_RESV,
   tspec_FIX_FRAME, tspec_FARFIX_FRAME, tspec_FIX_OVF, tspec_MODE_PEND,
   tspec_MODE_NEXT]

/-- The fields with prefix `adm` (block 7). -/
def list_b7_adm : List Fld :=
  [adm_LIM_TRIP, adm_LIM_OTHER, adm_HOST_PATH_NS, adm_ADM_SEQ,
   adm_QUEUED, adm_COMPUTING, adm_LAST_REASON, adm_LAST_ITEM,
   adm_Q32_NS, adm_ADM_REFUSE, adm_ADM_PUB_REFUSE, adm_ADM_SCAN_REFUSE,
   adm_ADM_BOUND_MISS, adm_ADM_HELD]

/-- The fields with prefix `ltile` (block 7). -/
def list_b7_ltile : List Fld :=
  [ltile_RESV_SLOTS, ltile_UTIL, ltile_RB_SLOTS]

/-- The fields with prefix `admport` (block 7). -/
def list_b7_admport : List Fld :=
  [admport_PORT_LOAD]

/-- The fields with prefix `admcore` (block 7). -/
def list_b7_admcore : List Fld :=
  [admcore_SCAN_LOAD]

/-- The fields with prefix `scn` (block 8). -/
def list_b8_scn : List Fld :=
  [scn_PROGRAMS, scn_FORCES, scn_OVR_ABANDON, scn_SCN_OVERRUN,
   scn_SCN_WC_EXCEED, scn_SCN_ABANDON, scn_SCN_SKIP, scn_SCN_FAULT,
   scn_SCN_FORCE_REL, scn_SCN_ECC_UNCORR]

/-- The fields with prefix `prog` (block 8). -/
def list_b8_prog : List Fld :=
  [prog_STATE, prog_CORE, prog_WC_OVER, prog_EXCH_PEND,
   prog_CYCLE_LO, prog_CYCLE_LAST, prog_CYCLE_MAX, prog_CT_US]

/-- The fields with prefix `cap` (block 9). -/
def list_b9_cap : List Fld :=
  [cap_CAP_FLUSH_MS, cap_XTRIG_LVL, cap_TRIG_IN_LVL, cap_CAP_REFUSE,
   cap_CAP_TRIG_SUPPRESS, cap_CAP_MARK_LOST, cap_CAP_STAGE_ECC]

/-- The fields with prefix `cset` (block 9). -/
def list_b9_cset : List Fld :=
  [cset_STATE, cset_DIV_ACT, cset_HOLD, cset_FILL_KIB,
   cset_SEQ, cset_CAP_RATE_DOWN, cset_CAP_RATE_UP, cset_CAP_GAP_TICKS,
   cset_CAP_MARKS]

/-- All fields of this file. -/
def allRegsProc : List Fld :=
  list_b4_svi ++ list_b4_str ++ list_b5_flt ++ list_b5_slot ++ list_b6_tor ++ list_b6_quad ++ list_b6_tile ++ list_b6_tspec ++ list_b7_adm ++ list_b7_ltile ++ list_b7_admport ++ list_b7_admcore ++ list_b8_scn ++ list_b8_prog ++ list_b9_cap ++ list_b9_cset

end Sys2Proof.Machine.Reg
end

