-- ==== Sys2Proof/Machine/Ops.lean ====
section
/-!
DEFINITION. The named operations every meaning is built from: tables, register fields, byte stores, time, outputs,
free values, the configuration CRC, events with their MSI-X messages and Logbook records, and the completion of handles.
-/

namespace Sys2Proof.Machine

/-! ### Tables -/

/-- The entry of number `k`, `d` where the table lists none. -/
def Tbl.look {α : Type} (d : α) : Tbl α → Nat → α
  | [], _ => d
  | (j, v) :: m, k => if j = k then v else Tbl.look d m k

/-- The table without number `k`. -/
def Tbl.drop {α : Type} : Tbl α → Nat → Tbl α
  | [], _ => []
  | (j, v) :: m, k => if j = k then Tbl.drop m k else (j, v) :: Tbl.drop m k

/-- The table with `v` put at number `k`, in rising order. -/
def Tbl.ins {α : Type} (v : α) : Tbl α → Nat → Tbl α
  | [], k => [(k, v)]
  | (j, w) :: m, k =>
    if k < j then (k, v) :: (j, w) :: m
    else if k = j then (k, v) :: m
    else (j, w) :: Tbl.ins v m k

/-- The table with entry `k` made `v`; a default value is not listed, so equal tables are equal data. -/
def Tbl.put {α : Type} [DecidableEq α] (d : α) (m : Tbl α) (k : Nat) (v : α) : Tbl α :=
  if v = d then Tbl.drop m k else Tbl.ins v m k

/-- The table with entry `k` changed by `f`. -/
def Tbl.upd {α : Type} [DecidableEq α] (d : α) (m : Tbl α) (k : Nat) (f : α → α) : Tbl α :=
  Tbl.put d m k (f (Tbl.look d m k))

/-- Numbers rise strictly and every one is above `lo`, and no entry equals the default. -/
def Tbl.wfFrom {α : Type} [DecidableEq α] (d : α) : Nat → Tbl α → Bool
  | _, [] => true
  | lo, (j, v) :: m => decide (lo ≤ j) && decide (v ≠ d) && Tbl.wfFrom d (j + 1) m

/-- The canonical form of a table. -/
def Tbl.wf {α : Type} [DecidableEq α] (d : α) (m : Tbl α) : Bool := Tbl.wfFrom d 0 m

/-! ### Byte stores -/

/-- One byte of a byte store; a byte not listed reads 0 (R79 for domains; log entry 6 for the buffers). -/
def Memory.read (m : List Host.Cell) (a : Nat) : Byte := Tbl.look (0 : Byte) m a

/-- One byte written. -/
def Memory.write (m : List Host.Cell) (a : Nat) (v : Byte) : List Host.Cell := Tbl.put (0 : Byte) m a v

/-- The canonical form of a byte store: addresses strictly rising, no listed byte 0. -/
def Memory.wf (m : List Host.Cell) : Bool := Tbl.wf (0 : Byte) m

/-- `len` bytes from `a`. -/
def Memory.readBytes (m : List Host.Cell) (a : Nat) : Nat → Bytes
  | 0 => []
  | n + 1 => Memory.read m a :: Memory.readBytes m (a + 1) n

/-- Bytes written from `a` upwards. -/
def Memory.writeBytes (m : List Host.Cell) (a : Nat) : Bytes → List Host.Cell
  | [] => m
  | b :: bs => Memory.writeBytes (Memory.write m a b) (a + 1) bs

/-! ### Register fields -/

/-- Every register field of the spec. -/
def Reg.all : List Fld := Reg.allRegsHost ++ Reg.allRegsNet ++ Reg.allRegsProc ++ Reg.allRegsPlat

/-- What a stored value of a field acts as (the Meaning column: values out of range act as the nearest limit). -/
def Clamp.eff (c : Clamp) (wid v : Nat) : Nat :=
  match c with
  | .any => v
  | .range lo hi => clampN lo hi v
  | .srange lim => ofSigned wid (max (-(lim : Int)) (min (lim : Int) (toSigned wid v)))
  | .asVal lo hi w => if lo ≤ v ∧ v ≤ hi then w else v
  | .keepAbove _ => v
  | .bytesMin1 =>
    ofLe ((leBytes 4 v).map fun b => if b = 0 then (1 : Byte) else b)

/-- The stored value of instance `i` of a field: applied, not buffered. -/
def State.raw (s : State) (f : Fld) (i : Nat := 0) : Nat :=
  (Tbl.look (BitVec.ofNat 32 f.reset) s.regs (f.key i)).toNat

/-- The value of a field that the module acts on. -/
def State.rd (s : State) (f : Fld) (i : Nat := 0) : Nat := f.clamp.eff f.wid (s.raw f i)

/-- A one-bit field as a truth value. -/
def State.flag (s : State) (f : Fld) (i : Nat := 0) : Bool := s.rd f i != 0

/-- A field given a value, cut to the field's width. -/
def State.wr (s : State) (f : Fld) (i : Nat) (v : Nat) : State :=
  { s with regs := Tbl.put (BitVec.ofNat 32 f.reset) s.regs (f.key i) (BitVec.ofNat 32 (v % 2 ^ f.wid)) }

/-- A one-bit field given a truth value. -/
def State.wrFlag (s : State) (f : Fld) (i : Nat) (b : Bool) : State := s.wr f i (b2n b)

/-- A counter increased by `by_`; counters wrap at 2³² (R101, R175 and the other blocks' rules). -/
def State.count (s : State) (f : Fld) (i : Nat := 0) (by_ : Nat := 1) : State := s.wr f i (s.raw f i + by_)

/-- A 64-bit counter increased: `lo` is its visible low word, `up` the upper word of the running count (R176). -/
def State.count64 (s : State) (lo up : Fld) (i : Nat) (by_ : Nat) : State :=
  let v := s.raw up i * 2 ^ 32 + s.raw lo i + by_
  (s.wr lo i v).wr up i (v / 2 ^ 32)

/-- Which instance of a field lies at an address, if any. -/
def Fld.at? (f : Fld) (a : Nat) : Option Nat :=
  if a < f.base then none
  else
    let d := a - f.base
    let i1 := if f.stride = 0 then 0 else min (d / f.stride) (f.n - 1)
    let r := d - i1 * f.stride
    let i2 := if f.stride2 = 0 then 0 else min (r / f.stride2) (f.m - 1)
    if i1 * f.stride + i2 * f.stride2 = d then some (i1 * f.m + i2) else none

/-- The fields of the register at an address, each with its instance. -/
def Reg.fieldsAt (a : Nat) : List (Fld × Nat) :=
  Reg.all.filterMap fun f => if f.acc = .hid then none else (f.at? a).map fun i => (f, i)

/-- The value an RWB field was last given: the newest buffered write, else the applied value (R13). -/
def State.lastWritten (s : State) (f : Fld) (i : Nat) : Nat :=
  match s.hif.shadow.reverse.find? (fun b => b.key = f.key i) with
  | some b => b.val
  | none => s.raw f i

/-- What a read of a field returns (R13): the value last written for RWB, 0 for WO, the value for the rest. -/
def State.readField (s : State) (f : Fld) (i : Nat) : Nat :=
  match f.acc with
  | .rwb => s.lastWritten f i
  | .wo => 0
  | _ => s.raw f i

/-- Size in cells of the pool of owner `o`: a slice's applied BUF_SHARE, or for the module (128) what ADM_CELLS and
the slice shares leave (R197). -/
def State.poolSize (s : State) (o : Nat) : Nat :=
  if o < 128 then s.raw Reg.slc_BUF_SHARE o
  else 49152 - s.raw Reg.swc_ADM_CELLS - ((List.range 128).map fun k => s.raw Reg.slc_BUF_SHARE k).sum

/-- The module's clockIdentity, the EUI-64 of its base MAC address (R146; the FF-FE in its middle is PRESUMED, log entry
8). -/
def State.clockId (s : State) : Nat :=
  s.ident.baseMac / 2 ^ 24 * 2 ^ 40 + 0xFFFE * 2 ^ 24 + s.ident.baseMac % 2 ^ 24

/-- Words that show fields stored elsewhere: the clockIdentity (R146), SHARE of a buffer owner (R208), and the status registers of a slice window
that show the slice's entry (R415). -/
def State.sliceView (s : State) (a : Nat) : Option Nat :=
  if a = 0x28005C then some (s.clockId % 2 ^ 32)
  else if a = 0x280060 then some (s.clockId / 2 ^ 32)
  else if a < 0x1000000 then
    if 0x181000 ≤ a ∧ a < 0x181810 ∧ a % 16 = 0 then some (s.poolSize ((a - 0x181000) / 16)) else none
  else
    let sl := (a - 0x1000000) / 0x10000
    if 128 ≤ sl then none
    else
      match (a - 0x1000000) % 0x10000 with
      | 0x000 => some (sl + s.raw Reg.slc_STATE sl * 0x100 + s.raw Reg.slc_GEN sl * 0x10000)
      | 0x004 => some (s.raw Reg.slc_BOB_COUNT sl)
      | 0x008 => some (s.raw Reg.slc_DESC_SHARE sl)
      | _ => none

/-- The word a read of the register at an address returns, without the side effects of RC and latching reads; reserved
bits read 0 (R10). -/
def State.readWord (s : State) (a : Nat) : Nat :=
  match s.sliceView a with
  | some v => v
  | none => ((Reg.fieldsAt a).map fun fi => s.readField fi.1 fi.2 * 2 ^ fi.1.lo).sum

/-! ### Time -/

/-- Units of 1/9 ns in a nanosecond, a microsecond, a millisecond, a second (R144). -/
def unitsNs : Nat := 9
def unitsUs : Nat := 9000
def unitsMs : Nat := 9000000
def unitsSec : Nat := 9000000000
/-- A 125 µs accounting window, a pricking frame, a hyperperiod, in units of 1/9 ns (R93, R144). -/
def unitsWin : Nat := 1125000
def unitsFrame : Nat := 625000
def unitsHyper : Nat := 7500000

/-- TAI in units of 1/9 ns (R122). -/
def State.tai (s : State) : Nat := ((s.mono : Int) + s.stx.off).toNat

/-- TAI of a MONO instant. -/
def State.taiOf (s : State) (t : Nat) : Nat := ((t : Int) + s.stx.off).toNat

/-- The MONO instant of a TAI instant. -/
def State.monoOf (s : State) (t : Nat) : Nat := ((t : Int) - s.stx.off).toNat

/-- Time moves on to an instant; it never goes back. -/
def State.advance (s : State) (t : Nat) : State := { s with mono := max s.mono t }

/-- The TIME96 of a TAI instant: 8 bytes of seconds and 4 of nanoseconds, big-endian (R14). -/
def time96 (t : Nat) : Bytes := beBytes 8 (t / unitsSec) ++ beBytes 4 (t % unitsSec / unitsNs)

/-- The TIME96 of a TAI instant, little-endian (R9). -/
def time96le (t : Nat) : Bytes := leBytes 8 (t / unitsSec) ++ leBytes 4 (t % unitsSec / unitsNs)

/-- Operating time of PD0 in units of 1/9 ns (R587). -/
def State.opTime (s : State) : Nat := s.opBase + s.mono

/-- Switch port `q` has a frame on the wire (R640). -/
def State.txBusy (s : State) (q : Nat) : Bool := (Tbl.look none s.net.tx q).isSome

/-! ### Outputs and free values -/

/-- Something leaves the module. -/
def State.emit (s : State) (o : Output) : State := { s with out := o :: s.out }

/-- The next free value, reduced below `n`, and the state with the value taken (log entry 3). -/
def State.free (s : State) (n : Nat) : Nat × State :=
  ((if n = 0 then Config.freeNat s.freeTick else Config.freeNat s.freeTick % n), { s with freeTick := s.freeTick + 1 })

/-- `len` random bytes of the Binnacle's generator. -/
def State.random (s : State) (len : Nat) : Bytes × State :=
  (Config.random s.wh.draws len, { s with wh := { s.wh with draws := s.wh.draws + 1 } })

/-! ### Sorting -/

/-- An item put into a sorted list, before those equal to it. -/
def insertBy {α : Type} (le : α → α → Bool) (x : α) : List α → List α
  | [] => [x]
  | y :: ys => if le x y then x :: y :: ys else y :: insertBy le x ys

/-- A list in rising order; equal items keep their order. -/
def sortBy {α : Type} (le : α → α → Bool) (l : List α) : List α := l.foldr (insertBy le) []

/-! ### Configuration CRC -/

/-- One bit of CRC-32C, reflected (R104). -/
def crcBit (c : BitVec 32) : BitVec 32 := if c.getLsbD 0 then (c >>> 1) ^^^ 0x82F63B78#32 else c >>> 1

/-- One byte of CRC-32C. -/
def crcByte (c : BitVec 32) (b : Byte) : BitVec 32 :=
  let x := c ^^^ BitVec.zeroExtend 32 b
  crcBit (crcBit (crcBit (crcBit (crcBit (crcBit (crcBit (crcBit x)))))))

/-- CRC-32C of R104. -/
def crc32c (bs : Bytes) : Nat := ((bs.foldl crcByte 0xFFFFFFFF#32) ^^^ 0xFFFFFFFF#32).toNat

/-- Two rising lists as one, each number once; the fuel is at least the sum of their lengths. -/
def mergeAsc : Nat → List Nat → List Nat → List Nat
  | 0, a, b => a ++ b
  | _ + 1, [], b => b
  | _ + 1, a, [] => a
  | n + 1, x :: a, y :: b =>
    if x < y then x :: mergeAsc n a (y :: b) else if y < x then y :: mergeAsc n (x :: a) b else x :: mergeAsc n a b

/-- The addresses of some fields, in ascending order, each once. -/
def addrsOf (fs : List Fld) : List Nat :=
  fs.foldl (fun l f =>
    mergeAsc (l.length + f.n * f.m) l (sortBy (fun a b => decide (a ≤ b)) ((List.range (f.n * f.m)).map fun i => f.addr i))) []

/-- The addresses of a block's registers that hold a configuration field, in ascending order (R105). -/
def Reg.cfgAddrs (b : Nat) : List Nat := addrsOf (Reg.all.filter fun f => f.blk = b && f.cfg)

/-- The configuration image of block `b` (R105). -/
def State.cfgImage (s : State) (b : Nat) : Bytes :=
  (Reg.cfgAddrs b).flatMap fun a =>
    leBytes 4 (((Reg.fieldsAt a).filter fun fi => fi.1.cfg).map fun fi => s.raw fi.1 fi.2 * 2 ^ fi.1.lo).sum

/-- The CRC of block `b`'s image. -/
def State.cfgCrc (s : State) (b : Nat) : Nat := crc32c (s.cfgImage b)

/-- EVT_CFG_ALL over the given block CRCs (R106). -/
def crcOfBlocks (crcs : List Nat) : Nat := crc32c (crcs.flatMap (leBytes 4))

/-- The whole-configuration CRC of the applied values (R60, R106). -/
def State.cfgAllNow (s : State) : Nat := crcOfBlocks ((List.range 19).map s.cfgCrc)

/-! ### Logbook offer (R587–R594) -/

/-- Power domains (R17): is domain `d` on? -/
def State.domainOn (s : State) (d : Nat) : Bool := bit d (s.raw Reg.pwr_DOM_ON)

/-- The power domain of an island of R20, islands numbered as in R25. -/
def islandDomain (i : Nat) : Nat :=
  if i < 16 then 11
  else if i < 20 then 5 + (i - 16)
  else match i with
    | 20 => 4   -- switch core
    | 21 => 10  -- ingest and filters
    | 22 => 10  -- scan engine
    | 23 => 3   -- host interface
    | 24 => 1   -- control processor
    | 25 => 2   -- Sextant
    | _ => 1    -- Binnacle, housekeeping

/-- The island of a block of R106 (R17). -/
def blockIsland (b : Nat) : Nat :=
  match b with
  | 0 => 16 | 1 => 20 | 2 => 20 | 3 => 25 | 4 => 21 | 5 => 21 | 6 => 0 | 7 => 24 | 8 => 22 | 9 => 21
  | 10 => 27 | 11 => 26 | 12 => 24 | 13 => 27 | 14 => 24 | 15 => 27 | 16 => 23 | 17 => 23 | 18 => 23 | _ => 23

/-- Where a register lies: the island that an access to address `a` targets. Port registers lie in their group's
island, quad and tile registers in their quad's (R17). -/
def addrIsland (a : Nat) : Nat :=
  if a < 0x100000 ∨ 0xA80000 ≤ a then 23
  else
    let b := (a - 0x100000) / 0x80000
    let o := (a - 0x100000) % 0x80000
    if b = 0 then
      if 0x100 ≤ o ∧ o < 0x1100 then 16 + min 3 ((o - 0x100) / 0x80 / 8) else if o < 0x100 then 24 else 24
    else if b = 6 then
      if 0x100 ≤ o ∧ o < 0x200 then (o - 0x100) / 0x10
      else if 0x400 ≤ o ∧ o < 0xC00 then (o - 0x400) / 0x20 / 4
      else if 0x1000 ≤ o ∧ o < 0x1800 then (o - 0x1000) / 0x20 / 4
      else 24
    else blockIsland b

/-- A block is fenced (R534). -/
def State.isFenced (s : State) (b : Blk) : Bool := s.pwr.fenced.contains b

/-- An island is held in reset: fenced (R534), its port group or the control processor in reset (R527, R529), or the
Binnacle after a failed known-answer test (R578). -/
def State.islandHeld (s : State) (i : Nat) : Bool :=
  match i with
  | 20 => s.isFenced .switchCore || s.isFenced .packetBuffer
  | 21 => s.isFenced .ingest
  | 23 => s.isFenced .hostIf
  | 24 => s.pwr.down.isSome
  | 25 => s.isFenced .sextant
  | 26 => s.isFenced .binnacle || s.raw Reg.snd_BNC_KAT_FAIL != 0
  | _ => decide (16 ≤ i) && decide (i < 20) && bit (i - 16) s.pwr.groups

/-- An island runs when its power domain is on and it is not held in reset (R98). -/
def State.islandRuns (s : State) (i : Nat) : Bool := s.domainOn (islandDomain i) && !s.islandHeld i

/-- The snapshot of a record: offset and value of each entry of list `l` (R591, R592), and whether one read as off. -/
def State.snapshot (s : State) (l : Nat) : List (Nat × Nat) × Bool :=
  if 64 ≤ l then ([], false)
  else
    let offs := ((List.range 24).map fun e => Tbl.look 0xFFFFFFFF s.log.lists (l * 24 + e)).takeWhile (· ≠ 0xFFFFFFFF)
    let vals := offs.map fun o => (o, if s.islandRuns (addrIsland o) then s.readWord o else 0xFFFFFFFF)
    (vals, offs.any fun o => !s.islandRuns (addrIsland o))

/-- The time fields and STX_STATE of a record made now (R587, R589). -/
def State.logStamp (s : State) (type source code info : Nat) : LogRec :=
  let st := s.raw Reg.stx_STATE
  { type := type, source := source, code := code, info := info, stxState := st,
    flags := b2n (st = 2 ∨ st = 3 ∨ st = 5),
    opSec := s.opTime / unitsSec, opMs := s.opTime % unitsSec / unitsMs, pcyc := s.raw Reg.pwr_PWR_CYCLES,
    tai := if s.domainOn 2 then s.tai else 0 }

/-- A record put into the queue, whose length QUEUED shows. -/
def State.logPush (s : State) (r : LogRec) : State :=
  let q := s.log.queue ++ [r]
  State.wr { s with log := { s.log with queue := q } } Reg.log_QUEUED 0 q.length

/-- Source 102, whose events the Logbook never records, pends with its code (R594); its message is made by `raise`. -/
def State.logDropMark (s : State) : State :=
  { s.count Reg.log_LOG_DROP with log := { s.log with lost := min 65535 (s.log.lost + 1) } }

/-- A record offered: queued, or dropped and counted when 256 wait (R594). -/
def State.logOffer (s : State) (r : LogRec) : State :=
  if s.log.queue.length < 256 then s.logPush r else s.logDropMark

/-- The trigger entry of a source: REC, LIST, CODE_M, LIST_M (R591). -/
def State.logTrigger (s : State) (src : Nat) : Nat × Nat × Nat × Nat :=
  let e := Tbl.look ([1, 0xFF, 0, 0, 0, 0, 0, 0] : Bytes) s.log.trigger src
  (le 0 1 e, le 1 1 e, le 2 2 e, le 4 1 e)

/-- An event offered to the Logbook under the trigger table and the rate limit (R591–R594). -/
def State.logEvent (s : State) (src code info : Nat) : State :=
  let (rec_, list, codeM, listM) := s.logTrigger src
  if src = 102 ∨ rec_ = 0 then s
  else
    let sec := s.opTime / unitsSec
    let (sec0, n0) := Tbl.look (0, 0) s.log.rate src
    let n := if sec0 = sec then n0 else 0
    if s.rd Reg.log_RATE_MAX ≤ n then s.count Reg.log_LOG_RATE_DROP
    else
      let s := { s with log := { s.log with rate := Tbl.put (0, 0) s.log.rate src (sec, n + 1) } }
      let (sn, trunc) := s.snapshot (if codeM ≠ 0 ∧ code = codeM then listM else list)
      let r := s.logStamp 1 src code info
      s.logOffer { r with snap := sn, flags := r.flags + 2 * b2n trunc }

/-! ### MSI-X messages (R114–R119) -/

/-- The function that holds an entry (R115). -/
def entryFn (e : Nat) : Nat := e / 2048

/-- The entry of slice `sl`, vector `v` (R114). -/
def sliceEntry (sl v : Nat) : Nat := 128 + 32 * sl + v

/-- A slice beside its registers. -/
def State.sli (s : State) (sl : Nat) : Slice := Tbl.look ({} : Slice) s.slices sl
def State.setSli (s : State) (sl : Nat) (x : Slice) : State :=
  { s with slices := Tbl.put ({} : Slice) s.slices sl x }

/-- The link a slice is bound to; LINK acts as host A while SPLIT is 0 (R389). -/
def State.sliceLink (s : State) (sl : Nat) : Nat := if s.raw Reg.hif_SPLIT = 0 then 0 else (s.sli sl).link

/-- A slice is bound: its state is not UNBOUND (R388). -/
def State.bound (s : State) (sl : Nat) : Bool := sl < 128 && s.raw Reg.slc_STATE sl != 0

/-- The function of an entry may send: bus mastering and MSI-X enabled, function not masked (R115). -/
def State.fnOpen (s : State) (link e : Nat) : Bool :=
  let f := Tbl.look ({} : MsixFn) s.hif.fn (link * 3 + entryFn e)
  f.busMaster && f.enable && !f.mask

/-- The message of an entry is sent, or its pending bit set while entry or function is masked. Answers whether it left. -/
def State.sendEntry (s : State) (link e : Nat) : State × Bool :=
  let en := Tbl.look ({} : MsixEntry) s.hif.msix (link * 4224 + e)
  if s.fnOpen link e && !en.masked then
    ({ s.emit (.msix link (entryFn e) en.addr en.data) with
        hif := { s.hif with pba := Tbl.put false s.hif.pba (link * 4224 + e) false } }, true)
  else ({ s with hif := { s.hif with pba := Tbl.put false s.hif.pba (link * 4224 + e) true } }, false)

/-- The links that ROUTE selects for a source (R111): host A alone while SPLIT is 0. -/
def State.routeLinks (s : State) (src : Nat) : List Nat :=
  if s.raw Reg.hif_SPLIT = 0 then [0]
  else match s.rd Reg.src_ROUTE src with
    | 0 => [0]
    | 1 => [1]
    | _ => [0, 1]

/-- The due messages of a source go to its links once MASK is 0; DELIV is set when one leaves (R117). -/
def State.sendSource (s : State) (src : Nat) : State :=
  if s.raw Reg.src_MASK src ≠ 0 then s
  else
    (s.routeLinks src).foldl (fun s l =>
      if Tbl.look false s.hif.due (l * 128 + src) then
        let s := { s with hif := { s.hif with due := Tbl.put false s.hif.due (l * 128 + src) false } }
        let (s, left) := s.sendEntry l src
        if left then s.wr Reg.src_DELIV src 1 else s
      else s) s

/-- A message of a source falls due on each routed link (R117). -/
def State.markDue (s : State) (src : Nat) : State :=
  (s.routeLinks src).foldl
    (fun s l => { s with hif := { s.hif with due := Tbl.put false s.hif.due (l * 128 + src) true } }) s

/-! ### Chartroom notices (R80) -/

/-- The header of a Chartroom message (R68). -/
def chartHeader (type session seq fleet flags len : Nat) : Bytes :=
  beBytes 2 0x4352 ++ beBytes 1 1 ++ beBytes 1 type ++ beBytes 4 session ++ beBytes 8 seq ++ beBytes 3 fleet
    ++ beBytes 1 flags ++ beBytes 2 len

/-- An encrypted message of a session leaves the module with the next SEQ of its direction (R68, R73). -/
def State.sendSession (s : State) (se : Session) (type : Nat) (body : Bytes) : State :=
  if s.flag Reg.snd_BNC_KAT_FAIL then s.count Reg.bnc_BNC_REFUSE else
  let seq := se.seqOut + 1
  let hd := chartHeader type se.id seq se.fleet 0 body.length
  let key := (Tbl.look ({} : KeySlot) s.bnc.slots se.slot).key.drop 36
  let ct := Config.gcmSeal (key.take 32) (key.drop 32 ++ beBytes 8 seq) hd body
  { s.emit (.chartroom se.ip (hd ++ ct)) with
    wh := { s.wh with sessions := s.wh.sessions.map fun (x : Session) => if x.id = se.id then { x with seqOut := seq } else x } }

/-- A NOTIFY to one session: it waits for its ACK and is sent at once (R80). -/
def State.notify (s : State) (id : Nat) (kind : Nat) (rest : Bytes) : State :=
  match s.wh.sessions.find? (fun x => x.id = id) with
  | none => s
  | some se =>
    let n := s.wh.noteSeq
    let body := beBytes 1 kind ++ beBytes 4 n ++ rest
    let note : Note := { id := n, body := body, last := s.mono }
    let s := { s with wh := { s.wh with
      noteSeq := (n + 1) % 2 ^ 32,
      sessions := s.wh.sessions.map fun (x : Session) => if x.id = id then { x with notes := x.notes ++ [note] } else x } }
    s.sendSession se 0x10 (beBytes 1 0x0A ++ beBytes 1 0 ++ beBytes 2 0 ++ body)

/-- NOTIFYs of an event, to every session whose subscription holds the source; the Slice role reads no device source
(R50, R80). -/
def State.notifyEvent (s : State) (src code : Nat) : State :=
  (s.wh.sessions.filter fun x => x.authed && x.role != 5 && bit src x.sources).foldl
    (fun s x => s.notify x.id 2 (beBytes 1 src ++ beBytes 2 code ++ time96 s.tai)) s

/-! ### Events (R112) -/

/-- The pending part of an event: PEND, CODE, INFO and LOST, and the message due (R112, R117). -/
def State.pendEvent (s : State) (src code info : Nat) : State :=
  if s.raw Reg.src_EN src = 0 ∨ s.raw Reg.src_PEND src ≠ 0 then
    s.wr Reg.src_LOST src (min 255 (s.raw Reg.src_LOST src + 1))
  else
    let s := (((s.wr Reg.src_PEND src 1).wr Reg.src_DELIV src 0).wr Reg.src_CODE src code).wr Reg.src_INFO src info
    (s.markDue src).sendSource src

/-- An event at a device source: pended with its message, notified to sessions, offered to the Logbook. A record that
the Logbook drops raises source 102 once after each record written (R594). -/
def State.raise (s : State) (src code info : Nat) : State :=
  let info := info % 2 ^ 32
  let l0 := s.log.lost
  let s := ((s.pendEvent src code info).notifyEvent src code).logEvent src code info
  if l0 < s.log.lost ∧ s.log.dropRaised = false then
    let s := { s with log := { s.log with dropRaised := true } }
    (s.pendEvent 102 0x0102 src).notifyEvent 102 0x0102
  else s

/-- A vector of a slice is set; its message is sent on the slice's link, or waits under its mask (R117, R120). -/
def State.raiseVector (s : State) (sl v : Nat) : State :=
  let p := s.raw Reg.vec_SLC_VEC_PEND sl
  if bit v p then s.count Reg.vec_SLC_VEC_LOST sl
  else
    let s := s.wr Reg.vec_SLC_VEC_PEND sl (setBit v p)
    if bit v (s.raw Reg.vec_SLC_VEC_MASK sl) then
      { s with hif := { s.hif with vecDue := Tbl.upd 0 s.hif.vecDue sl (setBit v) } }
    else (s.sendEntry (s.sliceLink sl) (sliceEntry sl v)).1

/-! ### Handles and completions (R39, R62) -/

/-- A handle: slice field, low byte of the generation, sequence (R39). -/
def handleOf (slice gen seq : Nat) : Nat := slice % 256 * 2 ^ 24 + gen % 256 * 2 ^ 16 + seq % 2 ^ 16

/-- A new handle for a requester: a slice's own operations carry the slice and its generation, the others 0xFF and 0. -/
def State.newHandle (s : State) (src : Requester) : Nat × State :=
  let (sl, gen, own) : Nat × Nat × Option Nat := match src with
    | .slice x => (x, s.raw Reg.slc_GEN x, some x)
    | _ => (0xFF, 0, none)
  let h := handleOf sl gen s.wh.handleSeq
  (h, { s with wh := { s.wh with
    handleSeq := (s.wh.handleSeq + 1) % 2 ^ 16,
    handles := s.wh.handles ++ [{ handle := h, src := src, slice := own }] } })

/-- Status codes of R81. -/
def stOK : Nat := 0x00
def stCLAMPED : Nat := 0x01
def stNO_OBJECT : Nat := 0x02
def stNO_SUBINDEX : Nat := 0x03
def stACCESS_DENIED : Nat := 0x04
def stTYPE_MISMATCH : Nat := 0x05
def stBAD_LENGTH : Nat := 0x06
def stREAD_ONLY : Nat := 0x07
def stLOCKED : Nat := 0x08
def stBUSY : Nat := 0x09
def stBAD_OFFSET : Nat := 0x0A
def stNO_TXN : Nat := 0x0B
def stTXN_BUSY : Nat := 0x0C
def stTXN_FULL : Nat := 0x0D
def stTXN_EXPIRED : Nat := 0x0E
def stREFUSED : Nat := 0x0F
def stUNKNOWN_OP : Nat := 0x10
def stAUTH_FAILED : Nat := 0x11
def stSESSION_LIMIT : Nat := 0x12
def stABORTED : Nat := 0x13
def stDOMAIN_FULL : Nat := 0x14

/-- The entry of a completion in the ring of R62. -/
def State.ringCompletion (s : State) (h status result : Nat) : State :=
  { s with wh := { s.wh with
    completions := Tbl.put ({} : ComplEntry) s.wh.completions s.wh.complNext
      { handle := h, status := status, result := result % 2 ^ 32, time := s.tai },
    complNext := (s.wh.complNext + 1) % 256 } }

/-- The completion event of a slice command: source 119 for host A's side, 120 for host B's (R393). -/
def sliceCmdSource (src : Requester) : Nat :=
  match src with
  | .block 1 => 120
  | .manager 1 => 120
  | _ => 119

/-- A handle completes: ring entry, NOTIFY to its session (R62, R80). A handle already completed is left alone. -/
def State.complete (s : State) (h status : Nat) (result : Nat := 0) : State :=
  match s.wh.handles.find? (fun o => o.handle = h) with
  | none => s
  | some o =>
    let s := { s with wh := { s.wh with
      handles := s.wh.handles.filter fun o => o.handle ≠ h, clamped := s.wh.clamped.filter (· ≠ h) } }
    let s := s.ringCompletion h status result
    match o.src with
    | .session id =>
      match s.wh.sessions.find? (fun x => x.id = id && x.completions) with
      | some _ => s.notify id 1 (beBytes 4 h ++ beBytes 1 status ++ beBytes 4 result ++ time96 s.tai)
      | none => s
    | _ => s

/-- A status counter 0x0201ii.ss increments (R81, R82). -/
def State.countStatus (s : State) (ii ss : Nat) : State :=
  { s with wh := { s.wh with counters := Tbl.upd 0 s.wh.counters (ii * 256 + ss) fun n => (n + 1) % 2 ^ 32 } }

/-! ### Domains (R79) -/

/-- A domain object by index and subindex. -/
def State.domain (s : State) (index sub : Nat) : Domain := Tbl.look ({} : Domain) s.wh.domains (index * 256 + sub)

/-- A domain object replaced. -/
def State.setDomain (s : State) (index sub : Nat) (d : Domain) : State :=
  { s with wh := { s.wh with domains := Tbl.put ({} : Domain) s.wh.domains (index * 256 + sub) d } }

/-- Bytes of a domain; bytes never written read 0. -/
def State.domBytes (s : State) (index off len : Nat) (sub : Nat := 0) : Bytes :=
  Memory.readBytes (s.domain index sub).bytes off len

/-- The claim of a domain released when a command consumes it (R79). -/
def State.releaseDomain (s : State) (index : Nat) (sub : Nat := 0) : State :=
  s.setDomain index sub { s.domain index sub with owner := none }

/-- A domain filled by the module with exactly these bytes (R79). -/
def State.fillDomain (s : State) (index : Nat) (bs : Bytes) (sub : Nat := 0) : State :=
  s.setDomain index sub { bytes := Memory.writeBytes [] 0 bs, len := bs.length, owner := (s.domain index sub).owner }

/-- An entry of the clamp report (R56). -/
def State.clampReport (s : State) (requester object written applied reason : Nat) : State :=
  { s with wh := { s.wh with
    clamps := Tbl.put ({} : ClampEntry) s.wh.clamps s.wh.clampNext
      { requester := requester, object := object, written := written, applied := applied, reason := reason,
        time := s.tai },
    clampNext := (s.wh.clampNext + 1) % 64,
    clamped := if s.wh.handles.any fun o => o.handle = requester then s.wh.clamped ++ [requester] else s.wh.clamped } }

/-- A NOTE record of the Logbook (R588, R593). -/
def State.logNote (s : State) (kind info : Nat) (aux : Nat := 0) : State :=
  s.logOffer { s.logStamp 4 0xFF kind info with aux := aux }

/-- A RESET record of the Logbook (R588, R593). -/
def State.logReset (s : State) (kind cause unit : Nat) : State :=
  s.logOffer (s.logStamp 2 0xFF kind (cause + unit * 256))

/-- A change has reached a stored object: the settings store will be written (R562). -/
def State.changed (s : State) : State :=
  if s.upd.dirty.isSome then s else { s with upd := { s.upd with dirty := some s.mono } }

/-! ### Port rates -/

/-- The port's state beside its registers. -/
def State.px (s : State) (p : Nat) : PortX := Tbl.look ({} : PortX) s.net.px p

/-- The port's state changed. -/
def State.setPx (s : State) (p : Nat) (x : PortX) : State :=
  { s with net := { s.net with px := Tbl.put ({} : PortX) s.net.px p x } }

/-- Rate of a switch port in Mbit/s; internal ports run at 100 Gbit/s (R151, R176, R643). -/
def State.portRate (s : State) (q : Nat) : Nat :=
  if 32 ≤ q then 100000
  else match s.raw Reg.prt_SPEED_ACT q, s.raw Reg.prt_LANE_MODE q with
    | 0, _ => 10
    | 1, _ => 100
    | 2, _ => 1000
    | _, 3 => 2500
    | _, 6 => 25000
    | _, _ => 10000

/-- Time of `n` bits at a port's rate, in units of 1/9 ns, rounded up. -/
def State.bitTime (s : State) (q n : Nat) : Nat := cdiv (n * 9000) (s.portRate q)

end Sys2Proof.Machine
end

