-- ==== Sys2Proof/Machine/FaultMap.lean ====
section
/-!
DEFINITION. The fault map of Sounding and the soft repair of memory rows (R576, R580).
-/

namespace Sys2Proof.Machine

/-- A record of the fault map as its 24 bytes (R580). -/
def FaultRec.bytes (r : FaultRec) : Bytes :=
  leBytes 1 r.block ++ leBytes 1 r.unit ++ leBytes 1 r.mem ++ leBytes 1 r.kind ++ leBytes 4 r.addr ++ leBytes 8 r.bits
    ++ leBytes 1 r.check ++ leBytes 1 r.repair ++ leBytes 2 r.count ++ leBytes 4 r.firstSeen

/-- The map replaced: its domain and MAP_COUNT follow (R580, R582). -/
def State.setMap (s : State) (m : List FaultRec) : State :=
  State.fillDomain (State.wr { s with snd := { s.snd with map := m } } Reg.snd_MAP_COUNT 0 m.length) 0x040C01
    ([0x53, 0x4E, 0x4D, 0x31] ++ leBytes 2 m.length ++ List.replicate 10 0 ++ m.flatMap FaultRec.bytes)

/-- One fault: block, unit, memory, kind and word address. -/
def FaultRec.same (a b : FaultRec) : Bool :=
  a.block = b.block && a.unit = b.unit && a.mem = b.mem && a.kind = b.kind && a.addr = b.addr

/-- A fault enters the map, or counts up the record that has it; beyond 256 records it is counted only. Answers the number of
its record (R580). -/
def State.mapFault (s : State) (r : FaultRec) : Option Nat × State :=
  let s := s.count Reg.snd_SND_HARD
  let r := { r with firstSeen := s.opTime / unitsSec % 2 ^ 32 }
  match (s.snd.map.zip (List.range 256)).find? fun x => x.1.same r with
  | some (_, k) =>
    (some k, s.setMap (s.snd.map.map fun (x : FaultRec) => if x.same r then { x with count := min 65535 (x.count + 1) } else x))
  | none => if s.snd.map.length < 256 then (some s.snd.map.length, s.setMap (s.snd.map ++ [r])) else (none, s)

/-- A hard fault of a memory word: its record, with code 0x0101 (R576, R580, R583). -/
def State.hardFault (s : State) (r : FaultRec) : Option Nat × State :=
  let (k, s) := s.mapFault r
  (k, match k with
    | some n => s.raise 105 0x0101 (r.block + n * 2 ^ 8)
    | none => s)

/-- A failed test of a unit: SND_FAIL, a record, and code 0x0100 (R578, R580, R583). -/
def State.testFailed (s : State) (block unit kind : Nat) : State :=
  let s := (s.count Reg.snd_SND_FAIL).mapFault { block := block, unit := unit, mem := 0xFF, kind := kind }
  s.2.raise 104 0x0100 (block + kind * 2 ^ 8 + unit * 2 ^ 16)

/-- REPAIR of a record of the map. -/
def State.markRepair (s : State) (k : Option Nat) (v : Nat) : State :=
  match k with
  | none => s
  | some n => s.setMap ((s.snd.map.zip (List.range 256)).map fun (x : FaultRec × Nat) => if x.2 = n then { x.1 with repair := v } else x.1)

/-- Memories with spare rows: 4 × tile + identifier, 256 scan memory, 257 the packet buffer (R289, R576). -/
def memScan : Nat := 256
def memPacket : Nat := 257

/-- Soft repair (R576): the row of 1 KiB that holds a word of 64 bits takes a spare row, while the memory has one of its 8.
Answers whether it had. -/
def State.softRepair (s : State) (mem word block : Nat) (k : Option Nat) : Bool × State :=
  let used := Tbl.look 0 s.snd.spares mem
  if 8 ≤ used then (false, s.markRepair k 2)
  else
    let s : State := { s with snd := { s.snd with
      spares := Tbl.put 0 s.snd.spares mem (used + 1), repaired := (mem, word / 128) :: s.snd.repaired } }
    (true, State.raise ((s.markRepair k 1).count Reg.snd_SND_REPAIR) 105 0x0102 (block + k.getD 0 * 2 ^ 8))

end Sys2Proof.Machine
end

