-- ==== Sys2Proof/Machine/HostIf.lean ====
section
/-!
DEFINITION. The host interface: register accesses, buffered writes and their boundaries, RZM-3200 mode, the
configuration checker, device event sources and MSI-X (chapter 03).
-/

namespace Sys2Proof

/-- Where an offset in BAR0 of function 1 or 2 lies in function 0's BAR0: its table, its pending bits, or reserved (R89,
R115). -/
def functionAddr (fn off : Nat) : Nat :=
  let entries := if fn = 1 then 2048 else 128
  if off < entries * 16 then 0x10000 + fn * 2048 * 16 + off
  else if 0x8000 ≤ off ∧ off < 0x8000 + entries / 8 then 0x21000 + fn * 256 + (off - 0x8000)
  else 0xF00000 + off

/-- The model address of an access: BAR0 offsets as they are, BAR2 behind them. -/
def Access.addr (a : Access) : Nat :=
  match a.bar with
  | 2 => 0x1000000 + a.off
  | 11 => functionAddr 1 a.off
  | 12 => functionAddr 2 a.off
  | _ => a.off

/-- Mailbox buffers and the MSI-X table take accesses of 1, 2 and 4 bytes beside 4 and 8 (R91). -/
def smallOk (ad : Nat) : Bool :=
  let buf := fun o => 0x400 ≤ o % 0x1000
  if ad < 0x1000000 then
    ((0xE000 ≤ ad && ad < 0x10000) && buf ad) || (0x10000 ≤ ad && ad < 0x20800)
  else
    let o := (ad - 0x1000000) % 0x10000
    (0xE000 ≤ o && o < 0xF000) && buf o

/-- Naturally aligned and of an allowed size (R91). -/
def Access.sizeOk (a : Access) : Bool :=
  (a.size = 4 || a.size = 8 || ((a.size = 1 || a.size = 2) && smallOk a.addr)) && a.off % a.size = 0

end Sys2Proof

namespace Sys2Proof.Machine

/-! ### Access errors (R91, R92, R95, R98) -/

/-- INFO of a host access event: the offset and the link (R113). -/
def accessInfo (a : Access) : Nat := a.off % 2 ^ 24 + a.link % 2 * 2 ^ 31

/-- A bad access is counted and raises source 118 (R91). -/
def State.badAccess (s : State) (a : Access) : State :=
  (s.count Reg.hif_HIF_BAD_ACCESS).raise 118 0x0005 (accessInfo a)

/-- An unmapped access is counted and raises nothing (R92). -/
def State.unmapped (s : State) : State := s.count Reg.hif_HIF_UNMAPPED

/-- An access to an island in reset is counted and raises source 118 (R98). -/
def State.xaccEnd (s : State) (a : Access) : State :=
  (s.count Reg.hif_HIF_XACC_TIMEOUT).raise 118 0x0004 (accessInfo a)

/-- An access to a slice window needs the slice bound to the access's link (R90). -/
def State.windowOk (s : State) (a : Access) : Bool :=
  a.bar ≠ 2 || (s.bound (a.off / 0x10000) && s.sliceLink (a.off / 0x10000) = a.link)

/-- A host link carries accesses once it has trained (R538). -/
def State.linkUp (s : State) (link : Nat) : Bool := bit link s.hif.trained

/-- The port group (A = 0) whose kept registers an address reads, if any (R169). -/
def portGroupOf (ad : Nat) : Option Nat :=
  if 0x100100 ≤ ad ∧ ad < 0x101100 then some (min 3 ((ad - 0x100100) / 0x80 / 8)) else none

/-- An access can be served: its island runs, or it reaches the kept registers of a port group in low power (R98,
R169). -/
def State.reach (s : State) (ad : Nat) : Bool :=
  s.islandRuns (addrIsland ad) ||
    match portGroupOf ad with
    | some g => bit g (s.raw Reg.prtg_GRP_LP)
    | none => false

/-! ### Buffered writes (R93–R95) -/

/-- PEND[b] shows that block b holds buffered writes (R109). -/
def State.syncPend (s : State) : State :=
  s.wr Reg.evt_PEND 0 (s.hif.shadow.foldl (fun m b => if b.blk < 19 then setBit b.blk m else m) 0)

/-- Block b applies no buffered write while HOLD[b] is 1 (R95). -/
def State.held (s : State) (b : Nat) : Bool := bit b (s.raw Reg.evt_HOLD)

/-- A Frame-boundary write of one port finds its direction idle, and the port's group is not in low power, where writes
wait for its power-up (R93, R169, R640). -/
def State.frameIdle (s : State) (owner : Nat) : Bool :=
  !s.txBusy owner && !(decide (owner < 32) && bit (owner / 8) (s.raw Reg.prtg_GRP_LP))

/-- A buffered write applied to its field. -/
def State.applyOne (s : State) (b : Buffered) : State :=
  { s with regs := Tbl.put (BitVec.ofNat 32 b.reset) s.regs b.key (BitVec.ofNat 32 (b.val % 2 ^ b.wid)) }

/-- Reference writes that waited for their block's earlier writes apply with the last of these (R107). -/
def State.applyRefs (s : State) : State :=
  let ready := fun (b : Buffered) => decide (b.bnd = .cfgRef) && decide (b.owner < 19) && !s.held 16 &&
    !((s.hif.shadow.takeWhile (· ≠ b)).any fun x => x.blk = b.owner && decide (x.bnd ≠ .cfgRef))
  let s' := (s.hif.shadow.filter ready).foldl State.applyOne s
  { s' with hif := { s'.hif with shadow := s.hif.shadow.filter fun b => !ready b } }

/-- A commit still has writes that no block has applied: in a shadow, in a grant table, or in a change of the epoch
tables that is not current (R60, R65). -/
def State.txnPending (s : State) (h : Nat) : Bool :=
  (s.hif.shadow.any fun b => b.txn = some h) || s.slices.any (fun e => e.2.grantPend.any fun g => g.2.2.2 = h)
    || (s.wh.peerWrites.any fun w => w.txn = some h) || (s.net.changes.any fun c => c.txns.contains h)
    || ((s.net.epochs.dropWhile fun e => e.num ≠ s.raw Reg.swc_CLS_EPOCH).drop 1).any fun e => e.txns.contains h

/-- Handles of commits whose last buffered write has been applied complete with the configuration CRC, CLAMPED when a
write of the commit was clamped (R60, R641). `done` lists the handles that lost a write at this boundary. -/
def State.finishTxns (s : State) (done : List (Option Nat)) : State :=
  (done.eraseDups).foldl (fun s h =>
    match h with
    | none => s
    | some h =>
      if s.txnPending h then s
      else s.complete h (if s.wh.clamped.contains h then stCLAMPED else stOK) s.cfgAllNow) s

/-- At a boundary every block not on hold applies its buffered writes of the boundary's kind and owner, in one cycle
(R94, R95); then reference writes and commit handles follow. -/
def State.applyBoundary (s : State) (p : Buffered → Bool) : State :=
  let go := fun (b : Buffered) => p b && !s.held b.blk
  let due := s.hif.shadow.filter go
  let s' := due.foldl State.applyOne s
  let s' := { s' with hif := { s'.hif with shadow := s.hif.shadow.filter fun b => !go b } }
  ((s'.applyRefs).syncPend).finishTxns (due.map (·.txn))

/-- The owner that a Sample, Cycle or Frame boundary of a field belongs to: the instance (slot, port); 0 for the rest. -/
def boundaryOwner (f : Fld) (i : Nat) : Nat := match f.bnd with
  | .frame => i
  | .sample => i
  | _ => 0

/-- A write put into the shadow of its block. A 257th distinct register is dropped and reported (R95). A field whose
Frame boundary finds its direction idle, and FLOOD_LO and FLOOD_HOST, take the value at once (R93, R640). -/
def State.buffer (s : State) (f : Fld) (i : Nat) (v : Nat) (info : Nat) (txn : Option Nat := none) (who : Nat := 0) : State :=
  let e : Buffered := { blk := f.blk, addr := f.addr i, key := f.key i, wid := f.wid, reset := f.reset, bnd := f.bnd,
                        owner := boundaryOwner f i, val := v % 2 ^ f.wid, txn := txn, who := txn.getD who }
  let atOnce := decide (f.bnd = .frame) &&
    (f.blk = 1 && f.base < 0x180400 || f.base = Reg.prtg_M_EN.base || s.frameIdle i) && !s.held f.blk
  if atOnce then
    let old := s.hif.shadow.filter fun b => b.key = e.key
    if old.isEmpty then s.applyOne e
    else
      let s := (s.applyOne e)
      let s := { s with hif := { s.hif with shadow := s.hif.shadow.filter fun b => b.key ≠ e.key } }
      (s.syncPend).finishTxns ((old.map (·.txn)).filter (· ≠ txn))
  else
    let mine := s.hif.shadow.filter fun b => b.blk = f.blk
    let addrs := (mine.map (·.addr)).eraseDups
    if !(addrs.contains e.addr) && 256 ≤ addrs.length then
      (s.count Reg.hif_HIF_SHADOW_FULL).raise 118 0x0009 info
    else
      let old := s.hif.shadow.filter fun b => b.key = e.key
      let q := if old.isEmpty then s.hif.shadow ++ [e] else s.hif.shadow.map fun (b : Buffered) => if b.key = e.key then e else b
      let s := { s with hif := { s.hif with shadow := q } }
      (s.syncPend).finishTxns ((old.map (·.txn)).filter (· ≠ txn))

/-- A write of a reference CRC: it waits for the writes its block holds now, or else for the next Window (R107). -/
def State.bufferRef (s : State) (b v : Nat) : State :=
  let waits := s.hif.shadow.any fun x => x.blk = b && decide (x.bnd ≠ .cfgRef)
  let f := Reg.evt_EVT_CFG_REF
  let e : Buffered := { blk := 16, addr := f.addr b, key := f.key b, wid := 32, reset := 0,
                        bnd := if waits then .cfgRef else .window, owner := if waits then b else 19,
                        val := v % 2 ^ 32, txn := none }
  let rest := s.hif.shadow.filter fun x => x.key ≠ e.key
  State.syncPend { s with hif := { s.hif with shadow := rest ++ [e] } }

/-! ### A write that has landed -/

/-- Fields of a bobbin that are written only while EN is 0 (R414). -/
def State.bobbinLocked (s : State) (f : Fld) (i : Nat) : Bool :=
  (f.base = Reg.bob_KIND.base || f.base = Reg.bob_SQ_BASE_LO.base || f.base = Reg.bob_SQ_BASE_HI.base
    || f.base = Reg.bob_CQ_BASE_LO.base || f.base = Reg.bob_CQ_BASE_HI.base) && s.flag Reg.bob_EN i

/-- The value of a field inside a written word. -/
def Fld.cut (f : Fld) (word : Nat) : Nat := word / 2 ^ f.lo % 2 ^ f.wid

/-- One field written under its access code (R13). Fields with a command of their own are left alone. -/
def State.writeField (s : State) (f : Fld) (i : Nat) (v : Nat) (info : Nat) (txn : Option Nat := none) : State :=
  if f.own then s
  else
    let keep := match f.clamp with
      | .keepAbove m => decide (m < v)
      | _ => false
    if keep then s
    else match f.acc with
      | .rw => if s.bobbinLocked f i then s
               else if f.base = Reg.bob_SQ_BASE_LO.base ∨ f.base = Reg.bob_CQ_BASE_LO.base then s.wr f i (v / 64 * 64)
               else s.wr f i v
      | .rwb => s.buffer f i v info txn
      | .w1c => s.wr f i (s.raw f i - (s.raw f i &&& v))
      | _ => s

/-- The MSI-X table entry an address lies in: entry and byte offset (R89, R115). -/
def msixAt (ad : Nat) : Option (Nat × Nat) :=
  if 0x10000 ≤ ad ∧ ad < 0x20800 then some ((ad - 0x10000) / 16, (ad - 0x10000) % 16) else none

/-- The entries of a slice are live only on the slice's link; elsewhere writes have no effect (R116). -/
def State.entryLive (s : State) (link e : Nat) : Bool :=
  e < 128 || (s.bound ((e - 128) / 32) && s.sliceLink ((e - 128) / 32) = link)

/-- Bytes written into an MSI-X entry; setting its mask bit masks it, and unmasking is MSIX_UNMASK. -/
def State.writeMsix (s : State) (link e off size v : Nat) : State :=
  if !s.entryLive link e then s
  else
    let en := Tbl.look ({} : MsixEntry) s.hif.msix (link * 4224 + e)
    let old := leBytes 8 en.addr ++ leBytes 4 en.data ++ leBytes 4 (b2n en.masked)
    let new := old.take off ++ leBytes size v ++ old.drop (off + size)
    let en' : MsixEntry := { addr := le 0 8 new, data := le 8 4 new, masked := en.masked || bit 0 (le 12 4 new) }
    { s with hif := { s.hif with msix := Tbl.put ({} : MsixEntry) s.hif.msix (link * 4224 + e) en' } }

/-- The mailbox that holds an address: whether it lies in the request buffer, the response buffer or the registers. -/
def mailboxOffset (ad : Nat) : Option Nat :=
  if 0xE000 ≤ ad ∧ ad < 0x10000 then some (ad % 0x1000)
  else if 0x1000000 ≤ ad ∧ 0xE000 ≤ (ad - 0x1000000) % 0x10000 ∧ (ad - 0x1000000) % 0x10000 < 0xF000 then some (ad % 0x1000)
  else none

/-- A command block submits an operation that is none: it is refused with BAD_OP (R394). -/
def State.badOp (s : State) (l v : Nat) : State :=
  let op := bits 11 8 v
  if bit 16 v && (op = 0 || 8 < op) then
    ((s.wr Reg.cmdb_ACCEPTED l 0).wr Reg.cmdb_REASON l 0x0A).count Reg.slcg_SLC_CMD_REFUSE
  else s

/-- A write of up to 4 bytes lands at an address: mailbox buffer, MSI-X table or register (R86, R89, R92). The BNC_ area
is read-only through BAR0 (R524). -/
def State.land4 (s : State) (a : Access) (ad size v : Nat) : State :=
  match mailboxOffset ad, msixAt ad with
  | some o, _ =>
    if 0x400 ≤ o ∧ o < 0xA00 then
      { s with wh := { s.wh with buffers := Memory.writeBytes s.wh.buffers ad (leBytes size v) } }
    else if 0xA00 ≤ o then s
    else match Reg.fieldsAt ad with
      | [] => s.unmapped
      | fs => fs.foldl (fun s fi => s.writeField fi.1 fi.2 (fi.1.cut v) (accessInfo a)) s
  | none, some (e, off) => s.writeMsix a.link e off size v
  | none, none =>
    if 0x680000 ≤ ad ∧ ad < 0x700000 then s.unmapped
    else match Reg.fieldsAt ad with
      | [] => s.unmapped
      | fs =>
        let s := fs.foldl (fun s fi => s.writeField fi.1 fi.2 (fi.1.cut v) (accessInfo a)) s
        if ad = 0x40000 ∨ ad = 0x40040 then s.badOp ((ad - 0x40000) / 0x40) v else s

/-- A write lands: 64 bits act as two accesses, lower offset first (R91). -/
def State.landWrite (s : State) (a : Access) (v : Nat) : State :=
  if a.size = 8 then (s.land4 a a.addr 4 (v % 2 ^ 32)).land4 a (a.addr + 4) 4 (v / 2 ^ 32 % 2 ^ 32)
  else s.land4 a a.addr a.size (v % 2 ^ (8 * a.size))

/-- Is the address outside the host-interface island, so that RZM-3200 mode posts a write to it (R99)? -/
def postable (ad : Nat) : Bool := addrIsland ad != 23 && ad < 0x1000000

/-- The posted write of a link. -/
def State.posted (s : State) (link : Nat) : Option (Nat × Nat) := if link = 0 then s.hif.postedA else s.hif.postedB

/-- BUSY of a link (R101). -/
def busyFld (link : Nat) : Fld := if link = 0 then Reg.hif_BUSY_A else Reg.hif_BUSY_B

/-- A posted write taken into the link's buffer, with BUSY set (R99). -/
def State.post (s : State) (link ad v : Nat) : State :=
  let s := s.wr (busyFld link) 0 1
  { s with hif := if link = 0 then { s.hif with postedA := some (ad, v) } else { s.hif with postedB := some (ad, v) } }

/-- The posted write of a link lands at its island and BUSY clears; an island in reset drops it (R98, R99). -/
def State.landPosted (s : State) (link : Nat) : State :=
  match s.posted link with
  | none => s
  | some (ad, v) =>
    let a : Access := { link := link, bar := 0, off := ad, size := 4 }
    let s := s.wr (busyFld link) 0 0
    let s := { s with hif := if link = 0 then { s.hif with postedA := none } else { s.hif with postedB := none } }
    if s.reach ad then s.land4 a ad 4 v else s.xaccEnd a

/-- One write of at most 32 bits from a link whose access is well formed: posted in RZM-3200 mode (R99, R100), else
landed, or ended when its island does not run (R98). -/
def State.write1 (s : State) (a : Access) (ad size v : Nat) : State :=
  if bit a.link s.hif.compat && postable ad then
    match s.posted a.link with
    | some _ =>
      (s.count (if a.link = 0 then Reg.hif_HIF_COMPAT_DROP_A else Reg.hif_HIF_COMPAT_DROP_B)).raise 118 0x0008 (accessInfo a)
    | none => s.post a.link ad v
  else if s.reach ad then s.land4 a ad size v
  else s.xaccEnd a

/-- A write from a host link, with its checks (R90–R92, R98–R100). -/
def State.hostWriteAccess (s : State) (a : Access) (v : Nat) : State :=
  if !s.linkUp a.link then s
  else if !a.sizeOk then s.badAccess a
  else if !s.windowOk a then s.unmapped
  else if a.size = 8 then (s.write1 a a.addr 4 (v % 2 ^ 32)).write1 a (a.addr + 4) 4 (v / 2 ^ 32 % 2 ^ 32)
  else s.write1 a a.addr a.size (v % 2 ^ (8 * a.size))

/-! ### Reads -/

/-- A read clears an RC field; the low half of a 64-bit counter also latches the high half (R13, R176). -/
def State.clearOnRead (s : State) (f : Fld) (i : Nat) : State :=
  let c64 := fun (s : State) (hi up : Fld) => ((s.wr hi i (s.raw up i)).wr f i 0).wr up i 0
  if f.acc ≠ .rc then s
  else if f = Reg.prt_RX_FRAMES_LO then c64 s Reg.prt_RX_FRAMES_HI Reg.prt_RX_FRAMES_UP
  else if f = Reg.prt_RX_BYTES_LO then c64 s Reg.prt_RX_BYTES_HI Reg.prt_RX_BYTES_UP
  else if f = Reg.prt_TX_FRAMES_LO then c64 s Reg.prt_TX_FRAMES_HI Reg.prt_TX_FRAMES_UP
  else if f = Reg.prt_TX_BYTES_LO then c64 s Reg.prt_TX_BYTES_HI Reg.prt_TX_BYTES_UP
  else s.wr f i 0

/-- The value of a 32-bit read at an address, and the state after its side effects: a mailbox buffer, an MSI-X entry or
pending array, or a register (R86, R89, R13). -/
def State.readLand (s : State) (a : Access) (ad : Nat) : Nat × State :=
  match mailboxOffset ad, msixAt ad with
  | some o, m =>
    if 0x400 ≤ o ∧ m = none then (ofLe (Memory.readBytes s.wh.buffers ad 4), s)
    else
      match Reg.fieldsAt ad with
      | [] => (0, s.unmapped)
      | fs => (s.readWord ad, fs.foldl (fun s fi => s.clearOnRead fi.1 fi.2) s)
  | none, some (e, off) =>
    let en := Tbl.look ({} : MsixEntry) s.hif.msix (a.link * 4224 + e)
    let bs := leBytes 8 en.addr ++ leBytes 4 en.data ++ leBytes 4 (b2n en.masked)
    (le off 4 bs, s)
  | none, none =>
    if 0x21000 ≤ ad ∧ ad < 0x21210 then
      let base := (ad - 0x21000) / 4 * 32
      (((List.range 32).map fun k => b2n (Tbl.look false s.hif.pba (a.link * 4224 + base + k)) * 2 ^ k).sum, s)
    else match s.sliceView ad, Reg.fieldsAt ad with
      | some v, _ => (v, s)
      | none, [] => (0, s.unmapped)
      | none, fs => (s.readWord ad, fs.foldl (fun s fi => s.clearOnRead fi.1 fi.2) s)

/-- Status registers that follow time are brought up to the moment of a read: PAUSE_LEFT (R162), STX_DISC_SEC while
LOCKED, STX_DR_SEC in dead reckoning (R146). -/
def State.refresh (s : State) (ad : Nat) : State :=
  let st := s.raw Reg.stx_STATE
  if ad = Reg.stx_STX_DISC_SEC.base then
    if st = 2 then s.wr Reg.stx_STX_DISC_SEC 0 ((s.mono - s.stx.lockedAt) / unitsSec) else s
  else if ad = Reg.stx_STX_DR_SEC.base then
    if st = 3 ∨ st = 4 then s.wr Reg.stx_STX_DR_SEC 0 ((s.mono - s.stx.drAt) / unitsSec) else s
  else match Reg.prt_PAUSE_LEFT.at? ad with
    | some p => if s.flag Reg.prt_PAUSED p then s.wr Reg.prt_PAUSE_LEFT p (cdiv ((s.px p).pauseEnd - s.mono) (s.bitTime p 512)) else s
    | none => s

/-- A read of an ADC result word latches its time word, and the next read of the time word returns what was latched
(R488). -/
def State.adcRead (s : State) (ad v : Nat) : Nat × State :=
  let isRes := (Reg.adcch_CH_RES.at? ad).isSome || (Reg.adcrq_REQ_RES.at? ad).isSome
  if isRes then (v, { s with adc := { s.adc with latch := Tbl.ins (some (s.readWord (ad + 4))) s.adc.latch (ad + 4) } })
  else match Tbl.look none s.adc.latch ad with
    | some w => (w, { s with adc := { s.adc with latch := Tbl.drop s.adc.latch ad } })
    | none => (v, s)

/-- One read of 32 bits from a link: it waits for the link's posted write, but for HIF_COMPAT_STAT, and reads all ones from
an island that does not run (R97–R100). -/
def State.read1 (s : State) (a : Access) (ad : Nat) : Nat × State :=
  let s := if ad = 0x14 then s else s.landPosted a.link
  if s.reach ad then
    let (v, s) := (s.refresh ad).readLand a ad
    s.adcRead ad v
  else (0xFFFFFFFF, s.xaccEnd a)

/-- A read from a host link, its data shown on the link (R91, R92, R97). -/
def State.hostReadAccess (s : State) (a : Access) : State :=
  if !s.linkUp a.link then s
  else if !a.sizeOk then (s.badAccess a).emit (.readData a.link a.addr 0)
  else if !s.windowOk a then s.unmapped.emit (.readData a.link a.addr 0)
  else
    let (lo, s) := s.read1 a a.addr
    if a.size = 8 then
      let (hi, s) := s.read1 a (a.addr + 4)
      s.emit (.readData a.link a.addr (lo + hi * 2 ^ 32))
    else s.emit (.readData a.link a.addr (lo % 2 ^ (8 * a.size)))

/-! ### Commands -/

/-- REGISTER_WRITE (R13, R91–R95, R100). -/
def execRegisterWrite (a : Access) (v : Nat) (s : State) : Host.Outcome State Fault Refusal :=
  .next (s.hostWriteAccess a v)

/-- RC_COUNTER_READ (R13, R102). -/
def execRcCounterRead (a : Access) (s : State) : Host.Outcome State Fault Refusal := .next (s.hostReadAccess a)

/-- COUNTER64_READ (R176): the _LO read returns [31:0], latches [63:32] into _HI and clears the counter. -/
def execCounter64Read (a : Access) (s : State) : Host.Outcome State Fault Refusal :=
  .next (s.hostReadAccess { a with size := 4 })

/-- XACC_TIMEOUT (R98). -/
def execXaccTimeout (a : Access) (read : Bool) (s : State) : Host.Outcome State Fault Refusal :=
  let s := s.xaccEnd a
  .next (if read then s.emit (.readData a.link a.addr 0xFFFFFFFF) else s)

/-- COMPAT_WRITE (R99): the bits wait for the Link idle boundary; a read returns the value last written at once. -/
def execCompatWrite (a : Access) (v : Nat) (s : State) : Host.Outcome State Fault Refusal :=
  .next (if !s.linkUp a.link then s
    else (s.buffer Reg.hif_COMPAT_A 0 (bits 0 0 v) (accessInfo a)).buffer Reg.hif_COMPAT_B 0 (bits 1 1 v) (accessInfo a))

/-- COMPAT_MODE_SWITCH (R93, R99): the link's queue is empty, its posted write has landed, and its mode follows its
COMPAT bit. -/
def execCompatModeSwitch (link : Nat) (s : State) : Host.Outcome State Fault Refusal :=
  let f := if link = 0 then Reg.hif_COMPAT_A else Reg.hif_COMPAT_B
  let s := s.landPosted link
  let s := s.applyBoundary fun b => decide (b.bnd = .linkIdle) && b.key = f.key 0
  .next { s with hif := { s.hif with compat := putBit link (s.flag f) s.hif.compat } }

/-- POSTED_WRITE_LAND (R99). -/
def execPostedWriteLand (link : Nat) (s : State) : Host.Outcome State Fault Refusal := .next (s.landPosted link)

/-- CFG_HOLD_WRITE (R95). -/
def execCfgHoldWrite (a : Access) (v : Nat) (s : State) : Host.Outcome State Fault Refusal :=
  .next (if s.linkUp a.link then s.wr Reg.evt_HOLD 0 v else s)

/-- CFG_REF_WRITE (R107). -/
def execCfgRefWrite (a : Access) (v : Nat) (s : State) : Host.Outcome State Fault Refusal :=
  .next (if !s.linkUp a.link then s
    else match Reg.evt_EVT_CFG_REF.at? a.addr with
      | some b => s.bufferRef b v
      | none => s.unmapped)

/-- CFG_CHECK_PASS (R108): one complete pass over block b. -/
def execCfgCheckPass (b : Nat) (s : State) : Host.Outcome State Fault Refusal :=
  .next (if 19 ≤ b || !bit b (s.raw Reg.evt_CHK_EN) then s
    else
      let s := s.wr Reg.evt_EVT_CFG_LIVE b (s.cfgCrc b)
      let s := s.wr Reg.evt_EVT_CFG_ALL 0 (crcOfBlocks ((List.range 19).map fun k => s.raw Reg.evt_EVT_CFG_LIVE k))
      let bad := bit b (s.raw Reg.evt_BAD)
      if s.raw Reg.evt_EVT_CFG_LIVE b ≠ s.raw Reg.evt_EVT_CFG_REF b then
        let s := s.count Reg.evt_EVT_CFG_MISMATCH b
        if bad then s else (s.wr Reg.evt_BAD 0 (setBit b (s.raw Reg.evt_BAD))).raise 110 0x000C b
      else if bad then (s.wr Reg.evt_BAD 0 (clearBit b (s.raw Reg.evt_BAD))).raise 110 0x000D b
      else s)

/-- The clear of a source: PEND, DELIV and LOST, and the message no longer due (R112, R117). -/
def State.clearSource (s : State) (n : Nat) : State :=
  let s := ((s.wr Reg.src_PEND n 0).wr Reg.src_DELIV n 0).wr Reg.src_LOST n 0
  { s with hif := { s.hif with due := Tbl.put false (Tbl.put false s.hif.due n false) (128 + n) false } }

/-- EVENT_PEND_CLEAR (R112, R121): an event of the same cycle stands as one new pending event. -/
def execEventPendClear (n : Nat) (event : Option (Nat × Nat)) (s : State) : Host.Outcome State Fault Refusal :=
  let s := s.clearSource n
  .next (match event with
    | none => s
    | some (code, info) => s.raise n code info)

/-- EVENT_MASK_WRITE (R117): clearing MASK while the source pends sends the waiting message. -/
def execEventMaskWrite (n : Nat) (mask : Bool) (s : State) : Host.Outcome State Fault Refusal :=
  .next ((s.wrFlag Reg.src_MASK n mask).sendSource n)

/-- The message of an entry leaves if its pending bit is set; a device source then shows DELIV while it pends. -/
def State.sendPending (s : State) (link e : Nat) : State :=
  if Tbl.look false s.hif.pba (link * 4224 + e) then
    let (s, left) := s.sendEntry link e
    if left && e < 128 && s.flag Reg.src_PEND e then s.wr Reg.src_DELIV e 1 else s
  else s

/-- MSIX_UNMASK (R115, R117): an entry is unmasked, or a function is enabled and unmasked; held messages leave. -/
def execMsixUnmask (link fn : Nat) (entry : Option Nat) (s : State) : Host.Outcome State Fault Refusal :=
  .next (match entry with
    | some e =>
      if !s.entryLive link e then s
      else
        let en := Tbl.look ({} : MsixEntry) s.hif.msix (link * 4224 + e)
        let s := { s with hif := { s.hif with
          msix := Tbl.put ({} : MsixEntry) s.hif.msix (link * 4224 + e) { en with masked := false } } }
        s.sendPending link e
    | none =>
      let s := { s with hif := { s.hif with
        fn := Tbl.put ({} : MsixFn) s.hif.fn (link * 3 + fn) { busMaster := true, enable := true, mask := false } } }
      let held := (s.hif.pba.map (·.1)).filter fun k => k / 4224 = link && entryFn (k % 4224) = fn
      held.foldl (fun s k => s.sendPending link (k % 4224)) s)

/-- The slice whose window an access reaches, none when the access is not allowed (R90). -/
def State.windowSlice (s : State) (a : Access) : Option Nat :=
  if s.linkUp a.link && a.bar = 2 && s.windowOk a then some (a.off / 0x10000) else none

/-- SLC_VEC_MASK_WRITE (R117, R120): vectors that become unmasked send the messages still due. -/
def execSlcVecMaskWrite (a : Access) (v : Nat) (s : State) : Host.Outcome State Fault Refusal :=
  .next (match s.windowSlice a with
    | none => s.unmapped
    | some sl =>
      let s := s.wr Reg.vec_SLC_VEC_MASK sl v
      (List.range 32).foldl (fun s k =>
        if bit k (Tbl.look 0 s.hif.vecDue sl) && !bit k v then
          let s := { s with hif := { s.hif with vecDue := Tbl.upd 0 s.hif.vecDue sl (clearBit k) } }
          (s.sendEntry (s.sliceLink sl) (sliceEntry sl k)).1
        else s) s)

/-- SLC_VEC_PEND_CLEAR (R102, R120): a hardware set of the same cycle wins and is one new event. -/
def execSlcVecPendClear (a : Access) (v sets : Nat) (s : State) : Host.Outcome State Fault Refusal :=
  .next (match s.windowSlice a with
    | none => s.unmapped
    | some sl =>
      let p := s.raw Reg.vec_SLC_VEC_PEND sl
      let s := s.wr Reg.vec_SLC_VEC_PEND sl (p - (p &&& v))
      let s := { s with hif := { s.hif with vecDue := Tbl.upd 0 s.hif.vecDue sl fun d => d - (d &&& v) } }
      (List.range 32).foldl (fun s k => if bit k sets then s.raiseVector sl k else s) s)

end Sys2Proof.Machine
end

