-- ==== Sys2Proof/Machine/Adc.lean ====
section
/-!
DEFINITION. The supervision ADC and the fan outputs whose edges trigger it (chapter 16, R622).
-/

namespace Sys2Proof.Machine

/-- The converter's state changed. -/
def State.setAdc (s : State) (a : Adc) : State := { s with adc := a }

/-- TESTING shows a Sounding step in progress. -/
def State.syncTest (s : State) : State := s.wrFlag Reg.adc_TESTING 0 s.adc.test.isSome

/-- SRC of a request; 7 acts as 0 (R485). -/
def State.adcSrc (s : State) (r : Nat) : Nat := let v := s.raw Reg.adcrq_SRC r; if v = 7 then 0 else v

/-- DELAY of a request in units of 1/9 ns. -/
def State.adcDelay (s : State) (r : Nat) : Nat := s.raw Reg.adcrq_DELAY r * 10 * unitsNs

/-- A conversion starts now (R485–R487): one sampled after its due instant carries LATE. -/
def State.adcBegin (s : State) (w : AdcWait) : State :=
  let late := decide (w.due < s.mono)
  let s := s.setAdc { s.adc with
    waiting := s.adc.waiting.filter fun x => x.req ≠ w.req, last := s.mono,
    conv := some { req := w.req, chan := w.chan, sampled := s.mono, late := late, wake := w.wake } }
  let s := s.wr Reg.adcrq_START w.req 0
  if late then s.count Reg.adc_ADC_LATE else s

/-- The waiting request with the lowest number. -/
def firstWait : List AdcWait → Option AdcWait
  | [] => none
  | w :: ws => match firstWait ws with
    | some x => if x.req < w.req then some x else some w
    | none => some w

/-- A free converter takes the waiting request with the lowest number (R486). -/
def State.adcNext (s : State) : State :=
  if s.adc.conv.isSome || !s.flag Reg.adc_AWAKE then s
  else match firstWait s.adc.waiting with
    | some w => s.adcBegin w
    | none => s

/-- A request falls due at this moment (R485–R487, R490): a Sounding step is aborted, a second due instant replaces the
first, and a converter that is down starts up. A timer request finds it started up. -/
def State.adcDue (s : State) (r chan : Nat) (timer : Bool) : State :=
  let s := if s.adc.test.isSome then
      State.count (State.syncTest (s.setAdc { s.adc with test := none })) Reg.adc_ADC_TEST_ABORT else s
  if s.adc.waiting.any fun w => w.req = r then
    State.count (s.setAdc { s.adc with waiting := s.adc.waiting.map fun (w : AdcWait) =>
      if w.req = r then { w with due := s.mono } else w }) Reg.adc_ADC_MISS
  else
    let down := !s.flag Reg.adc_AWAKE && !timer
    let s := if timer && !s.flag Reg.adc_AWAKE then (s.wr Reg.adc_AWAKE 0 1).setAdc { s.adc with wakeAt := none } else s
    let s := s.setAdc { s.adc with
      waiting := s.adc.waiting ++ [{ req := r, chan := chan, due := s.mono, wake := down }],
      wakeAt := if down then s.adc.wakeAt.or (some (s.mono + 20 * unitsUs)) else s.adc.wakeAt }
    s.adcNext

/-- The timer of a request triggers at a TAI instant: the nanoseconds within the second are a multiple of its period
(R485). -/
def State.timerTick (s : State) (r tai : Nat) : Bool :=
  tai % unitsNs = 0 && tai % unitsSec / unitsNs % (s.rd Reg.adcrq_PERIOD r * 1000) = 0

/-- ADC_REQUEST_DUE (R485): a timer request at instant t, or the oldest due instant that a trigger has set for request
r. -/
def execAdcRequestDue (r t : Nat) (s : State) : Host.Outcome State Fault Refusal :=
  .next (
    if s.adcSrc r = 1 then
      if s.timerTick r (s.taiOf (t - s.adcDelay r)) && s.adcDelay r ≤ t && s.mono ≤ t then
        (s.advance t).adcDue r (s.raw Reg.adcrq_CHAN r) true
      else s
    else match s.adc.armed.find? fun a => a.1 = r with
      | none => s
      | some a =>
        let s := s.advance a.2.2
        (s.setAdc { s.adc with armed := s.adc.armed.erase a }).adcDue r a.2.1 false)

/-- The due instant of a request is set from its trigger instant (R485). -/
def State.adcArm (s : State) (r t : Nat) : State :=
  s.setAdc { s.adc with armed := s.adc.armed ++ [(r, s.raw Reg.adcrq_CHAN r, t + s.adcDelay r)] }

/-- ADC_START (R485): a write of 1 to START triggers a request whose SRC is software. -/
def execAdcStart (r : Nat) (s : State) : Host.Outcome State Fault Refusal :=
  .next (
    if s.adcSrc r ≠ 6 then s
    else
      let s := s.wr Reg.adcrq_START r 1
      if s.adcDelay r = 0 then s.adcDue r (s.raw Reg.adcrq_CHAN r) false else s.adcArm r s.mono)

/-- The time word of a sampling instant (R488). -/
def timeWord (tai : Nat) : Nat := tai % unitsSec / unitsNs + tai / unitsSec % 4 * 2 ^ 30

/-- A result word (R488). -/
def resultWord (code : Nat) (ovr settle late wake : Bool) (chan req : Nat) (test : Bool) (seq : Nat) : Nat :=
  code + b2n ovr * 2 ^ 16 + b2n settle * 2 ^ 17 + b2n late * 2 ^ 18 + b2n wake * 2 ^ 19 + chan * 2 ^ 20 + req * 2 ^ 24
    + b2n test * 2 ^ 27 + seq * 2 ^ 28

/-- A conversion sampled at a MONO instant carries SETTLE (R484, R489). -/
def State.settling (s : State) (sampled : Nat) : Bool :=
  s.flag Reg.adc_REF_FAIL || match s.adc.ovrAt with
    | some t => decide (sampled < t + 4 * unitsUs)
    | none => false

/-- A channel overranged (R482). -/
def State.overrange (s : State) (c code : Nat) : State :=
  let sticky := s.raw Reg.adc_OVR_STICKY
  let s := (s.wr Reg.adc_OVR_STICKY 0 (setBit c sticky)).count Reg.adc_ADC_OVR
  if bit c sticky then s else s.raise 112 0x0100 (c + code * 2 ^ 16)

/-- ADC_CONVERSION_DONE (R480, R482, R488): the conversion in progress gives a code; `ovr` is 1 for an input above full
scale and 2 for one below. -/
def execAdcConversionDone (code ovr : Nat) (s : State) : Host.Outcome State Fault Refusal :=
  .next (match s.adc.conv with
    | none => s
    | some c =>
      let s := s.advance (c.sampled + unitsUs)
      let code := if ovr = 1 then 0x7FFF else if ovr = 2 then 0x8000 else code % 2 ^ 16
      let seq := (s.raw Reg.adcrq_REQ_RES c.req / 2 ^ 28 + 1) % 16
      let w := resultWord code (ovr ≠ 0) (s.settling c.sampled) c.late c.wake c.chan c.req false seq
      let t := timeWord (s.taiOf c.sampled)
      let s := (((s.wr Reg.adcrq_REQ_RES c.req w).wr Reg.adcrq_REQ_TIME c.req t).wr Reg.adcch_CH_RES c.chan w).wr Reg.adcch_CH_TIME c.chan t
      let s := (s.setAdc { s.adc with conv := none, ovrAt := if ovr ≠ 0 then some s.mono else s.adc.ovrAt }).count Reg.adc_ADC_CONV
      let s := if ovr ≠ 0 then s.overrange c.chan code else s
      s.adcNext)

/-- ADC_RESULT_READ (R488): a host read of a result word latches its time word. -/
def execAdcResultRead (a : Access) (s : State) : Host.Outcome State Fault Refusal := .next (s.hostReadAccess a)

/-- ADC_POWER_DOWN (R487): no conversion has started for PD_IDLE. -/
def execAdcPowerDown (s : State) : Host.Outcome State Fault Refusal :=
  .next (
    if !s.flag Reg.adc_AUTO_PD || !s.flag Reg.adc_AWAKE || s.adc.conv.isSome || !s.adc.waiting.isEmpty || s.adc.test.isSome then s
    else (s.advance (s.adc.last + s.rd Reg.adc_PD_IDLE * 10 * unitsUs)).wr Reg.adc_AWAKE 0 0)

/-- ADC_WAKE_DONE (R487): the converter has started up, and the request that waits begins. -/
def execAdcWakeDone (s : State) : Host.Outcome State Fault Refusal :=
  .next (match s.adc.wakeAt with
    | none => s
    | some t =>
      let s := s.advance t
      State.adcNext ((s.wr Reg.adc_AWAKE 0 1).setAdc { s.adc with wakeAt := none, last := s.mono }))

/-- Code and tolerance that a test position must show (R489). -/
def testLimits (pos : Nat) : Int × Int :=
  if pos = 0 then (20480, 40) else if pos = 1 then (0, 8)
  else (((pos - 2) % 3 : Nat) * 25600 - 25600, 64)

/-- The result of a Sounding step (R489). -/
def State.testResult (s : State) (pos code : Nat) : State :=
  let (want, tol) := testLimits pos
  let v := toSigned 16 code
  if want - tol ≤ v && v ≤ want + tol then s
  else if pos < 2 then ((s.wr Reg.adc_REF_FAIL 0 1).raise 113 0x0101 0).testFailed 10 0 7
  else ((s.wr Reg.adc_LOOP_FAIL 0 1).raise 113 0x0102 ((pos - 2) / 3)).testFailed 10 ((pos - 2) / 3) 5

/-- ADC_TEST_STEP (R489, R490): without a code, Sounding starts a test conversion at a position, unless a request is due
within 3 µs; with a code, the step in progress ends. -/
def execAdcTestStep (pos : Nat) (code : Option Nat) (s : State) : Host.Outcome State Fault Refusal :=
  .next (match code with
    | none =>
      let soon := (s.adc.armed.any fun a => a.2.2 ≤ s.mono + 3 * unitsUs) || (List.range 8).any fun r =>
        s.adcSrc r = 1 && (List.range 3001).any fun j => s.timerTick r ((s.tai / unitsNs + j) * unitsNs - s.adcDelay r)
      if s.adc.conv.isSome || !s.adc.waiting.isEmpty || s.adc.test.isSome || soon then s
      else State.syncTest ((s.wr Reg.adc_AWAKE 0 1).setAdc { s.adc with test := some pos, last := s.mono })
    | some v =>
      if s.adc.test ≠ some pos then s
      else
        let s := s.advance (s.adc.last + unitsUs)
        let chan := if pos < 2 then 0 else (pos - 2) / 3
        let seq := (s.raw Reg.adcrq_REQ_RES 7 / 2 ^ 28 + 1) % 16
        let w := resultWord (v % 2 ^ 16) false (s.settling s.adc.last) false false chan 7 true seq
        let t := timeWord (s.taiOf s.adc.last)
        let s := (s.wr Reg.adcrq_REQ_RES 7 w).wr Reg.adcrq_REQ_TIME 7 t
        let s := if pos < 2 then s else (s.wr Reg.adcch_CH_RES chan w).wr Reg.adcch_CH_TIME chan t
        (State.syncTest (s.setAdc { s.adc with test := none })).testResult pos v)

/-! ### Fans (R485, R622) -/

/-- Number of fan output k in `Output.pin`. -/
def pinFan (k : Nat) : Nat := 5 + k

/-- FAN_PERIOD_START (R622): fan output k starts a period at instant t with its duty, full while DIE_HOT is 1 or the module
is in SAFE; its edges trigger requests. -/
def execFanPeriodStart (k t : Nat) (s : State) : Host.Outcome State Fault Refusal :=
  .next (
    let s := s.advance t
    let full := s.flag Reg.pwr_DIE_HOT || s.pwr.safe
    let duty := if full then 1000 else s.rd (if k = 0 then Reg.pwr_FAN0_DUTY else Reg.pwr_FAN1_DUTY)
    let period := unitsSec / s.rd Reg.pwr_FAN_FREQ
    let s := s.setAdc { s.adc with fans := Tbl.ins (duty, s.mono) s.adc.fans k }
    if duty = 0 then s.emit (.pin (pinFan k) 0)
    else if 1000 ≤ duty then s.emit (.pin (pinFan k) 1)
    else
      let fall := s.mono + period * duty / 1000
      let s := (s.emit (.pin (pinFan k) 1)).emit (.pin (pinFan k) 0)
      (List.range 8).foldl (fun (s : State) r =>
        let src := s.adcSrc r
        if src = 2 + 2 * k then s.adcArm r s.mono else if src = 3 + 2 * k then s.adcArm r fall else s) s)

end Sys2Proof.Machine
end

