-- ==== Sys2Proof/Machine/Float.lean ====
section
/-!
DEFINITION. The arithmetic of the FB-ISA and of the reckoning model: IEEE 754 binary32 and binary64 with the additions of
R302, every operation correctly rounded, computed on exact integers. A floating-point value is its bit pattern, as a
number. Flags are a set of bits: INV 1, DZ 2, OVF 4 (R306).
-/

namespace Sys2Proof

/-- A binary interchange format: exponent bits and fraction bits. -/
structure Fmt where
  eb : Nat
  mb : Nat
  deriving DecidableEq, Repr

def f32 : Fmt := { eb := 8, mb := 23 }
def f64 : Fmt := { eb := 11, mb := 52 }

/-- F32 or F64 by the P bit of an instruction (R299). -/
def fmtOf (p : Bool) : Fmt := if p then f64 else f32

def Fmt.width (f : Fmt) : Nat := 1 + f.eb + f.mb
def Fmt.bias (f : Fmt) : Int := 2 ^ (f.eb - 1) - 1

/-- A value read from its bits: a finite value is ±m × 2^e. -/
inductive Fl where
  | nan (signalling : Bool)
  | inf (neg : Bool)
  | fin (neg : Bool) (m : Nat) (e : Int)
  deriving DecidableEq, Repr

/-- The value of a bit pattern; a subnormal is taken as zero of its sign (R302). -/
def Fmt.dec (f : Fmt) (b : Nat) : Fl :=
  let neg := bit (f.eb + f.mb) b
  let ex := b / 2 ^ f.mb % 2 ^ f.eb
  let fr := b % 2 ^ f.mb
  if ex = 2 ^ f.eb - 1 then (if fr = 0 then .inf neg else .nan (!bit (f.mb - 1) fr))
  else if ex = 0 then .fin neg 0 0
  else .fin neg (2 ^ f.mb + fr) ((ex : Int) - f.bias - f.mb)

/-- The canonical quiet NaN (R302). -/
def Fmt.qnan (f : Fmt) : Nat := (2 ^ f.eb - 1) * 2 ^ f.mb + 2 ^ (f.mb - 1)
def Fmt.sign (f : Fmt) (neg : Bool) : Nat := b2n neg * 2 ^ (f.eb + f.mb)
def Fmt.infBits (f : Fmt) (neg : Bool) : Nat := f.sign neg + (2 ^ f.eb - 1) * 2 ^ f.mb

def flINV : Nat := 1
def flDZ : Nat := 2
def flOVF : Nat := 4

/-- n × 2^k over d, as a fraction of natural numbers. -/
def scaleRat (n d : Nat) (k : Int) : Nat × Nat :=
  if 0 ≤ k then (n * 2 ^ k.toNat, d) else (n, d * 2 ^ (-k).toNat)

/-- ⌊log₂ (n / d)⌋ for positive n and d. -/
def ratLog (n d : Nat) : Int :=
  let g : Int := (Nat.log2 n : Int) - Nat.log2 d
  let (a, b) := scaleRat n d (-g)
  if b ≤ a then g else g - 1

/-- The exact value ±n/d rounded to nearest, ties to even, with its flags. The rounded magnitude decides: below the least
normal number it is written as zero (R302). -/
def Fmt.round (f : Fmt) (neg : Bool) (n d : Nat) : Nat × Nat :=
  if n = 0 then (f.sign neg, 0)
  else
    let k := ratLog n d - f.mb
    let (a, b) := scaleRat n d (-k)
    let q := a / b
    let r := a % b
    let q := if b < 2 * r ∨ (2 * r = b ∧ q % 2 = 1) then q + 1 else q
    let (q, k) := if q = 2 ^ (f.mb + 1) then (2 ^ f.mb, k + 1) else (q, k)
    let e := k + f.mb + f.bias
    if e < 1 then (f.sign neg, 0)
    else if (2 ^ f.eb - 1 : Int) ≤ e then (f.infBits neg, flOVF)
    else (f.sign neg + e.toNat * 2 ^ f.mb + (q - 2 ^ f.mb), 0)

/-- The exact value m × 2^e, rounded; `zneg` is the sign of an exact zero. -/
def Fmt.roundDy (f : Fmt) (zneg : Bool) (m : Int) (e : Int) : Nat × Nat :=
  if m = 0 then (f.sign zneg, 0)
  else
    let (n, d) := scaleRat m.natAbs 1 e
    f.round (decide (m < 0)) n d

/-- The sum of m × 2^e and m' × 2^e' as one signed mantissa and exponent. -/
def dyAdd (m : Int) (e : Int) (m' : Int) (e' : Int) : Int × Int :=
  let k := min e e'
  (m * 2 ^ (e - k).toNat + m' * 2 ^ (e' - k).toNat, k)

def signedM (neg : Bool) (m : Nat) : Int := if neg then -(m : Int) else m

/-- A signalling NaN among operands sets INV. -/
def snan (xs : List Fl) : Nat := if xs.any (fun x => x = .nan true) then flINV else 0

def isNan : Fl → Bool
  | .nan _ => true
  | _ => false

/-- x + y. -/
def Fmt.addFl (f : Fmt) (x y : Fl) : Nat × Nat :=
  match x, y with
  | .nan _, _ => (f.qnan, snan [x, y])
  | _, .nan _ => (f.qnan, snan [x, y])
  | .inf a, .inf b => if a = b then (f.infBits a, 0) else (f.qnan, flINV)
  | .inf a, _ => (f.infBits a, 0)
  | _, .inf b => (f.infBits b, 0)
  | .fin a m e, .fin b m' e' =>
    let (s, k) := dyAdd (signedM a m) e (signedM b m') e'
    f.roundDy (a && b) s k

def negFl : Fl → Fl
  | .nan s => .nan s
  | .inf a => .inf (!a)
  | .fin a m e => .fin (!a) m e

def Fmt.add (f : Fmt) (x y : Nat) : Nat × Nat := f.addFl (f.dec x) (f.dec y)
def Fmt.sub (f : Fmt) (x y : Nat) : Nat × Nat := f.addFl (f.dec x) (negFl (f.dec y))

/-- x × y. -/
def Fmt.mul (f : Fmt) (x y : Nat) : Nat × Nat :=
  match f.dec x, f.dec y with
  | .nan s, b => (f.qnan, snan [.nan s, b])
  | a, .nan s => (f.qnan, snan [a, .nan s])
  | .inf a, .inf b => (f.infBits (a != b), 0)
  | .inf a, .fin b m _ => if m = 0 then (f.qnan, flINV) else (f.infBits (a != b), 0)
  | .fin a m _, .inf b => if m = 0 then (f.qnan, flINV) else (f.infBits (a != b), 0)
  | .fin a m e, .fin b m' e' => f.roundDy (a != b) (signedM (a != b) (m * m')) (e + e')

/-- x × y + z with one rounding; zero times infinity is invalid also beside a quiet NaN (R302). -/
def Fmt.fma (f : Fmt) (x y z : Nat) : Nat × Nat :=
  let a := f.dec x
  let b := f.dec y
  let c := f.dec z
  let zi : Bool := match a, b with
    | .inf _, .fin _ m _ => decide (m = 0)
    | .fin _ m _, .inf _ => decide (m = 0)
    | _, _ => false
  if zi then (f.qnan, flINV)
  else if isNan a || isNan b || isNan c then (f.qnan, snan [a, b, c])
  else
    let prod : Fl := match a, b with
      | .inf s, .inf t => .inf (s != t)
      | .inf s, .fin t _ _ => .inf (s != t)
      | .fin s _ _, .inf t => .inf (s != t)
      | .fin s m e, .fin t m' e' => .fin (s != t) (m * m') (e + e')
      | _, _ => .nan false
    f.addFl prod c

/-- x / y. -/
def Fmt.div (f : Fmt) (x y : Nat) : Nat × Nat :=
  match f.dec x, f.dec y with
  | .nan s, b => (f.qnan, snan [.nan s, b])
  | a, .nan s => (f.qnan, snan [a, .nan s])
  | .inf _, .inf _ => (f.qnan, flINV)
  | .inf a, .fin b _ _ => (f.infBits (a != b), 0)
  | .fin a _ _, .inf b => (f.sign (a != b), 0)
  | .fin a m e, .fin b m' e' =>
    if m' = 0 then (if m = 0 then (f.qnan, flINV) else (f.infBits (a != b), flDZ))
    else
      let (n, d) := scaleRat m m' (e - e')
      f.round (a != b) n d

/-- ⌊√n⌋ by digits of base 4; `k` bounds their number. -/
def isqrt : Nat → Nat → Nat
  | 0, _ => 0
  | k + 1, n =>
    let r := 2 * isqrt k (n / 4)
    if (r + 1) * (r + 1) ≤ n then r + 1 else r

/-- √x. -/
def Fmt.sqrt (f : Fmt) (x : Nat) : Nat × Nat :=
  match f.dec x with
  | .nan s => (f.qnan, snan [.nan s])
  | .inf neg => if neg then (f.qnan, flINV) else (f.infBits false, 0)
  | .fin neg m e =>
    if m = 0 then (f.sign neg, 0)
    else if neg then (f.qnan, flINV)
    else
      -- m × 2^e = n × 2^(2h), with n of more than 2 × (mb + 3) bits
      let odd := e % 2
      let n := m * 2 ^ (odd.toNat + 2 * (f.mb + 4))
      let h := (e - odd) / 2 - (f.mb + 4)
      let r := isqrt (Nat.log2 n) n
      f.roundDy false (2 * r + (if r * r = n then 0 else 1)) (h - 1)

/-- Order of two values that are not NaN: x < y. -/
def flLt (x y : Fl) : Bool :=
  match x, y with
  | .inf a, .inf b => a && !b
  | .inf a, _ => a
  | _, .inf b => !b
  | .fin a m e, .fin b m' e' =>
    let (s, _) := dyAdd (signedM a m) e (-(signedM b m')) e'
    s < 0
  | _, _ => false

/-- FMINMAX (R302): −0 is below +0; one NaN gives the other operand. -/
def Fmt.minmax (f : Fmt) (mx : Bool) (x y : Nat) : Nat × Nat :=
  let a := f.dec x
  let b := f.dec y
  let fl := snan [a, b]
  let flush := fun (v : Fl) (w : Nat) => match v with
    | .fin s 0 _ => f.sign s
    | _ => w
  if isNan a && isNan b then (f.qnan, fl)
  else if isNan a then (flush b y, fl)
  else if isNan b then (flush a x, fl)
  else
    let neg := fun (v : Fl) => match v with
      | .fin s _ _ => s
      | .inf s => s
      | .nan _ => false
    let less := flLt a b || (!flLt b a && neg a && !neg b)
    (if less = mx then flush b y else flush a x, fl)

/-- FSGN (R300): absolute value, negation, or the first operand with the sign of the second. A NaN result is
canonical; no flag is raised. -/
def Fmt.sgn (f : Fmt) (sel : Nat) (x y : Nat) : Nat × Nat :=
  match f.dec x with
  | .nan _ => (f.qnan, 0)
  | _ =>
    let top := f.eb + f.mb
    let mag := x % 2 ^ top
    let mag := if mag < 2 ^ f.mb then 0 else mag
    (mag + f.sign (match sel with
      | 0 => false
      | 1 => !bit top x
      | _ => bit top y), 0)

/-- FCMP (R302): EQ, LT, LE, UNORD. LT and LE set INV on any NaN, the others on a signalling one, as IEEE 754 has its
signalling and quiet comparisons (log entry 9). -/
def Fmt.cmp (f : Fmt) (sel : Nat) (x y : Nat) : Bool × Nat :=
  let a := f.dec x
  let b := f.dec y
  let un := isNan a || isNan b
  let fl := if (sel = 1 ∨ sel = 2) ∧ un then flINV else snan [a, b]
  match sel with
  | 0 => (!un && !flLt a b && !flLt b a, fl)
  | 1 => (!un && flLt a b, fl)
  | 2 => (!un && !flLt b a, fl)
  | _ => (un, fl)

/-- A value to the nearest I32, ties to even, saturated; NaN gives 0 (R302). -/
def Fmt.toI32 (f : Fmt) (x : Nat) : Nat × Nat :=
  match f.dec x with
  | .nan _ => (0, flINV)
  | .inf neg => (if neg then 0x80000000 else 0x7FFFFFFF, flINV)
  | .fin neg m e =>
    let (n, d) := scaleRat m 1 e
    let q := n / d
    let r := n % d
    let q := if d < 2 * r ∨ (2 * r = d ∧ q % 2 = 1) then q + 1 else q
    let v := signedM neg q
    if v < -2147483648 then (0x80000000, flINV)
    else if 2147483647 < v then (0x7FFFFFFF, flINV)
    else (ofSigned 32 v, 0)

/-- An I32 as a value. -/
def Fmt.ofI32 (f : Fmt) (x : Nat) : Nat × Nat := f.roundDy false (toSigned 32 x) 0

/-- From one format to another. -/
def Fmt.convert (f g : Fmt) (x : Nat) : Nat × Nat :=
  match f.dec x with
  | .nan s => (g.qnan, snan [.nan s])
  | .inf neg => (g.infBits neg, 0)
  | .fin neg m e => g.roundDy neg (signedM neg m) e

/-! ### Correctly rounded functions of real values

Each is computed in fixed point with a growing number of fraction bits, with its error held far below `zivErr` units of
the last bit, until both ends of the enclosure round alike. -/

/-- The error allowed for, in units of the last fraction bit. -/
def zivErr : Nat := 2 ^ 24

/-- Numbers of fraction bits tried. -/
def zivBits : List Nat := [128, 256, 512, 1024, 2048, 4096, 8192, 16384]

/-- Rounds the real number that `g p` approximates as a multiple of 2^(−p). -/
def Fmt.ziv (f : Fmt) (g : Nat → Int) : Nat × Nat :=
  (zivBits.findSome? fun p =>
    let v := g p
    let lo := f.roundDy false (v - zivErr) (-(p : Int))
    let hi := f.roundDy false (v + zivErr) (-(p : Int))
    if lo = hi ∧ zivErr < v.natAbs then some lo else none).getD (f.sign (decide (g 16384 < 0)), 0)

/-- Σ ± t / ((2k + 1) x^(2k)), the series of atan 1/x. -/
def atanInvSum : Nat → Nat → Nat → Nat → Bool → Int
  | 0, _, _, _, _ => 0
  | n + 1, x, t, k, neg =>
    let y : Int := t / (2 * k + 1)
    (if neg then -y else y) + atanInvSum n x (t / (x * x)) (k + 1) (!neg)

/-- π with p fraction bits, by Machin's formula. -/
def piFix (p : Nat) : Int :=
  let q := p + 32
  (16 * atanInvSum q 5 (2 ^ q / 5) 0 false - 4 * atanInvSum q 239 (2 ^ q / 239) 0 false) / 2 ^ 32

/-- The Taylor series of sine (k = 1) or cosine (k = 0) at r with p fraction bits: `t` is the term of r^k. -/
def trigSum : Nat → Nat → Int → Int → Nat → Int
  | 0, _, _, _, _ => 0
  | n + 1, p, r2, t, k => t + trigSum n p r2 (-(t * r2) / 2 ^ p / ((k + 1) * (k + 2) : Nat)) (k + 2)

/-- Sine and cosine with p fraction bits of the angle quad × π/2 + r, with r in fixed point. -/
def sincosAt (p quad : Nat) (r : Int) : Int × Int :=
  let r2 := r * r / 2 ^ p
  let s := trigSum (p / 2 + 8) p r2 r 1
  let c := trigSum (p / 2 + 8) p r2 (2 ^ p) 0
  match quad % 4 with
  | 0 => (s, c)
  | 1 => (c, -s)
  | 2 => (-s, -c)
  | _ => (-c, s)

/-- Sine and cosine with p fraction bits of m × 2^e, m and e of a finite value. -/
def sincosFix (p m : Nat) (e : Int) : Int × Int :=
  let q := p + (e + 64).toNat
  let x : Int := (scaleRat m 1 (q + e)).1 / (scaleRat m 1 (q + e)).2
  let h := piFix q / 2
  let k := x / h
  let r := x % h
  sincosAt p (k % 4).toNat (r / 2 ^ (q - p))

/-- FSINCOS (R302): the sine, the cosine and the flags. -/
def Fmt.sincos (f : Fmt) (x : Nat) : Nat × Nat × Nat :=
  match f.dec x with
  | .nan s => (f.qnan, f.qnan, snan [.nan s])
  | .inf _ => (f.qnan, f.qnan, flINV)
  | .fin neg m e =>
    if m = 0 then (f.sign neg, (f.roundDy false 1 0).1, 0)
    else
      let s := f.ziv fun p => (if neg then -1 else 1) * (sincosFix p m e).1
      let c := f.ziv fun p => (sincosFix p m e).2
      (s.1, c.1, 0)

/-- Cosine and sine of 2πr/n, correctly rounded (R644). -/
def Fmt.turn (f : Fmt) (r n : Nat) : Nat × Nat :=
  let at_ := fun (p : Nat) => sincosAt p (4 * r / n) (piFix p / 2 * (4 * r % n : Nat) / (n : Int))
  let c := if 4 * r % n = 0 ∧ 4 * r / n % 2 = 1 then 0 else (f.ziv fun p => (at_ p).2).1
  let s := if 2 * r % n = 0 then 0 else (f.ziv fun p => (at_ p).1).1
  (c, s)

/-- Euler's series of the arctangent of a/b, with its term `t`, u/w = a²/(a² + b²). -/
def eulerSum : Nat → Nat → Nat → Nat → Nat → Nat
  | 0, _, _, _, _ => 0
  | n + 1, t, k, u, w => t + eulerSum n (t * u * (2 * k) / (w * (2 * k + 1))) (k + 1) u w

/-- The arctangent of a/b for 0 < a ≤ b, with p fraction bits. -/
def atanFix (p a b : Nat) : Int :=
  let w := a * a + b * b
  eulerSum (p + 64) (a * b * 2 ^ p / w) 1 (a * a) w

/-- FATAN2 (R302): atan2(y, x). -/
def Fmt.atan2 (f : Fmt) (y x : Nat) : Nat × Nat :=
  let part := fun (neg : Bool) (n d : Nat) =>
    f.ziv fun p => (if neg then -1 else 1) * (piFix p * n / d)
  match f.dec y, f.dec x with
  | .nan s, b => (f.qnan, snan [.nan s, b])
  | a, .nan s => (f.qnan, snan [a, .nan s])
  | .inf s, .inf t => if t then part s 3 4 else part s 1 4
  | .inf s, .fin _ _ _ => part s 1 2
  | .fin s _ _, .inf t => if t then part s 1 1 else (f.sign s, 0)
  | .fin s m e, .fin t m' e' =>
    if m = 0 then (if t then part s 1 1 else (f.sign s, 0))
    else if m' = 0 then part s 1 2
    else
      let k := min e e'
      let a := m * 2 ^ (e - k).toNat
      let b := m' * 2 ^ (e' - k).toNat
      f.ziv fun p =>
        let th := if a ≤ b then atanFix p a b else piFix p / 2 - atanFix p b a
        let th := if t then piFix p - th else th
        if s then -th else th

/-- The largest q below 2^`bits` with q^n × 2^(n × k) ≤ a/b, built bit by bit from `acc`. -/
def rootBits : Nat → Nat → Nat → Int → Nat → Nat → Nat
  | 0, acc, _, _, _, _ => acc
  | i + 1, acc, n, k, a, b =>
    let q := acc + 2 ^ i
    let (u, v) := scaleRat (q ^ n) 1 (k * n)
    rootBits i (if u * b ≤ a * v then q else acc) n k a b

/-- x^(m/n) for a positive finite x, correctly rounded (R644). -/
def Fmt.powFrac (f : Fmt) (x m n : Nat) : Nat :=
  match f.dec x with
  | .fin false w e =>
    if w = 0 then 0
    else
      let (a, b) := scaleRat (w ^ m) 1 (e * m)
      let g := ratLog a b / (n : Int)
      let k := g - (f.mb + 2)
      let q := rootBits (f.mb + 3) 0 n k a b
      let (u, v) := scaleRat (q ^ n) 1 (k * n)
      (f.roundDy false (2 * q + (if u * b = a * v then 0 else 1)) (k - 1)).1
  | _ => f.qnan

end Sys2Proof
end

