-- ==== Sys2Proof/Machine/NetOps.lean ====
section
/-!
DEFINITION. Operations shared by the ports, the switch core, redundancy and the Sextant: reading a frame's bytes, port
facts, the packet buffer, redundancy groups and enqueueing (chapters 05–07).
-/

namespace Sys2Proof.Machine

/-! ### Reading a frame -/

/-- What a frame's headers say. -/
structure Headers where
  dst : Nat
  src : Nat
  /-- priority and VID of the first VLAN tag -/
  tag : Option (Nat × Nat)
  /-- EtherType after any VLAN tags and any HSR tag, and where its payload starts -/
  etype : Nat
  payload : Nat
  /-- offset and sequence number of an HSR tag -/
  hsr : Option (Nat × Nat)
  deriving DecidableEq, Repr

/-- EtherType after at most `n` VLAN tags: the first tag seen, the EtherType, and the offset behind it. -/
def skipVlan : Nat → Bytes → Nat → Option (Nat × Nat) → Option (Nat × Nat) × Nat × Nat
  | 0, f, o, t => (t, be o 2 f, o + 2)
  | n + 1, f, o, t =>
    if be o 2 f = 0x8100 ∨ be o 2 f = 0x88A8 then
      let tci := be (o + 2) 2 f
      skipVlan n f (o + 4) (t.or (some (tci / 0x2000, tci % 0x1000)))
    else (t, be o 2 f, o + 2)

/-- The headers of a frame. -/
def headersOf (f : Bytes) : Headers :=
  let (t, e, p) := skipVlan 2 f 12 none
  if e = 0x892F then
    { dst := be 0 6 f, src := be 6 6 f, tag := t, etype := be (p + 4) 2 f, payload := p + 6, hsr := some (p - 2, be (p + 2) 2 f) }
  else { dst := be 0 6 f, src := be 6 6 f, tag := t, etype := e, payload := p, hsr := none }

/-- A group address: multicast or broadcast. -/
def isGroup (mac : Nat) : Bool := bit 40 mac

/-- Base MAC address B of the module (R6, R155). -/
def State.baseMac (s : State) : Nat := s.ident.baseMac

/-- The management MAC address B + 33 (R155). -/
def State.mgmtMac (s : State) : Nat := s.baseMac + 33

/-- UDP destination port of an IPv4 or IPv6 frame, if it is UDP. -/
def udpPort (f : Bytes) (h : Headers) : Option Nat :=
  let o := h.payload
  if h.etype = 0x0800 then
    if be (o + 9) 1 f = 17 then some (be (o + (be o 1 f % 16) * 4 + 2) 2 f) else none
  else if h.etype = 0x86DD then
    if be (o + 6) 1 f = 17 then some (be (o + 42) 2 f) else none
  else none

/-- Bytes of a frame on the wire from the destination address to the FCS, padded to 64 (R154, R404). -/
def wireLen (f : Bytes) : Nat := max 64 (f.length + 4)

/-! ### Port facts -/

/-- A switch port is full duplex. -/
def State.fullDuplex (s : State) (q : Nat) : Bool := 32 ≤ q || s.flag Reg.prt_FULL q

/-- A switch port forwards: FWD of an external port; internal ports always (R166). -/
def State.fwd (s : State) (q : Nat) : Bool := 32 ≤ q || s.flag Reg.prt_FWD q

/-- MAX_FRAME of a switch port (R176, R643). -/
def State.maxFrame (s : State) (q : Nat) : Nat := if 32 ≤ q then 9216 else s.rd Reg.prt_MAX_FRAME q

/-- The value a field has in a port's receive direction. A reception is one command, so this direction is always idle and
a write counts there at once, unless the block is on hold (R95, R640). -/
def State.rxRaw (s : State) (f : Fld) (p : Nat) : Nat := if s.held f.blk then s.raw f p else s.lastWritten f p

/-- MAX_FRAME of an external port as reception takes it (R154, R640). -/
def State.rxMaxFrame (s : State) (p : Nat) : Nat :=
  Reg.prt_MAX_FRAME.clamp.eff Reg.prt_MAX_FRAME.wid (s.rxRaw Reg.prt_MAX_FRAME p)

/-- A port takes part in PTP (R127, R147). -/
def State.ptpOn (s : State) (p : Nat) : Bool := s.flag Reg.stxp_PTP_PORT_EN p

/-! ### Redundancy groups (R211, R213) -/

/-- Ports A and B of a group: pairs 0–7, rings 8–11. -/
def State.groupPorts (s : State) (g : Nat) : Nat × Nat :=
  if g < 8 then (s.raw Reg.pair_PORT_A g, s.raw Reg.pair_PORT_B g)
  else (s.raw Reg.ring_PORT_A (g - 8), s.raw Reg.ring_PORT_B (g - 8))

/-- EN of a group. -/
def State.groupEn (s : State) (g : Nat) : Bool :=
  if g < 8 then s.flag Reg.pair_EN g else s.flag Reg.ring_EN (g - 8)

/-- BAD of a group. -/
def State.groupBad (s : State) (g : Nat) : Bool :=
  if g < 8 then s.flag Reg.pair_BAD g else s.flag Reg.ring_BAD (g - 8)

/-- REDBOX of a group. -/
def State.groupRedbox (s : State) (g : Nat) : Bool :=
  if g < 8 then s.flag Reg.pair_REDBOX g else s.flag Reg.ring_REDBOX (g - 8)

/-- The group that works on a port, if any: enabled and not BAD (R211). -/
def State.groupOf (s : State) (p : Nat) : Option Nat :=
  (List.range 12).find? fun g =>
    s.groupEn g && !s.groupBad g && decide (p < 32) && ((s.groupPorts g).1 = p || (s.groupPorts g).2 = p)

/-- A group's state beside its registers. -/
def State.grp (s : State) (g : Nat) : RedGroup := Tbl.look ({} : RedGroup) s.red.groups g

/-- A group's state changed. -/
def State.setGrp (s : State) (g : Nat) (x : RedGroup) : State :=
  { s with red := { s.red with groups := Tbl.put ({} : RedGroup) s.red.groups g x } }

/-- A configuration of the groups breaks a rule of R211: one port twice, a half-duplex port, ring ports of two speeds, or
a port of two enabled groups. -/
def State.groupBroken (s : State) (g : Nat) : Bool :=
  let (a, b) := s.groupPorts g
  a = b || !s.fullDuplex a || !s.fullDuplex b || (decide (8 ≤ g) && s.portRate a ≠ s.portRate b) ||
    (List.range 12).any fun k => k ≠ g && s.groupEn k &&
      (let (c, d) := s.groupPorts k; a = c || a = d || b = c || b = d)

/-- BAD of every enabled group set anew (R211). -/
def State.checkGroups (s : State) : State :=
  (List.range 12).foldl (fun s g =>
    let bad := s.groupEn g && s.groupBroken g
    if g < 8 then s.wrFlag Reg.pair_BAD g bad else s.wrFlag Reg.ring_BAD (g - 8) bad) s

/-! ### Packet buffer (R196–R200) -/

/-- Cells of a frame of n bytes (R196). -/
def cellsOf (n : Nat) : Nat := cdiv n 256

/-- FULL of an owner follows its occupancy and share; its rise raises source 33 (R198). -/
def State.syncFull (s : State) (o : Nat) : State :=
  let full := decide (s.poolSize o < s.raw Reg.own_OCC o + 36)
  let s' := s.wrFlag Reg.own_FULL o full
  if full && !s.flag Reg.own_FULL o then s'.raise 33 0x0102 o else s'

/-- A PAUSE of `quanta` queued ahead of every frame of a full-duplex port (R161, R165). -/
def State.queuePause (s : State) (p quanta : Nat) : State :=
  let x := s.px p
  if !s.fullDuplex p then s
  else
    let t := s.mono + s.bitTime p (512 * s.rd Reg.prt_PAUSE_REFRESH p)
    s.setPx p { x with pauseOut := x.pauseOut ++ [quanta], refreshAt := t }

/-- XON acts as XOFF − 1 when it is not below it (R208). -/
def State.xon (s : State) (p : Nat) : Nat := min (s.raw Reg.swp_XON p) (s.raw Reg.swp_XOFF p - 1)

/-- BE_CELLS of an external ingress port changes; reaching XOFF asserts flow control, falling to XON releases it
(R165, R200). -/
def State.setBe (s : State) (p n : Nat) : State :=
  if 32 ≤ p then s
  else
    let s := s.wr Reg.swp_BE_CELLS p n
    if !s.flag Reg.swp_XOFF_ACT p && s.raw Reg.swp_XOFF p ≤ n then
      let s := (s.wr Reg.swp_XOFF_ACT p 1).raise 37 0x0109 p
      if s.flag Reg.prt_TX_PAUSE_EN p then s.queuePause p (s.raw Reg.prt_PAUSE_QUANTA p) else s
    else if s.flag Reg.swp_XOFF_ACT p && n ≤ s.xon p then
      let s := (s.wr Reg.swp_XOFF_ACT p 0).raise 37 0x010A p
      if s.flag Reg.prt_TX_PAUSE_EN p then s.queuePause p 0 else s
    else s

/-- The cells of a frame return to the free list (R196). -/
def State.freeCells (s : State) (f : SwFrame) : State :=
  let s := s.wr Reg.swc_FREE_CELLS 0 (s.raw Reg.swc_FREE_CELLS + f.cells)
  if 5 ≤ f.cls then { s with net := { s.net with admOcc := s.net.admOcc - f.cells } }
  else
    let s := (s.wr Reg.own_OCC f.owner (s.raw Reg.own_OCC f.owner - f.cells)).syncFull f.owner
    s.setBe f.ingress (s.raw Reg.swp_BE_CELLS f.ingress - f.cells)

/-- A frame fits its pool (R198). -/
def State.fits (s : State) (cls owner cells : Nat) : Bool :=
  if 5 ≤ cls then s.net.admOcc + cells ≤ s.raw Reg.swc_ADM_CELLS
  else s.raw Reg.own_OCC owner + cells ≤ s.poolSize owner

/-- A frame takes its cells (R198). -/
def State.takeCells (s : State) (f : SwFrame) : State :=
  let s := s.wr Reg.swc_FREE_CELLS 0 (s.raw Reg.swc_FREE_CELLS - f.cells)
  if 5 ≤ f.cls then { s with net := { s.net with admOcc := s.net.admOcc + f.cells } }
  else
    let s := (s.wr Reg.own_OCC f.owner (s.raw Reg.own_OCC f.owner + f.cells)).syncFull f.owner
    s.setBe f.ingress (if f.ingress < 32 then s.raw Reg.swp_BE_CELLS f.ingress + f.cells else 0)

/-- Is a frame's last copy still on some wire? -/
def State.onWire (s : State) (id : Nat) : Bool :=
  s.net.tx.any fun e => match e.2 with
    | some t => t.frame.id = id
    | none => false

/-- The copy of frame `id` for port `q` is gone: with its last copy the frame's cells are freed, and the SEND it came
from is done (R196, R407). -/
def State.dropCopy (s : State) (id q : Nat) : State :=
  match s.net.frames.find? (fun f => f.id = id) with
  | none => s
  | some f =>
    let f' := { f with ports := f.ports.filter (· ≠ q) }
    if f'.ports.isEmpty && !s.onWire id then
      let s := { s with net := { s.net with
        frames := s.net.frames.filter (fun x => x.id ≠ id),
        sendDone := s.net.sendDone ++ f.send.toList } }
      s.freeCells f
    else { s with net := { s.net with frames := s.net.frames.map fun x => if x.id = id then f' else x } }

/-- Counters of a frame dropped because its port is not forwarding (R167). -/
def State.countDown (s : State) (q cls : Nat) : State :=
  s.count (if 5 ≤ cls then Reg.prt_PRT_DROP_DOWN_RT else Reg.prt_PRT_DROP_DOWN_BE) q

/-- A frame put into the queues of its ports with its cells taken; a port that is not forwarding drops classes 5–7
(R167, R180). -/
def State.enqueue (s : State) (f : SwFrame) : State :=
  let dead := if 5 ≤ f.cls then f.ports.filter fun q => !s.fwd q else []
  let s := dead.foldl (fun s q => s.countDown q f.cls) s
  let live := f.ports.filter fun q => !dead.contains q
  if live.isEmpty then { s with net := { s.net with sendDone := s.net.sendDone ++ f.send.toList } }
  else
    let f := { f with ports := live, id := s.net.frameSeq, enq := s.mono }
    (State.takeCells { s with net := { s.net with frames := s.net.frames ++ [f], frameSeq := s.net.frameSeq + 1 } } f)

/-- A frame that the module originates enters an internal port with its descriptor (R180, R229). -/
def State.originate (s : State) (port cls : Nat) (egress : Option (List Nat)) (bytes : Bytes) : State :=
  { s with net := { s.net with arrivals := s.net.arrivals ++
    [{ port := port, t := s.mono, bytes := padTo 60 bytes, desc := some (cls, egress, 128) }] } }

/-! ### Forwarding table (R185) -/

/-- The key of an address and VID. -/
def fdbKey (mac vid : Nat) : Nat := mac * 4096 + vid

/-- A source address is learned or refreshed (R185). -/
def State.learn (s : State) (mac vid port : Nat) : State :=
  let k := fdbKey mac vid
  let known := s.net.fdb.any fun e => e.1 = k
  if isGroup mac then s
  else if !known && 32768 ≤ s.net.fdb.length then s.count Reg.swc_SWC_FDB_FULL
  else { s with net := { s.net with fdb := Tbl.ins ({ port := port, last := s.mono } : FdbEntry) s.net.fdb k } }

/-- Destinations by the forwarding table: the learned port, none when it is the ingress port, or a flood (R185). -/
def State.forwardTo (s : State) (h : Headers) (q : Nat) : List Nat :=
  let vid := (h.tag.map (·.2)).getD 0
  let flood := ((List.range 32).filter fun p => s.fwd p && p ≠ q && bit p (s.raw Reg.swc_FLOOD_LO)) ++
    (if s.flag Reg.swc_FLOOD_HOST && q ≠ 35 then [35] else [])
  if isGroup h.dst then flood
  else match s.net.fdb.find? (fun e => e.1 = fdbKey h.dst vid) with
    | some (_, e) => if e.port = q then [] else [e.port]
    | none => flood

/-! ### Epochs (R186–R188) -/

/-- The current version of the epoch tables. -/
def State.epoch (s : State) : Epoch :=
  (s.net.epochs.find? fun e => e.num = s.raw Reg.swc_CLS_EPOCH).getD { num := s.raw Reg.swc_CLS_EPOCH }

/-- LIVE shows the number of live epochs (R207). -/
def State.syncLive (s : State) : State := s.wr Reg.swc_LIVE 0 s.net.epochs.length

/-- The newest version, whose number the next change follows. -/
def State.newestEpoch (s : State) : Epoch := s.net.epochs.getLast?.getD s.epoch

/-- A change starts to load: its version is the newest one with the change made (R186). -/
def State.startLoad (s : State) (c : TableChange) : State :=
  let b := s.newestEpoch
  let low := b.cls.filter fun e => e.1 < 1024
  let high := b.cls.filter fun e => 1024 ≤ e.1
  let e : Epoch := {
    num := (b.num + 1) % 65536,
    cls := (c.adm.getD low) ++ (c.cls.getD high), sa := c.sa.getD b.sa,
    peers := c.peers.foldl (fun m p => Tbl.put ({} : Peer) m p.1 p.2) b.peers,
    streams := c.streams.foldl (fun m p => Tbl.put ([] : Bytes) m p.1 p.2) b.streams, handles := c.handles, txns := c.txns }
  State.syncLive { s with net := { s.net with epochs := s.net.epochs ++ [e] } }

/-- A change of the epoch tables loads, or waits while four epochs are live, counted once (R188). -/
def State.submitChange (s : State) (c : TableChange) : State :=
  if s.net.epochs.length < 4 && s.net.changes.isEmpty then s.startLoad c
  else
    let s := s.count Reg.swc_SWC_EPOCH_WAIT
    { s with net := { s.net with changes := s.net.changes ++ [{ c with counted := true }] } }

/-- Frames in the switch core, or not yet finished by the ingest engine, that carry an epoch (R187, R257). -/
def State.epochRefs (s : State) (e : Nat) : Nat :=
  ((s.net.frames ++ s.net.toIngest).filter fun f => f.epoch = e).length

/-- The first bit of a publication's frame is on the wire at an external port: its outputs commit (R27), and one later
than its bound is counted and reported (R385). `key` is publication × 2³² + stNum. -/
def State.pubOnWire (s : State) (key : Nat) : State :=
  let due := s.tor.outWait.filter fun w => w.1 = key
  let s := { s with tor := { s.tor with outWait := s.tor.outWait.filter fun w => w.1 ≠ key } }
  due.foldl (fun s w =>
    if w.2.2.1 < s.mono then
      (s.count Reg.adm_ADM_BOUND_MISS).raise (64 + w.2.2.2) 0x010A (w.2.1 / 512 * 2 ^ 24 + w.2.1 % 512)
    else s) s

end Sys2Proof.Machine
end

