-- ==== Sys2Proof/Machine/Streams.lean ====
section
/-!
DEFINITION. The stream table, the sample store, the reckoning model and the filter chain: what sample ingest, the tiles,
the capture engine and the aperture share (chapters 08 and 09).
-/

namespace Sys2Proof.Machine

/-! ### Stream-table entries (R238–R241) -/

def entFlags (e : Bytes) : Nat := le 2 2 e
def entPeer (e : Bytes) : Nat := le 0 2 e
/-- Rate f, samples/s (R241). -/
def entRate (e : Bytes) : Nat := match entFlags e % 4 with
  | 0 => 4000 | 1 => 4800 | 2 => 12800 | _ => 14400
/-- Nominal frequency F, Hz. -/
def entFnom (e : Bytes) : Nat := if bit 2 (entFlags e) then 60 else 50
def entSyncReq (e : Bytes) : Bool := bit 3 (entFlags e)
def entValid (e : Bytes) : Bool := bit 4 (entFlags e)
def entAsdus (e : Bytes) : Nat := bits 7 5 (entFlags e) + 1
/-- CHANNELS: 0 acts as 1, above 24 as 24. -/
def entChannels (e : Bytes) : Nat := clampN 1 24 (bits 12 8 (entFlags e))
/-- HORIZON_P: 7 acts as 6. -/
def entHorizon (e : Bytes) : Nat := min 6 (bits 15 13 (entFlags e))
def entConfRev (e : Bytes) : Nat := le 4 4 e
/-- WINDOW, µs. -/
def entWindow (e : Bytes) : Nat := clampN 40 400 (le 8 2 e)
def entTolAbs (e : Bytes) : Nat := le 10 2 e
def entTolRel (e : Bytes) : Nat := le 12 2 e
def entOwner (e : Bytes) : Nat := if le 14 1 e < 128 then le 14 1 e else 255
def entSlotBase (e : Bytes) : Nat := le 16 2 e
def entSwRes (e : Bytes) : Nat := le 18 2 e
def entRing (e : Bytes) : Nat := le 20 4 e

/-- The sample period in units of 1/9 ns, exact (R244). -/
def entPeriod (e : Bytes) : Nat := unitsSec / entRate e
/-- Samples per nominal period (R239). -/
def entN (e : Bytes) : Nat := entRate e / entFnom e
/-- Depth of the ring (R258). -/
def entDepth (e : Bytes) : Nat := 12 * entRate e

/-- An entry with a 16-bit field written. -/
def putLe (e : Bytes) (off len v : Nat) : Bytes := e.take off ++ leBytes len v ++ e.drop (off + len)

/-- The two entries differ at most in the fields that keep the ring (R257), among them the fields of the admission unit. -/
def keepsRing (e f : Bytes) : Bool :=
  entPeer e = entPeer f && entRate e = entRate f && entFnom e = entFnom f && entAsdus e = entAsdus f
    && entChannels e = entChannels f && entConfRev e = entConfRev f && entSlotBase e = entSlotBase f
    && entRing e = entRing f

/-! ### Streams -/

def State.strm (s : State) (k : Nat) : StreamX := Tbl.look ({} : StreamX) s.sv.streams k
def State.setStrm (s : State) (k : Nat) (x : StreamX) : State :=
  { s with sv := { s.sv with streams := Tbl.put ({} : StreamX) s.sv.streams k x } }

/-- A stream is admitted and current. -/
def State.live (s : State) (k : Nat) : Bool := !(s.strm k).entry.isEmpty && !(s.strm k).gone

/-- The entry in force, [] for a stream that is not current. -/
def StreamX.now (x : StreamX) : Bytes := if x.gone then [] else x.entry

/-- The stream that owns a channel slot, with the channel (R279): a current one, or one removed whose ring stays. -/
def State.slotOwner (s : State) (c : Nat) : Option (Nat × Nat) :=
  let has := fun (e : Bytes) => !e.isEmpty && entSlotBase e ≤ c && c < entSlotBase e + entChannels e
  ((s.sv.streams.find? fun e => has e.2.now).or (s.sv.streams.find? fun e => has e.2.entry)).map fun e =>
    (e.1, c - entSlotBase e.2.entry)

/-- STATE of a stream (R256). -/
def State.strState (s : State) (k new : Nat) : State :=
  let old := s.raw Reg.str_STATE k
  if old = new then s else (s.wr Reg.str_STATE k new).raise 48 0x0100 (k + new * 2 ^ 16 + old * 2 ^ 20)

/-- The version of the entry that is in force at the nominal time of a sample (R247). -/
def State.entryAt (s : State) (k a : Nat) : Bytes :=
  let x := s.strm k
  if x.prev.isEmpty || x.changed ≤ a * entPeriod x.entry then x.entry else x.prev

/-- A stream enters STARTING; samples before number `a` no longer count (R253, R256, R276). -/
def State.startStream (s : State) (k a : Nat) : State :=
  let x := s.strm k
  let s := s.setStrm k { x with since := a, real := 0, base := none, phasors := [] }
  let s := (List.range (entChannels x.entry)).foldl
    (fun s c => s.wr Reg.slot_SETTLING (entSlotBase x.entry + c) 1) s
  s.strState k 1

/-! ### The sample store (R258, R259) -/

def recReckoned : Nat := 0x00010000
def recConfirmed : Nat := 0x00020000
def recMismatch : Nat := 0x00040000
def recSubst : Nat := 0x00080000
def recNorec : Nat := 0x00100000
def recLate : Nat := 0x00200000
def recTagfail : Nat := 0x02000000
def recSyncLocal : Nat := 0x04000000

def storeKey (k i : Nat) : Nat := k * 2 ^ 18 + i

/-- What the ring holds at the index of sample `a`. -/
def State.ringAt (s : State) (k a : Nat) : Sample :=
  Tbl.look ({} : Sample) s.sv.store (storeKey k (a % entDepth (s.strm k).entry))

/-- Sample `a` itself, once it is stored. -/
def State.sampleOf (s : State) (k a : Nat) : Option Sample :=
  let x := s.ringAt k a
  if x.record ≠ 0 && x.a = a then some x else none

/-- RECKONED with no later verdict (R324). -/
def recOpen (r : Nat) : Bool := bit 16 r && !bit 17 r && !bit 18 r && !bit 19 r

/-- A real sample was stored: on time, late, or after a comparison. -/
def recReal (r : Nat) : Bool := bit 27 r && !bit 19 r && (!bit 16 r || bit 17 r || bit 18 r)

/-- The record of a sample: its flags, the summary of its qualities, WRITTEN and the second (R259). -/
def recordOf (smpCnt sec flags : Nat) (quals : List Nat) : Nat :=
  smpCnt % 2 ^ 16 + flags + b2n (quals.any fun q => q % 4 = 1) * 2 ^ 22 + b2n (quals.any fun q => q % 4 = 3) * 2 ^ 23
    + b2n (quals.any fun q => bit 2 q) * 2 ^ 24 + 2 ^ 27 + sec % 16 * 2 ^ 28

/-- Validity questionable, unless it is invalid (R255). -/
def toQuest (q : Nat) : Nat := if q % 4 = 1 then q else q / 4 * 4 + 3

/-- Quality of a reckoned sample from the last real one (R255). -/
def qualReckoned (q : Nat) : Nat := setBit 10 (toQuest q)

/-- Quality where reckoning is unavailable (R255). -/
def qualNorec (q : Nat) : Nat := setBit 7 (setBit 10 (q / 4 * 4 + 1))

/-! ### Filter responses (R267, R270) -/

def firTaps (code : Nat) : Nat := ([1, 51, 101, 201, 301, 23, 45, 67] : List Nat).getD code 1
def firDec (code : Nat) : Nat := ([1, 2, 4, 8, 12, 4, 8, 12] : List Nat).getD code 1
def firDelay (code : Nat) : Nat := (firTaps code - 1) / 2
/-- Overall decimation and delay of a chain (R270). -/
def chainM (s1 s2 : Nat) : Nat := firDec s1 * firDec s2
def chainD (s1 s2 : Nat) : Nat := firDelay s1 + firDec s1 * firDelay s2

/-- The coefficient of a response at a distance from its middle (R269). -/
def coefOf (code d : Nat) : Int := if code = 0 then (if d = 0 then 4194304 else 0) else Config.romCoef code d

/-- A sum divided by 2²², to the nearest integer with ties away from zero, saturated to INT32; and whether it was
saturated (R269). -/
def firRound (sum : Int) : Int × Bool :=
  let q : Int := if 0 ≤ sum then (sum + 2097152) / 4194304 else -((-sum + 2097152) / 4194304)
  let c := max (-2147483648) (min 2147483647 q)
  (c, c ≠ q)

/-- A stage at a position: taps over its input, `inp i` being the input `i` steps back. -/
def firStage (code : Nat) (inp : Nat → Int) : Int × Bool :=
  let d := firDelay code
  firRound (((List.range (firTaps code)).map fun i => coefOf code (if i < d then d - i else i - d) * inp i).sum)

def State.fslot (s : State) (c : Nat) : FSlot := Tbl.look ({} : FSlot) s.sv.filters c
def State.setFslot (s : State) (c : Nat) (f : FSlot) : State :=
  { s with sv := { s.sv with filters := Tbl.put ({} : FSlot) s.sv.filters c f } }

/-- The chain applied to a slot. -/
def State.chain (s : State) (c : Nat) : Nat × Nat := (s.raw Reg.slot_S1_SEL c, s.raw Reg.slot_S2_SEL c)

/-- Quality of an output from the qualities of its span (R274). -/
def spanQuality (quals : List Nat) (bypass questionable : Bool) : Nat :=
  let v := if quals.any (fun q => q % 4 = 1) then 1 else if quals.any (fun q => q % 4 = 3) then 3 else 0
  let other := quals.foldl (fun m q => m ||| (q / 4 * 4)) 0
  let v := if questionable && v = 0 && !bypass then 3 else v
  (if bypass then other else setBit 13 other) + v

/-- The output of slot `c`, channel `ch` of stream `k`, at input position `x` (R269–R276). -/
def State.filterOut (s : State) (k ch c x : Nat) : FOut :=
  let (s1, s2) := s.chain c
  let lim := max (s.strm k).since (s.fslot c).applied
  let d := chainD s1 s2
  let inp := fun (y : Nat) => if y < lim then (0 : Int) else toSigned 32 ((s.ringAt k y).vals.getD ch 0)
  let st1 := fun (y : Nat) => firStage s1 fun i => if y < i then 0 else inp (y - i)
  let y0 := st1 x
  let (v, sat2) := if s2 = 0 then (y0.1, false) else firStage s2 fun j => if x < firDec s1 * j then 0 else (st1 (x - firDec s1 * j)).1
  let sat1 := if s2 = 0 then y0.2
    else (List.range (firTaps s2)).any fun j => !(x < firDec s1 * j) && (st1 (x - firDec s1 * j)).2
  let span := ((List.range (2 * d + 1)).filter fun i => i ≤ x).filterMap fun i => s.sampleOf k (x - i)
  let quals := span.map fun y => y.quals.getD ch 0
  let ringing := quals.any (bit 2)
  let settling := x < lim + 2 * d
  let bypass := decide (s1 = 0) && decide (s2 = 0)
  { a := x, val := ofSigned 32 v, qual := spanQuality quals bypass (ringing || settling),
    flags := b2n ringing + 2 * b2n (sat1 || sat2) + 4 * b2n settling + 8 * b2n (span.any fun y => recOpen y.record) }

/-- Status bits of a slot follow its newest output (R275, R276, R282). -/
def State.filterStatus (s : State) (c : Nat) (o : FOut) : State :=
  let ringing := bit 0 o.flags
  let s := if ringing && !s.flag Reg.slot_RINGING c then (s.count Reg.flt_FLT_RINGING).raise 52 0x0100 c else s
  let s := s.wrFlag Reg.slot_RINGING c ringing
  let s := s.wrFlag Reg.slot_SETTLING c (bit 2 o.flags)
  if bit 1 o.flags then
    let s := s.count Reg.flt_FLT_SAT
    if s.flag Reg.slot_SAT c then s else (s.wr Reg.slot_SAT c 1).raise 53 0x0101 c
  else s

/-- FILTER_OUTPUT (R272): the chain writes the output of a slot at input position `x`, if it has one there (R270). -/
def State.filterWrite (s : State) (k ch x : Nat) : State :=
  let c := entSlotBase (s.strm k).entry + ch
  let (s1, s2) := s.chain c
  if x % chainM s1 s2 ≠ 0 then s
  else
    let o := s.filterOut k ch c x
    let f := s.fslot c
    (s.setFslot c { f with outs := (o :: f.outs).take 8 }).filterStatus c o

/-- FILTER_RECOMPUTE (R277): every buffered output whose span holds sample `a` is computed again. -/
def State.filterAgain (s : State) (k a : Nat) : State :=
  (List.range (entChannels (s.strm k).entry)).foldl (fun s ch =>
    let c := entSlotBase (s.strm k).entry + ch
    let (s1, s2) := s.chain c
    let hit := fun (o : FOut) => decide (a ≤ o.a) && decide (o.a ≤ a + 2 * chainD s1 s2)
    let f := s.fslot c
    let n := (f.outs.filter hit).length
    if n = 0 then s
    else
      let outs := f.outs.map fun o => if hit o then s.filterOut k ch c o.a else o
      let s := (s.setFslot c { f with outs := outs }).count Reg.flt_FLT_RECOMPUTE 0 n
      match outs with
      | o :: _ => if hit o then s.filterStatus c o else s
      | [] => s) s

/-! ### Writing a sample -/

/-- A sample written to the store and, where no newer one of the stream stands there, to its channel slots (R246, R254,
R258). -/
def State.putSample (s : State) (k : Nat) (smp : Sample) : State :=
  let x := s.strm k
  let e := x.entry
  let i := smp.a % entDepth e
  let s := { s with sv := { s.sv with
    store := Tbl.put ({} : Sample) s.sv.store (storeKey k i) smp,
    details := Tbl.put [] s.sv.details (k * 256 + smp.a % 256) smp.quals } }
  let s := (List.range (entChannels e)).foldl (fun s ch =>
    let c := entSlotBase e + ch
    let old := Tbl.look ({} : ChSlot) s.sv.slots c
    if old.record ≠ 0 && smp.a < old.a then s
    else
      let new : ChSlot := { a := smp.a, val := smp.vals.getD ch 0, qual := smp.quals.getD ch 0, record := smp.record }
      { s with sv := { s.sv with slots := Tbl.put ({} : ChSlot) s.sv.slots c new } }) s
  match x.newest with
  | some n => if smp.a < n then s else
      (((s.setStrm k { x with newest := some smp.a }).wr Reg.str_LAST_SMPCNT k (smp.a % entRate e)).wr Reg.str_LAST_SEC k
        (smp.a / entRate e)).wr Reg.str_HEAD k i
  | none => (((s.setStrm k { x with newest := some smp.a }).wr Reg.str_LAST_SMPCNT k (smp.a % entRate e)).wr Reg.str_LAST_SEC k
        (smp.a / entRate e)).wr Reg.str_HEAD k i

/-- The filter chain takes the inputs of a stream in the order of their numbers, as far as they are stored. -/
def State.filterRun (s : State) (k : Nat) : Nat → State
  | 0 => s
  | fuel + 1 =>
    let x := s.strm k
    match s.sampleOf k x.front with
    | none => s
    | some _ =>
      let s := s.setStrm k { x with front := x.front + 1 }
      State.filterRun ((List.range (entChannels x.entry)).foldl (fun s ch => s.filterWrite k ch x.front) s) k fuel

/-- A new sample stored, with the filter outputs that follow from it. -/
def State.newSample (s : State) (k : Nat) (smp : Sample) : State := (s.putSample k smp).filterRun k 512

/-! ### Verdicts (R250) -/

/-- The streams that an instance reads or follows (R324, R367): its trigger and the streams of its channel inputs, with
the kind of input; the trigger counts as a raw input. -/
def State.instStreams (s : State) (i : Inst) : List (Nat × Nat) :=
  (1, i.trigger) :: ((i.prog.ins.zip i.inB).filterMap fun tb =>
    if tb.1.kind = 3 then none else (s.slotOwner (tb.2 % 8192)).map fun kc => (tb.1.kind, kc.1))

/-- The physical tile of a logical one. -/
def State.tileOf (s : State) (l : Nat) : Option Nat := match Tbl.look 0 s.tor.phys l with
  | 0 => none
  | t + 1 => some t

def State.tile (s : State) (t : Nat) : Tile := Tbl.look ({} : Tile) s.tor.tiles t
def State.setTile (s : State) (t : Nat) (x : Tile) : State :=
  { s with tor := { s.tor with tiles := Tbl.put ({} : Tile) s.tor.tiles t x } }

/-- The instances of a logical tile. -/
def State.instsOn (s : State) (l : Nat) : List (Nat × Inst) := s.tor.insts.filter fun e => e.2.ltile = l

/-- A verdict is passed to every tile with an instance that reads the stream; the filter chain recomputes (R250, R277). -/
def State.passVerdict (s : State) (k a kind : Nat) : State :=
  let s := s.filterAgain k a
  (List.range 64).foldl (fun s l =>
    match s.tileOf l with
    | none => s
    | some t =>
      if (s.instsOn l).any fun e => (s.instStreams e.2).any fun ks => ks.2 = k then
        let x := s.tile t
        s.setTile t { x with verdicts := x.verdicts ++ [{ stream := k, a := a, kind := kind }] }
      else s) s

/-- A sample is declared SUBSTITUTED for good (R249, R257). -/
def State.declare (s : State) (k a : Nat) : State :=
  let smp := s.ringAt k a
  let s := s.putSample k { smp with record := smp.record ||| recSubst, ref := s.mono }
  let x := s.strm k
  let s := s.setStrm k { x with opens := x.opens.filter fun o => o.a ≠ a }
  ((s.count Reg.str_SVI_SUBST k).raise 49 0x0102 (k + a % entRate x.entry * 2 ^ 16)).passVerdict k a 3

/-- A sample is stored without reckoning (R253). -/
def State.storeNorec (s : State) (k a : Nat) : State :=
  let x := s.strm k
  let n := entChannels x.entry
  let quals := (List.range n).map fun ch => qualNorec (x.lastQuals.getD ch 0)
  let vals := (List.range n).map fun ch => x.lastVals.getD ch 0
  let rec_ := recordOf (a % entRate x.entry) (a / entRate x.entry) (recSubst + recNorec) quals
  let s := s.newSample k { a := a, record := rec_, vals := vals, quals := quals, ref := s.mono }
  ((s.count Reg.str_SVI_SUBST k).raise 49 0x0102 (k + a % entRate x.entry * 2 ^ 16)).passVerdict k a 3

/-! ### Reckoning (R251, R644) -/

/-- F32 operations without their flags. -/
def fAdd (x y : Nat) : Nat := (f32.add x y).1
def fSub (x y : Nat) : Nat := (f32.sub x y).1
def fMul (x y : Nat) : Nat := (f32.mul x y).1
def fDiv (x y : Nat) : Nat := (f32.div x y).1
def fNeg (x : Nat) : Nat := (f32.sgn 1 x 0).1
def fInt (x : Nat) : Nat := (f32.ofI32 x).1
/-- abs(z) with each step rounded. -/
def fAbs (re im : Nat) : Nat := (f32.sqrt (fAdd (fMul re re) (fMul im im))).1

/-- The sums of R251 over n samples ending at number `k`, of which `v i` is the value i samples earlier: real part,
imaginary part and plain sum. -/
def phasorSum (n k : Nat) (v : Nat → Nat) : Nat × Nat × Nat :=
  (List.range n).foldl (fun (z : Nat × Nat × Nat) i =>
    let (c, sn) := f32.turn ((k - i) % n) n
    let x := fInt (v i)
    (fAdd z.1 (fMul x c), fAdd z.2.1 (fNeg (fMul x sn)), fAdd z.2.2 x)) (0, 0, 0)

/-- The phasor of one channel for base number k: `v i` is the value of sample k − i. -/
def phasorOf (n k : Nat) (v : Nat → Nat) : Phasor :=
  let f2 := (f32.round false 2 n).1
  let (a, b, d) := phasorSum n k v
  let (c0, d0, _) := phasorSum n (k - n) fun i => v (n + i)
  let (x1re, x1im, dc) := (fMul f2 a, fMul f2 b, fMul (f32.round false 1 n).1 d)
  let (x0re, x0im) := (fMul f2 c0, fMul f2 d0)
  if (f32.cmp 1 (fAbs x0re x0im) (fInt 16)).1 then
    { x1re := x1re, x1im := x1im, rhoRe := fInt 1, rhoIm := 0, rhoAbs := fInt 1, unit := true, dc := dc }
  else
    let den := fAdd (fMul x0re x0re) (fMul x0im x0im)
    let re := fDiv (fAdd (fMul x1re x0re) (fMul x1im x0im)) den
    let im := fDiv (fSub (fMul x1im x0re) (fMul x1re x0im)) den
    let ab := fAbs re im
    let lim := (f32.minmax true (f32.minmax false ab (f32.round false 5 4).1).1 (f32.round false 4 5).1).1
    let q := fDiv lim ab
    let (re, im) := (fMul re q, fMul im q)
    { x1re := x1re, x1im := x1im, rhoRe := re, rhoIm := im, rhoAbs := fAbs re im,
      unit := decide (re = fInt 1) && decide (im % 2 ^ 31 = 0), dc := dc }

/-- An F32 value to the nearest INT32, ties away from zero, saturated; a NaN gives 0 (R251, R302). -/
def fToInt (x : Nat) : Nat := match f32.dec x with
  | .nan _ => 0
  | .inf neg => if neg then 0x80000000 else 0x7FFFFFFF
  | .fin neg m e =>
    let n : Nat := if 0 ≤ e then m * 2 ^ e.toNat else (2 * m + 2 ^ (-e).toNat) / (2 * 2 ^ (-e).toNat)
    satSigned 32 (signedM neg n)

/-- The reckoned value m samples after base number k (R251, R644). -/
def Phasor.value (p : Phasor) (n k m : Nat) : Nat :=
  let (re, im) : Nat × Nat :=
    if p.unit then (p.x1re, p.x1im)
    else
      let r := f32.powFrac p.rhoAbs m n
      let th := (f32.atan2 p.rhoIm p.rhoRe).1
      let (sn, cs, _) := f32.sincos (fDiv (fMul th (fInt m)) (fInt n))
      let (c, d) := (fMul r cs, fMul r sn)
      (fSub (fMul p.x1re c) (fMul p.x1im d), fAdd (fMul p.x1re d) (fMul p.x1im c))
  let (c, sn) := f32.turn ((k + m) % n) n
  fToInt (fAdd (fSub (fMul re c) (fMul im sn)) p.dc)

/-- |x − y| ≤ max(TOL_ABS, TOL_REL × mag / 65,536) for two INT32 patterns and an F32 magnitude (R254). -/
def inTolerance (abs rel mag x y : Nat) : Bool :=
  let d := (toSigned 32 x - toSigned 32 y).natAbs
  d ≤ abs || match f32.dec mag with
    | .fin _ m e => if 0 ≤ e then d * 65536 ≤ rel * (m * 2 ^ e.toNat) else d * 65536 * 2 ^ (-e).toNat ≤ rel * m
    | .inf _ => decide (rel ≠ 0)
    | .nan _ => false

/-- The last real sample with a number below `a` (R251), searched `fuel` samples back. -/
def State.realBelow (s : State) (k : Nat) : Nat → Nat → Option Nat
  | 0, _ => none
  | fuel + 1, a =>
    if a = 0 || a - 1 < (s.strm k).since then none
    else match s.sampleOf k (a - 1) with
      | some x => if recReal x.record then some (a - 1) else State.realBelow s k fuel (a - 1)
      | none => State.realBelow s k fuel (a - 1)

/-- Phasors of the gap that follows base number b: those kept, or made now (R251). -/
def State.gapPhasors (s : State) (k b : Nat) : List Phasor :=
  let x := s.strm k
  if x.base = some b then x.phasors
  else (List.range (entChannels x.entry)).map fun ch =>
    phasorOf (entN x.entry) b fun i => (s.ringAt k (b - i)).vals.getD ch 0

/-- Reckoning of a sample is available from base number b (R253). -/
def State.canReckon (s : State) (k b : Nat) : Bool :=
  let n := entN (s.strm k).entry
  s.raw Reg.str_STATE k = 2 && 2 * n ≤ (s.strm k).real
    && 4 * ((List.range (2 * n)).filter fun i => bit 19 (s.ringAt k (b - i)).record).length ≤ n

/-- RECKON_CHECK of sample `a` (R248, R249, R253): nothing where it is stored. -/
def State.reckon (s : State) (k a : Nat) : State :=
  let x := s.strm k
  let e := s.entryAt k a
  match s.sampleOf k a with
  | some _ => s
  | none =>
    match s.realBelow k (entDepth e) a with
    | none => s.storeNorec k a
    | some b =>
      if !s.canReckon k b then s.storeNorec k a
      else
        let ph := s.gapPhasors k b
        let n := entN x.entry
        let vals := ph.map fun p => p.value n b (a - b)
        let quals := (s.ringAt k b).quals.map qualReckoned
        let mags := ph.map fun p => fAbs p.x1re p.x1im
        let s := s.setStrm k { x with base := some b, phasors := ph }
        let r := recordOf (a % entRate e) (a / entRate e) recReckoned quals
        let s := (s.newSample k { a := a, record := r, vals := vals, quals := quals }).count Reg.str_SVI_RECKONED k
        let decl := a * entPeriod e + entWindow e * unitsUs + entHorizon e * entPeriod e + entSwRes e * unitsNs
        let y := s.strm k
        let s := s.setStrm k { y with opens := y.opens ++ [{ a := a, declare := decl, mag := mags }] }
        if entHorizon e = 0 then s.declare k a else s

/-! ### Changes of the stream table (R257) -/

/-- A stream is gone: its open samples are declared SUBSTITUTED, and it is IDLE (R257). -/
def State.removeStream (s : State) (k : Nat) : State :=
  let s := (s.strm k).opens.foldl (fun s o => s.declare k o.a) s
  let x := s.strm k
  let s := if x.entry.isEmpty then s else s.setStrm k { x with gone := true, opens := [] }
  (s.wr Reg.str_DEPTH k 0).strState k 0

/-- The samples and details of a stream's ring discarded (R257). -/
def State.clearRing (s : State) (k : Nat) : State :=
  { s with sv := { s.sv with
    store := s.sv.store.filter fun e => e.1 / 2 ^ 18 ≠ k,
    details := s.sv.details.filter fun e => e.1 / 256 ≠ k } }

/-- A chain as it is applied to a stream of rate f; 0 for a slot that no stream owns (R271). Answers the clamps made. -/
def clampChain (f s1 s2 : Nat) : Nat × Nat × Nat :=
  let c1 := 5 ≤ s2 || (5 ≤ s1 && s2 ≠ 0)
  let t2 := if c1 then 0 else s2
  let c2 := f ≠ 0 && f % chainM s1 t2 ≠ 0
  let t2 := if c2 then 0 else t2
  let c3 := f ≠ 0 && f % firDec s1 ≠ 0
  let t1 := if c3 then (if s1 = 4 then 3 else if s1 = 7 then 6 else s1) else s1
  (t1, t2, b2n c1 + b2n (c2 && s2 ≠ 0 && !c1) + b2n c3)

/-- CHAIN_APPLY (R279): the chain of a slot takes effect from input number `a` on. -/
def State.chainApply (s : State) (c a : Nat) : State :=
  let (w1, w2) := s.chain c
  let f := match s.slotOwner c with
    | some (k, _) => entRate (s.strm k).entry
    | none => 0
  let (s1, s2, n) := clampChain f w1 w2
  let s := (s.wr Reg.slot_S1_SEL c s1).wr Reg.slot_S2_SEL c s2
  let s := (List.range n).foldl (fun s _ =>
    s.clampReport 0xFFFF0000 0x04040000 (c * 2 ^ 32 + w1 + w2 * 16) (s1 + s2 * 16) 7) s
  let s := s.setFslot c { outs := [], applied := a }
  let s := ((s.wr Reg.slot_M_ACT c (chainM s1 s2)).wr Reg.slot_D_ACT c (chainD s1 s2)).wr Reg.slot_SETTLING c 1
  let active := ((List.range 8192).filter fun c => s.raw Reg.slot_S1_SEL c ≠ 0 || s.raw Reg.slot_S2_SEL c ≠ 0).length
  (s.wr Reg.flt_CHAINS_ACTIVE 0 active).raise 54 0x0102 (c + chainM s1 s2 * 2 ^ 16)

/-- A stream starts on a new ring: STARTING from the first sample whose nominal time lies at or after now. A chain of its
slots that its rate does not allow is clamped (R271). -/
def State.openStream (s : State) (k : Nat) (e : Bytes) : State :=
  let s := s.clearRing k
  let a := cdiv s.tai (entPeriod e)
  let s := s.setStrm k { entry := e, changed := s.tai, since := a, next := a, front := a, lastRealAt := s.mono }
  let s := (List.range (entChannels e)).foldl (fun s ch =>
    let c := entSlotBase e + ch
    let s := { s with sv := { s.sv with slots := Tbl.put ({} : ChSlot) s.sv.slots c {} } }
    s.setFslot c { s.fslot c with outs := [] }) s
  let s := (s.wr Reg.str_DEPTH k (entDepth e)).startStream k a
  (List.range (entChannels e)).foldl (fun (s : State) ch =>
    let c := entSlotBase e + ch
    let (s1, s2) := s.chain c
    if (clampChain (entRate e) s1 s2).2.2 = 0 then s else s.chainApply c a) s

/-- The entry of stream k becomes `e` ([] none) in the current version (R256, R257). -/
def State.changeStream (s : State) (k : Nat) (e : Bytes) : State :=
  let x := s.strm k
  if e = x.now then s
  else if e.isEmpty then s.removeStream k
  else if s.live k && keepsRing x.entry e then s.setStrm k { x with entry := e, prev := x.entry, changed := s.tai }
  else (if s.live k then s.removeStream k else s).openStream k e

/-- STREAMS, SLOTS_USED, ASDU_LOAD and CHS_LOAD follow what is charged: the entries of every live epoch (R242, R257). -/
def State.chargedStreams (s : State) : List (Nat × Bytes) :=
  ((s.net.epochs.flatMap (·.streams)).reverse.foldl (fun (l : List (Nat × Bytes)) e =>
    if l.any fun x => x.1 = e.1 && keepsRing x.2 e.2 then l else e :: l) [])
def State.syncLoads (s : State) : State :=
  let es := (s.chargedStreams.map (·.2))
  let cur := s.epoch.streams
  (((s.wr Reg.svi_STREAMS 0 cur.length).wr Reg.svi_SLOTS_USED 0 ((es.map entChannels).sum)).wr Reg.svi_ASDU_LOAD 0
    ((es.map entRate).sum)).wr Reg.svi_CHS_LOAD 0 ((es.map fun e => entRate e * entChannels e).sum)

/-- A peer entry takes the identity of a new version and keeps what the module has seen of it (R65). -/
def Peer.mergeInto (new old : Peer) : Peer := { new with state := old.state, lastSeen := old.lastSeen, frames := old.frames }

/-- A loaded version becomes current (R186): its epoch number, peers, streams and handles. -/
def State.activateEpoch (s : State) (e : Epoch) : State :=
  let s := s.wr Reg.swc_CLS_EPOCH 0 e.num
  let s := { s with wh := { s.wh with peers := e.peers.map fun (p : Nat × Peer) => (p.1, p.2.mergeInto (Tbl.look ({} : Peer) s.wh.peers p.1)) } }
  let ks : List Nat := (e.streams.map (fun x => x.1) ++ (s.sv.streams.filter fun (x : Nat × StreamX) => !x.2.now.isEmpty).map fun x => x.1).eraseDups
  let s := ks.foldl (fun s k => s.changeStream k (Tbl.look [] e.streams k)) s
  let s := s.syncLoads.raise 32 0x0100 e.num
  (e.handles.foldl (fun s h => s.complete h stOK e.num) s).finishTxns (e.txns.map some)

end Sys2Proof.Machine
end

