-- ==== Sys2Proof/Machine/SliceOps.lean ====
section
/-!
DEFINITION. Operations of slices and bobbins that other blocks use: completion entries, descriptors, the reset of a
slice, grants (chapter 13).
-/

namespace Sys2Proof.Machine

/-- Register instance of bobbin b of a slice. -/
def bobIx (sl b : Nat) : Nat := sl * 32 + b

/-- DESC_OUT shows the outstanding descriptors (R408). -/
def State.syncDescs (s : State) (sl : Nat) : State := s.wr Reg.slst_DESC_OUT sl (s.sli sl).descs.length

/-! ### Recovery reports (R574) -/

/-- A record of the recovery report: its 32 bytes enter the ring, its code and counter
follow; `at_` is the TAI of detection. -/
def State.recoveryRecord (s : State) (kind outcome ltile tile inst stream first last restore at_ : Nat) : State :=
  let lost := outcome ≠ 0
  let body := leBytes 1 kind ++ leBytes 1 outcome ++ leBytes 1 ltile ++ leBytes 1 tile ++ leBytes 2 inst ++ leBytes 2 stream
    ++ leBytes 4 (if lost then first % 2 ^ 32 else 0) ++ leBytes 4 (if lost then last % 2 ^ 32 else 0)
    ++ time96le at_ ++ leBytes 1 restore ++ leBytes 3 0
  let d := s.domain 0x040C00 0
  let record := s.tor.rcvNext
  let next := (record + 1) % 1024
  let total := (s.tor.rcvTotal + 1) % 2 ^ 32
  let head : Bytes := [0x52, 0x43, 0x56, 0x31] ++ leBytes 4 next ++ leBytes 4 total ++ leBytes 4 0
  let bytes := Memory.writeBytes (Memory.writeBytes d.bytes 0 head) (16 + 32 * s.tor.rcvNext) body
  let s := s.setDomain 0x040C00 0 { d with bytes := bytes, len := max d.len (16 + 32 * (s.tor.rcvNext + 1)) }
  let s := { s with tor := { s.tor with rcvNext := next, rcvTotal := total } }
  let s := s.wr Reg.snd_RCV_NEXT 0 next
  (s.count (if outcome = 0 then Reg.snd_RCV_EXACT else if outcome = 1 then Reg.snd_RCV_LOST else Reg.snd_RCV_OUTSIDE)).raise
    106 0x0103 (outcome + record * 2 ^ 16)

/-! ### Completions (R403, R405, R409) -/

/-- Entries in use in the completion ring of a bobbin. -/
def State.cqUsed (s : State) (sl b : Nat) : Nat :=
  (s.raw Reg.bob_CQ_TAIL (bobIx sl b) + 2 ^ 17 - Tbl.look 0 (s.sli sl).cqHead b) % 2 ^ 17

/-- The 32 bytes of a completion entry without PHASE (R405). -/
def State.cqEntry (s : State) (sl tag word status info src flags : Nat) : Bytes :=
  leBytes 4 tag ++ leBytes 4 word ++ leBytes 1 status ++ leBytes 1 info ++ leBytes 2 (s.raw Reg.slc_GEN sl)
    ++ leBytes 2 src ++ leBytes 1 flags ++ leBytes 1 0 ++ time96le s.tai ++ leBytes 4 0

/-- A completion entry written to host memory with the ring's phase; its vector follows (R405, R409). -/
def State.putEntry (s : State) (sl b : Nat) (entry : Bytes) (noirq : Bool) : State :=
  let i := bobIx sl b
  let n := 2 ^ s.raw Reg.bob_CQ_LOG2 i
  let tail := s.raw Reg.bob_CQ_TAIL i
  let base := s.raw Reg.bob_CQ_BASE_LO i + s.raw Reg.bob_CQ_BASE_HI i * 2 ^ 32
  let fl := putBit 0 (s.flag Reg.bob_PHASE i) (le 14 1 entry)
  let bytes := entry.take 14 ++ leBytes 1 fl ++ entry.drop 15
  let s := s.emit (.hostWrite (s.sliceLink sl) (s.sli sl).pasid (base + 32 * (tail % n)) bytes)
  let s := s.wr Reg.bob_CQ_TAIL i (tail + 1)
  let s := if (tail + 1) % n = 0 then s.wrFlag Reg.bob_PHASE i (!s.flag Reg.bob_PHASE i) else s
  if s.flag Reg.bob_IRQ_EN i && !noirq then s.raiseVector sl (s.rd Reg.bob_VEC i) else s

/-- The counter of a completion status (R406). -/
def State.countDone (s : State) (sl status : Nat) : State :=
  match status with
  | 1 => s.count Reg.slst_SLC_FULL_SHARE sl
  | 2 => s.count Reg.slst_SLC_BAD_DESC sl
  | 3 => s.count Reg.slst_SLC_DMA_ERR sl
  | 4 => s.count Reg.slst_SLC_RX_TRUNC sl
  | 5 => s.count Reg.slst_SLC_TX_FILTER sl
  | _ => s

/-- Descriptors of a bobbin complete in the order of their indices, as far as they are done (R407). -/
def State.flushDone (s : State) (sl b : Nat) : Nat → State
  | 0 => s
  | fuel + 1 =>
    match (s.sli sl).descs.find? fun d => d.bobbin = b with
    | none => s
    | some d =>
      if d.phase ≠ 3 then s
      else
        let entry := s.cqEntry sl (le 12 4 d.bytes) d.word d.status d.info (d.index % 2 ^ 16) d.flags
        let x := s.sli sl
        let s := State.syncDescs (s.setSli sl { x with descs := x.descs.erase d }) sl
        State.flushDone ((s.putEntry sl b entry (bit 1 (le 18 1 d.bytes))).countDone sl d.status) sl b fuel

/-- A descriptor is done with its status. -/
def State.finishDesc (s : State) (sl b idx status info word : Nat) (flags : Nat := 0) : State :=
  let x := s.sli sl
  let s := s.setSli sl { x with descs := x.descs.map fun d =>
    if d.bobbin = b && d.index = idx then { d with phase := 3, status := status, info := info, word := word, flags := flags } else d }
  s.flushDone sl b x.descs.length

/-- A completion output's entry (R307, R413, R418): written, held while the slice is FROZEN, or dropped and counted. -/
def State.commitCompletion (s : State) (sl b : Nat) (entry : Bytes) : State :=
  let i := bobIx sl b
  let st := s.raw Reg.slc_STATE sl
  let drop := fun (cause : Nat) => (s.count Reg.slst_SLC_CQ_OVF sl).raise 121 0x0103 (sl * 2 ^ 24 + cause * 2 ^ 8 + b)
  if st = 4 then
    if (s.sli sl).hold.length < 1024 then s.setSli sl { s.sli sl with hold := (s.sli sl).hold ++ [(b, entry)] }
    else s.count Reg.slst_SLC_CQ_OVF sl
  else if st = 2 then s.count Reg.slcg_SLC_STALE_DROP
  else if !s.flag Reg.bob_EN i || s.raw Reg.bob_KIND i ≠ 3 || s.raw Reg.bob_BSTATE i = 2 then drop 1
  else if 2 ^ s.raw Reg.bob_CQ_LOG2 i ≤ s.cqUsed sl b then drop 0
  else s.putEntry sl b entry false

/-! ### Bobbins off -/

/-- A bobbin is OFF with its indices at reset (R410, R416). -/
def State.bobbinOff (s : State) (sl b : Nat) : State :=
  let i := bobIx sl b
  let s := ((((s.wr Reg.bob_EN i 0).wr Reg.bob_BSTATE i 0).wr Reg.bob_SQ_HEAD i 0).wr Reg.bob_CQ_TAIL i 0).wr Reg.bob_PHASE i 1
  let x := s.sli sl
  State.syncDescs (s.setSli sl { x with
    sqTail := Tbl.drop x.sqTail b, cqHead := Tbl.drop x.cqHead b, descs := x.descs.filter fun d => d.bobbin ≠ b }) sl

/-- The oldest descriptor of a bobbin that holds a posted receive or capture buffer. -/
def State.posted1 (s : State) (sl b : Nat) : Option Desc := (s.sli sl).descs.find? fun d => d.bobbin = b && d.phase = 2

/-! ### Slice commands and handles (R393–R395) -/

/-- A slice command's handle completes, with its event and, for a command block, its RESULT (R393). -/
def State.sliceDone (s : State) (src : Requester) (h status result : Nat) : State :=
  if 2 ^ 32 ≤ h then s
  else
    let s := s.complete h status result
    let s := match src with
      | .block l => s.wr Reg.cmdb_RESULT l result
      | _ => s
    s.raise (sliceCmdSource src) 0x0101 h

/-- The generation moves on (R391). -/
def State.nextGen (s : State) (sl : Nat) : State :=
  let g := s.raw Reg.slc_GEN sl
  s.wr Reg.slc_GEN sl (if g = 0xFFFF then 1 else g + 1)

/-- The frames of a slice not yet on the wire leave the switch core (R209, R416). -/
def State.dropSliceFrames (s : State) (sl : Nat) : State :=
  let fs := s.net.frames.filter fun f => f.owner = sl
  let s := fs.foldl (fun s f => (f.ports.foldl (fun s q => s.dropCopy f.id q) s).count Reg.swc_SWC_DROP_RESET) s
  { s with net := { s.net with
    sendDone := s.net.sendDone.filter fun d => d.1 ≠ sl,
    sendFull := s.net.sendFull.filter fun d => d.1 ≠ sl,
    toHost := s.net.toHost.filter fun f => f.owner ≠ sl } }

/-- What a response begins with: OP + 0x80, the status and the request's REQID (R78). -/
def responseHead (op status reqId : Nat) : Bytes := beBytes 1 (op + 0x80) ++ beBytes 1 status ++ beBytes 2 reqId

/-- The mailbox request of a slice, waiting or made and not yet written, completes with ABORTED (R63, R416). -/
def State.abortMailbox (s : State) (src : Requester) : State :=
  let open_ := (s.wh.queue.any fun r => r.src = src) || s.wh.responses.any fun r => r.src = src
  if !open_ then s
  else
    let gen := match src with
      | .slice x => s.raw Reg.slc_GEN x
      | _ => 0
    let head : Bytes := match s.wh.queue.find? fun r => r.src = src with
      | some r => responseHead r.op stABORTED r.reqId
      | none => match s.wh.responses.find? fun r => r.src = src with
        | some x => x.bytes.take 1 ++ beBytes 1 stABORTED ++ slice 2 2 x.bytes
        | none => []
    let r : Response := { src := src, status := stABORTED, bytes := head, gen := gen }
    { s with wh := { s.wh with
      queue := s.wh.queue.filter fun r => r.src ≠ src,
      responses := (s.wh.responses.filter fun r => r.src ≠ src) ++ [r] } }

/-- What a slice reset does at once (R416): the new generation, aborted handles and transaction, frames dropped, bobbins
off, vectors and aperture as after reset. Its own slice commands are left to the caller. -/
def State.resetSlice (s : State) (sl : Nat) : State :=
  let s := (s.nextGen sl).wr Reg.slc_STATE sl 2
  let s := (s.wh.handles.filter fun o => o.slice = some sl).foldl (fun s o => s.complete o.handle stABORTED) s
  let s := s.abortMailbox (.slice sl)
  let s := { s with wh := { s.wh with txns := s.wh.txns.filter fun t => t.scope ≠ some sl } }
  let s := s.dropSliceFrames sl
  let s := (List.range 32).foldl (fun s b => s.bobbinOff sl b) s
  let s := (s.wr Reg.vec_SLC_VEC_PEND sl 0).wr Reg.vec_SLC_VEC_MASK sl 0xFFFFFFFF
  let s := { s with hif := { s.hif with vecDue := Tbl.drop s.hif.vecDue sl } }
  let s := (List.range 8).foldl (fun s p => s.wr Reg.apt_APT_EN (sl * 8 + p) 0) s
  s.setSli sl { s.sli sl with hold := [] }

/-! ### Grants (R399, R400) -/

/-- Slice `sl` has a right over a stream (kind 1) or a signal slot (kind 2): right 0 reads, 1 writes. -/
def State.granted (s : State) (sl kind x right : Nat) : Bool :=
  (s.sli sl).grants.any fun g =>
    g.2.kind = kind && g.2.first ≤ x && x < g.2.first + g.2.count && bit right g.2.rights

/-- The slice has an admitted instance set or scan program. -/
def State.hasFunctions (s : State) (sl : Nat) : Bool :=
  (s.tor.insts.any fun i => i.1 / 512 = sl) || s.scan.any fun p => p.1 = sl

end Sys2Proof.Machine
end

