-- ==== Sys2Proof/Machine/CapOps.lean ====
section
/-!
DEFINITION. Operations of the capture engine: sets and their entries, staging, rows, triggers and marks, the drain into
posted buffers (chapter 15); and the signal slots, whose commits fire its triggers (R64).
-/

namespace Sys2Proof.Machine

/-! ### Signal slots (R64) -/

def State.signal (s : State) (n : Nat) : Signal := Tbl.look ({} : Signal) s.wh.signals n
def State.setSignal (s : State) (n : Nat) (x : Signal) : State :=
  { s with wh := { s.wh with signals := Tbl.put ({} : Signal) s.wh.signals n x } }

/-- Value and quality that readers of a slot see: the force value while it is forced (R64, R341). -/
def State.readSignal (s : State) (n : Nat) : Nat × Nat :=
  let x := s.signal n
  (if x.forceEn then x.forceVal else x.value, x.quality)

/-! ### Entries (R460, R466) -/

def setOwner (e : Bytes) : Nat := le 0 1 e
def setValid (e : Bytes) : Bool := bit 0 (le 1 1 e)
def setBase (e : Bytes) : Nat := le 2 2 e % 1024
def setBobbin (e : Bytes) : Nat := le 4 1 e
def setDivMax (e : Bytes) : Nat := 2 ^ le 5 1 e
def setDrive (e : Bytes) : Nat := le 6 1 e % 16
def setMemberBase (e : Bytes) : Nat := le 8 2 e
def setMemberCount (e : Bytes) : Nat := le 10 2 e
/-- Staging in bytes. -/
def setStage (e : Bytes) : Nat := le 12 2 e * 2 ^ 20
def setPost (e : Bytes) : Nat := le 14 2 e
def setRestore (e : Bytes) : Nat := le 16 2 e
def setHoldoff (e : Bytes) : Nat := le 18 2 e

/-- Trigger entry j: SRC, EDGE, TARGET. -/
def setTrig (e : Bytes) (j : Nat) : Nat × Nat × Nat :=
  let o := 32 + 8 * j
  let src := le o 1 e
  let edge := le (o + 1) 1 e % 4
  (if 4 < src then 0 else src, if edge = 0 then 1 else edge, le (o + 4) 4 e)

/-- Target and kind of a member: 1 a channel slot, 2 a signal slot. -/
def memTarget (m : Nat) : Nat := m % 2 ^ 18
def memKind (m : Nat) : Nat := m / 2 ^ 18 % 4

/-- Bytes of a row of m members (R464). -/
def rowLen (m : Nat) : Nat := cdiv (6 * m) 8 * 8

def State.cset (s : State) (k : Nat) : CapSet := Tbl.look ({} : CapSet) s.cap.sets k

/-- The set is in force. -/
def CapSet.on (x : CapSet) : Bool := !x.entry.isEmpty

/-! ### Staging (R471–R475) -/

/-- Bytes of a staged item: a row that opens a SAMPLES record brings its header. -/
def CapItem.size (i : CapItem) : Nat := i.bytes.length + if i.opens then 16 else 0

/-- Staging bytes in use: F. -/
def CapSet.fill (x : CapSet) : Nat :=
  (x.staging.map CapItem.size).sum - min (x.moved / 8) ((x.staging.head?.map CapItem.size).getD 0)

/-- Rows leave 4 KiB of the staging to the other records (R475). -/
def CapSet.rowFits (x : CapSet) (n : Nat) : Bool := decide (x.fill + n + 4096 ≤ setStage x.entry)

/-- A set replaced, its registers following: divisor, hold and fill; `lowSince` follows the fill (R474). -/
def State.setCset (s : State) (k : Nat) (x : CapSet) : State :=
  let low := x.on && decide (4 * x.fill ≤ setStage x.entry)
  let x := { x with lowSince := if low then x.lowSince.or (some s.mono) else none }
  let s := (s.wr Reg.cset_FILL_KIB k (x.fill / 1024)).wrFlag Reg.cset_HOLD k x.holdEnd.isSome
  { s with cap := { s.cap with sets := Tbl.put ({} : CapSet) s.cap.sets k x } }

/-- A record other than SAMPLES: TYPE, LEN, bytes 4–7 and the body, a multiple of 8 bytes (R470). -/
def capRecord (type : Nat) (four body : Bytes) : Bytes :=
  leBytes 1 type ++ leBytes 1 0 ++ leBytes 2 (8 + body.length) ++ four ++ body

/-- A record staged, which closes the SAMPLES record before it (R471). -/
def CapSet.stage (x : CapSet) (r : Bytes) : CapSet :=
  { x with staging := x.staging ++ [{ bytes := r }], rows := 0, lastRow := none }

/-- A row staged: it opens a SAMPLES record after 64 rows, after another record, and where the ticks do not follow on
(R470, R471). -/
def CapSet.stageRow (x : CapSet) (a div : Nat) (row : Bytes) : CapSet :=
  let follows := match x.lastRow with
    | some (b, d) => decide (d = div) && decide (b + div = a)
    | none => false
  let opens := !follows || x.rows = 64
  { x with staging := x.staging ++ [{ tick := some (a, div), opens := opens, bytes := row }],
           rows := if opens then 1 else x.rows + 1, lastRow := some (a, div) }

/-- The START record of a set (R462, R470). -/
def CapSet.start (x : CapSet) : Bytes :=
  capRecord 5 (leBytes 2 x.members.length ++ leBytes 1 1 ++ leBytes 1 0)
    (leBytes 4 (crc32c (x.entry ++ x.members.flatMap (leBytes 4))) ++ leBytes 4 0)

/-- Marks that wait go into the staging as far as it has room (R468). -/
def State.stageMarks (s : State) (k : Nat) : Nat → State
  | 0 => s
  | n + 1 =>
    let x := s.cset k
    match x.marks with
    | [] => s
    | m :: ms =>
      if setStage x.entry < x.fill + m.length then s
      else
        let hold := if setPost x.entry = 0 then x.holdEnd else some (s.mono + setPost x.entry * unitsMs)
        let x := CapSet.stage { x with marks := ms, holdEnd := hold } m
        State.stageMarks ((s.setCset k x).count Reg.cset_CAP_MARKS k) k n

/-- A step of the divisor (R473, R474): the RATE record, the counter, the event. -/
def State.capStep (s : State) (k a new : Nat) : State :=
  let x := s.cset k
  let old := s.raw Reg.cset_DIV_ACT k
  let down := old < new
  let r := capRecord 3 (leBytes 1 old ++ leBytes 1 new ++ leBytes 1 (if down then 1 else 2) ++ leBytes 1 0)
    (leBytes 8 a ++ leBytes 4 x.fill ++ leBytes 4 0)
  let s := (s.wr Reg.cset_DIV_ACT k new).setCset k
    { x.stage r with lastStep := some s.mono, lowSince := none, step := none }
  if down then (s.count Reg.cset_CAP_RATE_DOWN k).raise 57 0x0102 (k + new * 2 ^ 8)
  else (s.count Reg.cset_CAP_RATE_UP k).raise 57 0x0103 (k + new * 2 ^ 8)

/-- A reduction is due: the fill has reached 75 %, no hold runs, and 10 ms have passed since the last step (R473, R475). -/
def State.wantDown (s : State) (k : Nat) : Bool :=
  let x := s.cset k
  decide (3 * setStage x.entry ≤ 4 * x.fill) && decide (s.raw Reg.cset_DIV_ACT k < setDivMax x.entry) && x.holdEnd.isNone
    && (match x.lastStep with
      | some t => decide (t + 10 * unitsMs ≤ s.mono)
      | none => true)

/-- A reduction that is due waits for its tick. -/
def State.armDown (s : State) (k : Nat) : State :=
  if s.wantDown k then s.setCset k { s.cset k with step := some (2 * s.raw Reg.cset_DIV_ACT k) } else s

/-! ### Marks and XTRIG (R466–R468) -/

/-- Number of XTRIG line j in `Output.pin`. -/
def pinXtrig (j : Nat) : Nat := 1 + j

/-- The module drives line j for 2 µs. -/
def State.driveXtrig (s : State) (j : Nat) : State :=
  let s : State := { s with cap := { s.cap with drive := Tbl.ins (s.mono + 2 * unitsUs) s.cap.drive j } }
  (s.wr Reg.cap_XTRIG_LVL 0 (setBit j (s.raw Reg.cap_XTRIG_LVL))).emit (.pin (pinXtrig j) 1)

/-- The newest tick of a stream at or before a TAI instant. -/
def State.tickAt (s : State) (base tai : Nat) : Nat := tai / entPeriod (s.strm base).entry

/-- A mark of set k (R468, R470): its source and entry, the TAI of the firing, INFO. -/
def State.mark (s : State) (k src entry tai info : Nat) : State :=
  let x := s.cset k
  let tick := if s.live (setBase x.entry) then s.tickAt (setBase x.entry) tai else 0
  let r := capRecord 2 (leBytes 1 src ++ leBytes 1 entry ++ leBytes 2 0) (leBytes 8 tick ++ time96le tai ++ leBytes 4 info)
  let s := if 256 ≤ x.marks.length then (s.count Reg.cap_CAP_MARK_LOST).raise 60 0x0105 k
    else State.stageMarks (s.setCset k { x with marks := x.marks ++ [r] }) k 257
  let s := s.raise 59 0x0101 (k + entry * 2 ^ 8)
  if src = 1 then s
  else ((List.range 4).filter fun j => bit j (setDrive x.entry)).foldl (fun (s : State) j => s.driveXtrig j) s

/-- Trigger entry j of set k fires, at most once per HOLDOFF_MS (R466). -/
def State.fire (s : State) (k j src tai info : Nat) : State :=
  let x := s.cset k
  let early := match x.fired.find? fun e => e.1 = j with
    | some (_, t) => decide (s.mono < t + setHoldoff x.entry * unitsMs)
    | none => false
  if early then s.count Reg.cap_CAP_TRIG_SUPPRESS
  else (s.setCset k { x with fired := Tbl.ins s.mono x.fired j }).mark k src j tai info

/-- Every trigger entry of every set for which `p set SRC EDGE TARGET` holds fires, in order. -/
def State.fireAll (s : State) (src tai info : Nat) (p : Bytes → Nat → Nat → Bool) : State :=
  s.cap.sets.foldl (fun (s : State) e => (List.range 4).foldl (fun (s : State) j =>
    let (sr, edge, target) := setTrig e.2.entry j
    if e.2.on && sr = src && p e.2.entry edge target then s.fire e.1 j src tai info else s) s) s

/-- A signal slot is about to change: what capture rows of earlier ticks still need is kept for 10 s (R465). -/
def State.notePast (s : State) (n : Nat) : State :=
  if s.cap.sets.any fun e => e.2.members.any fun m => memKind m = 2 && memTarget m = n then
    let x := s.signal n
    let p : SigPast := { slot := n, tai := s.tai, value := (s.readSignal n).1, qual := x.quality, forced := x.forceEn }
    { s with cap := { s.cap with past := p :: s.cap.past.filter fun y => s.tai ≤ y.tai + 10 * unitsSec } }
  else s

/-- A committed value of a slot: value, quality and time of commit (R338). A commit that matches an entry's EDGE fires it
while the set's owner holds a read grant for the slot (R467). -/
def State.commitSignal (s : State) (n value qual : Nat) : State :=
  let old := (s.signal n).value
  let s := s.notePast n
  let s := s.setSignal n { s.signal n with value := value, quality := qual % 2 ^ 16, time := s.tai }
  if old = value then s
  else s.fireAll 4 s.tai (value % 2 ^ 32) fun e edge target =>
    target % 2 ^ 18 = n && s.granted (setOwner e) 2 n 0
      && (edge = 3 || edge = 1 && old = 0 || edge = 2 && value = 0)

/-! ### Rows (R463–R465) -/

/-- A slot's value, quality and force as they stood at a TAI instant. -/
def State.signalAt (s : State) (n tai : Nat) : Nat × Nat × Bool :=
  let x := s.signal n
  match (s.cap.past.filter fun p => p.slot = n && tai < p.tai).getLast? with
  | some p => (p.value, p.qual, p.forced)
  | none => ((s.readSignal n).1, x.quality, x.forceEn)

/-- The value and quality word of a member at tick a (R463, R465). -/
def State.memberValue (s : State) (base a m : Nat) : Nat × Nat :=
  if memKind m = 1 then
    match s.slotOwner (memTarget m) with
    | none => (0, 0x8001)
    | some (k, c) =>
      if !s.live k then (0, 0x8001)
      else match s.sampleOf k a with
        | none => (0, 1)
        | some y => (y.vals.getD c 0,
            y.quals.getD c 0 % 2 ^ 14 + b2n (bit 16 y.record) * 2 ^ 14 + b2n (bit 19 y.record) * 2 ^ 15)
  else
    let n := memTarget m
    let (v, q, forced) := s.signalAt n (a * entPeriod (s.strm base).entry)
    (if (s.signal n).vtype = 0x0B then (f64.convert f32 v).1 else v % 2 ^ 32, q % 2 ^ 14 + b2n forced * 2 ^ 14)

/-- The row of tick a (R464). -/
def State.capRow (s : State) (x : CapSet) (a : Nat) : Bytes :=
  let vs := x.members.map (s.memberValue (setBase x.entry) a)
  padTo (rowLen x.members.length) (vs.flatMap (fun v => leBytes 4 v.1) ++ vs.flatMap fun v => leBytes 2 v.2)

/-- L of R465 in units of 1/9 ns. -/
def State.capDelay (s : State) (x : CapSet) : Nat :=
  (x.members.filterMap fun m => if memKind m = 1 then (s.slotOwner (memTarget m)).map fun kc =>
      let e := (s.strm kc.1).entry
      entWindow e * unitsUs + entHorizon e * entPeriod e + entSwRes e * unitsNs
    else none).foldl max 0 + 2 * unitsUs

/-- Full-rate traffic of a set in bytes/s, counted once into staging and once out of it (R461). -/
def State.setTraffic (s : State) (e : Bytes) : Nat :=
  let rate := entRate (s.strm (setBase e)).entry
  2 * (rate * rowLen (setMemberCount e) + cdiv rate 64 * 16)

/-- The capture traffic of the sets in force (R383, R461). -/
def State.capTraffic (s : State) : Nat := (s.cap.sets.map fun e => if e.2.on then s.setTraffic e.2.entry else 0).sum

/-! ### Drain (R469, R472) -/

/-- The bobbin of a set is an enabled CAPTURE bobbin in operation (R472). -/
def State.capBobbin (s : State) (e : Bytes) : Bool :=
  let i := bobIx (setOwner e) (setBobbin e)
  s.raw Reg.slc_STATE (setOwner e) = 1 && s.flag Reg.bob_EN i && s.raw Reg.bob_KIND i = 4 && s.raw Reg.bob_BSTATE i = 1

/-- A posted buffer of the set's bobbin that no set fills. -/
def State.capPosted (s : State) (e : Bytes) : Option Desc :=
  let taken := s.cap.sets.filterMap fun y => if setOwner y.2.entry = setOwner e && setBobbin y.2.entry = setBobbin e then
      y.2.buf.map fun (b : CapBuf) => b.index else none
  (s.sli (setOwner e)).descs.find? fun d => d.bobbin = setBobbin e && d.phase = 2 && !taken.contains d.index

/-- STATE of a set: 0 off, 3 BASE not admitted, 1 draining, 2 waiting for its bobbin (R477). -/
def State.capState (s : State) (k : Nat) : Nat :=
  let x := s.cset k
  if !x.on then 0
  else if !s.live (setBase x.entry) then 3
  else if s.capBobbin x.entry && (x.buf.isSome || (s.capPosted x.entry).isSome) then 1 else 2

/-- Bytes of a SAMPLES record. -/
def samplesRec (first div : Nat) (rows : List Bytes) : Bytes :=
  let body := rows.flatten
  leBytes 1 1 ++ leBytes 1 0 ++ leBytes 2 (16 + body.length) ++ leBytes 2 rows.length ++ leBytes 1 div ++ leBytes 1 0
    ++ leBytes 8 first ++ body

/-- The bytes of a buffer's records with its open SAMPLES record closed (R471). -/
def CapBuf.all (b : CapBuf) : Bytes :=
  b.recs ++ match b.open_ with
    | some (f, d, rows) => samplesRec f d rows
    | none => []

/-- The buffer of a set is completed (R469): header and records go to host memory. A buffer of an old generation is
discarded (R391). -/
def State.closeBuf (s : State) (k : Nat) : State :=
  let x := s.cset k
  match x.buf with
  | none => s
  | some b =>
    let e := x.entry
    let sl := setOwner e
    let s := (s.setCset k { x with buf := none, fresh := false }).wr Reg.cset_SEQ k (s.raw Reg.cset_SEQ k + 1)
    if b.gen ≠ s.raw Reg.slc_GEN sl then s.count Reg.slcg_SLC_STALE_DROP
    else match (s.sli sl).descs.find? fun d => d.bobbin = setBobbin e && d.index = b.index && d.phase = 2 with
      | none => s
      | some d =>
        let used := 32 + b.all.length
        let head : Bytes := [0x43, 0x41, 0x50, 0x31] ++ leBytes 2 1 ++ leBytes 1 k ++ leBytes 1 (b2n x.fresh)
          ++ leBytes 4 (s.raw Reg.cset_SEQ k + 2 ^ 32 - 1) ++ leBytes 4 used ++ leBytes 8 (b.first.getD (2 ^ 64 - 1)) ++ leBytes 1 b.div
          ++ List.replicate 7 0
        let s := s.emit (.hostWrite (s.sliceLink sl) (s.sli sl).pasid (le 0 8 d.bytes) (head ++ b.all))
        s.finishDesc sl (setBobbin e) b.index 0 0 used

/-- An item put into a buffer: a row joins the open SAMPLES record or begins one; another record closes it. -/
def CapBuf.add (b : CapBuf) (i : CapItem) : CapBuf :=
  match i.tick with
  | none => { b with recs := b.all ++ i.bytes, open_ := none }
  | some (a, d) =>
    let b := { b with first := b.first.or (some a) }
    match b.open_ with
    | some (f, dv, rows) => if i.opens then { b with recs := b.all, open_ := some (a, d, [i.bytes]) }
      else { b with open_ := some (f, dv, rows ++ [i.bytes]) }
    | none => { b with open_ := some (a, d, [i.bytes]) }

/-- Bytes that an item takes in a buffer. -/
def CapBuf.cost (b : CapBuf) (i : CapItem) : Nat :=
  i.bytes.length + if i.tick.isSome && (i.opens || b.open_.isNone) then 16 else 0

/-- The buffer is no longer the set's to fill: its slice was reset or its bobbin switched off (R391, R410). -/
def State.bufGone (s : State) (e : Bytes) (b : CapBuf) : Bool :=
  b.gen ≠ s.raw Reg.slc_GEN (setOwner e)
    || !((s.sli (setOwner e)).descs.any fun d => d.bobbin = setBobbin e && d.index = b.index && d.phase = 2)

/-- The set is ready to move its oldest item: it has a buffer with room for it, a new one if need be (R469). -/
def State.capReady (s : State) (k : Nat) : Option State :=
  let x := s.cset k
  match x.staging with
  | [] => none
  | i :: _ =>
    let s := match x.buf with
      | some b => if b.len < 32 + b.all.length + b.cost i || s.bufGone x.entry b then s.closeBuf k else s
      | none => s
    let x := s.cset k
    match x.buf with
    | some _ => some s
    | none => match s.capPosted x.entry with
      | none => none
      | some d => some (s.setCset k { x with buf := some {
          index := d.index, len := le 8 3 d.bytes, gen := s.raw Reg.slc_GEN (setOwner x.entry), at_ := s.mono,
          div := match i.tick with
            | some (_, v) => v
            | none => s.raw Reg.cset_DIV_ACT k } })

/-- Sets of a slice that can drain, in turn after the one served last. -/
def State.capTurn (s : State) (sl : Nat) : List Nat :=
  let last := Tbl.look 64 s.cap.turn sl
  let ks := s.cap.sets.filterMap fun e =>
    if e.2.on && setOwner e.2.entry = sl && !e.2.staging.isEmpty && s.capBobbin e.2.entry then some e.1 else none
  (ks.filter fun k => last < k) ++ ks.filter fun k => k ≤ last

/-- The drain of a slice's sets in one window: `budget` eighths of a record byte, shared round-robin by item (R472). -/
def State.drainSlice (s : State) (sl budget : Nat) : Nat → State
  | 0 => s
  | n + 1 =>
    if budget = 0 then s
    else match (s.capTurn sl).findSome? fun k => (s.capReady k).map fun t => (k, t) with
      | none => s
      | some (k, t) =>
        let x := t.cset k
        let t : State := { t with cap := { t.cap with turn := Tbl.ins k t.cap.turn sl } }
        match x.staging, x.buf with
        | i :: rest, some b =>
          let need := 8 * b.cost i - x.moved
          if need ≤ budget then
            State.drainSlice (t.setCset k { x with staging := rest, moved := 0, buf := some (b.add i) }) sl (budget - need) n
          else t.setCset k { x with moved := x.moved + budget }
        | _, _ => t

/-- STATE of every set follows; a BASE that goes or comes is reported, and its return writes START (R479). -/
def State.syncCapture (s : State) : State :=
  s.cap.sets.foldl (fun (s : State) e =>
    let k := e.1
    let old := s.raw Reg.cset_STATE k
    let new := s.capState k
    if old = new then s
    else
      let s := s.wr Reg.cset_STATE k new
      if old = 3 then State.raise (s.setCset k ((s.cset k).stage (s.cset k).start)) 56 0x0100 (k + new * 2 ^ 8)
      else if new = 3 then s.raise 56 0x0100 (k + new * 2 ^ 8) else s) s

/-- CAPTURE_DRAIN (R472): the drain of every slice in an accounting window. -/
def State.captureDrain (s : State) : State :=
  let s := s.syncCapture
  let slices := (s.cap.sets.map fun e => setOwner e.2.entry).eraseDups
  State.syncCapture (slices.foldl (fun (s : State) sl =>
    let items := (s.cap.sets.map fun e => e.2.staging.length).sum
    s.drainSlice sl (s.rd Reg.slc_CAP_SHARE sl * 125) (items + 1)) s)

/-- An uncorrectable error strikes the oldest `n` items in the staging of set k: one GAP record replaces them (R478). -/
def State.strikeStaging (s : State) (k n : Nat) : State :=
  let x := s.cset k
  let hit := x.staging.take n
  let ticks := hit.filterMap fun i => i.tick.map fun t => t.1
  let r := capRecord 4 (leBytes 4 0) (leBytes 8 (ticks.head?.getD 0) ++ leBytes 8 (ticks.getLast?.getD 0))
  if hit.isEmpty then s
  else
    let rest := match x.staging.drop n with
      | i :: more => { i with opens := i.tick.isSome } :: more
      | [] => []
    (s.setCset k { x with staging := { bytes := r } :: rest, moved := 0 }).count Reg.cap_CAP_STAGE_ECC

end Sys2Proof.Machine
end

