-- ==== Sys2Proof/Machine/Gate.lean ====
section
/-!
DEFINITION. The commit gate's effects: signal slots, GOOSE publications and their frames, completion outputs, the bound
check and the mirror record (R26–R30, R64, R338, R376–R378, R385).
-/

namespace Sys2Proof.Machine

/-! ### Signal slots (R64) -/

/-- FORCES counts the forced slots (R457). -/
def State.syncForces (s : State) : State := s.wr Reg.scn_FORCES 0 (s.wh.signals.filter fun e => e.2.forceEn).length

/-- A force is released with its slot's writer (R445). -/
def State.releaseForce (s : State) (n : Nat) : State :=
  if (s.signal n).forceEn then
    ((((s.notePast n).setSignal n { s.signal n with forceEn := false }).syncForces).count Reg.scn_SCN_FORCE_REL).raise 82 0x0104 n
  else s

/-- Size in bytes of a value by its type code (R14). -/
def vtSize (vt : Nat) : Nat := if vt = 1 then 1 else if vt = 0x0B then 8 else 4

/-! ### Publications (R376–R379) -/

def State.pub (s : State) (p : Nat) : Pub := Tbl.look ({} : Pub) s.tor.pubs p
def State.setPub (s : State) (p : Nat) (x : Pub) : State :=
  { s with tor := { s.tor with pubs := Tbl.put ({} : Pub) s.tor.pubs p x } }

def pubFlags (e : Bytes) : Nat := le 7 1 e
def pubTplLen (e : Bytes) : Nat := le 4 2 e
def pubOwner (e : Bytes) : Nat := if le 6 1 e < 128 then le 6 1 e else 255
def pubCommand (e : Bytes) : Bool := bit 1 (pubFlags e)
def pubTransit (e : Bytes) : Bool := bit 2 (pubFlags e)
def pubEgress (e : Bytes) : List Nat := (List.range 32).filter fun p => bit p (le 8 4 e)
def pubSa (e : Bytes) : Option Nat := if le 12 2 e = 0xFFFF then none else some (le 12 2 e % 1024)
def pubTMin (e : Bytes) : Nat := clampN 1 100 (le 14 2 e)
def pubTMax (e : Bytes) : Nat := clampN 100 60000 (le 16 2 e)
def pubNDesc (e : Bytes) : Nat := le 18 1 e

/-- Offset, content length and kind of a descriptor (R377). -/
def dscOff (d : Nat) : Nat := d % 2 ^ 16
def dscLen (d : Nat) : Nat := d / 2 ^ 16 % 2 ^ 8
def dscKind (d : Nat) : Nat := d / 2 ^ 24 % 2 ^ 8

/-- Bytes of a frame replaced from an offset. -/
def putAt (f : Bytes) (off : Nat) (b : Bytes) : Bytes := f.take off ++ b ++ f.drop (off + b.length)

/-- The content of every element of a kind set to a number. -/
def setKind (descs : List Nat) (kind : Nat) (v : Nat) (f : Bytes) : Bytes :=
  (descs.filter fun d => dscKind d = kind).foldl (fun f d => putAt f (dscOff d) (beBytes (dscLen d) v)) f

/-- The content bytes of a member: MMS encodings of fixed length (R376, R377). -/
def memberBytes (len vt v : Nat) : Bytes :=
  if vt = 1 then beBytes len (b2n (v ≠ 0))
  else if vt = 4 then beBytes len (ofSigned (8 * len) (toSigned 32 v))
  else if vt = 0x0A then beBytes 1 8 ++ beBytes (len - 1) v
  else if vt = 0x0B then beBytes 1 11 ++ beBytes (len - 1) v
  else beBytes len v

/-- Member m: its descriptor. -/
def Pub.member (p : Pub) (m : Nat) : Option Nat := (p.descs.filter fun d => dscKind d = 5)[m]?

/-- The frame with members given new values. -/
def Pub.withMembers (p : Pub) (ms : List (Nat × Nat × Nat)) : Bytes :=
  ms.foldl (fun f m => match p.member m.1 with
    | some d => putAt f (dscOff d) (memberBytes (dscLen d) m.2.1 m.2.2)
    | none => f) p.frame

/-- TimeAccuracy: the largest n up to 30 for which 2⁻ⁿ s is not smaller than STX_TERR; 31 in FREERUN (R135). -/
def State.timeAccuracy (s : State) : Nat :=
  if s.raw Reg.stx_STATE = 0 then 31
  else ((List.range 31).filter fun n => s.raw Reg.stx_STX_TERR * 2 ^ n ≤ 1000000000).getLast?.getD 0

/-- The flags and accuracy of IEC 61850 TimeQuality (R135): LeapSecondsKnown, ClockFailure, ClockNotSynchronized and
TimeAccuracy, in bits 7, 6, 5 and 4–0 (the places are PRESUMED, log entry 8). -/
def State.timeQuality (s : State) : Nat :=
  let st := s.raw Reg.stx_STATE
  let unsync := if st = 5 then !s.stx.secondsSet else st ≠ 2 && st ≠ 3
  128 * s.raw Reg.stx_UTC_VALID + 64 * s.raw Reg.snd_OCXO_FAIL + 32 * b2n unsync + s.timeAccuracy

/-- The 8 bytes of an MMS UtcTime of a TAI instant: seconds of UTC, binary fraction and TimeQuality (PRESUMED, log entry 8). -/
def State.utcTime (s : State) (tai : Nat) : Bytes :=
  beBytes 4 (tai / unitsSec - s.raw Reg.stx_STX_UTC_OFFSET) ++ beBytes 3 (tai % unitsSec * 2 ^ 24 / unitsSec)
    ++ beBytes 1 s.timeQuality

/-- `t` of the dataset set to a commit time (R378). -/
def State.setTime (s : State) (p : Pub) (f : Bytes) : Bytes :=
  (p.descs.filter fun d => dscKind d = 3).foldl (fun f d => putAt f (dscOff d) (s.utcTime s.tai)) f

/-- The frame of a publication leaves through port 33 in class 6 (R180, R376). -/
def State.sendPub (s : State) (p : Nat) : State :=
  let x := s.pub p
  { s with net := { s.net with arrivals := s.net.arrivals ++
    [{ port := 33, t := s.mono, bytes := padTo 60 x.frame, desc := some (6, some (pubEgress x.entry), 128),
       genSa := pubSa x.entry, pub := some (p * 2 ^ 32 + x.stNum) }] } }

/-- A number that counts up, from its highest value to 1 (R378; the wrap is that of IEC 61850-8-1, log entry 8). -/
def nextNum (n : Nat) : Nat := if n = 2 ^ 32 - 1 then 1 else n + 1

/-- GOOSE_STATE_CHANGE (R378): a new state of a publication, sent at once, its repeats starting at T_MIN. -/
def State.newPubState (s : State) (p : Nat) (frame : Bytes) : State :=
  let x := s.pub p
  let st := nextNum x.stNum
  let iv := pubTMin x.entry
  let f := setKind x.descs 4 (3 * iv) (setKind x.descs 2 0 (setKind x.descs 1 st (s.setTime x frame)))
  (s.setPub p { x with frame := f, stNum := st, sqNum := 0, interval := iv, next := some (s.mono + iv * unitsMs) }).sendPub p

/-- Committed members of a publication: a change starts a new state (R378). Answers whether one started. -/
def State.commitMembers (s : State) (p : Nat) (ms : List (Nat × Nat × Nat)) : State × Bool :=
  let x := s.pub p
  let f := x.withMembers ms
  if f = x.frame then (s, false) else (s.newPubState p f, true)

/-- A repeat of a publication: the next sqNum, and an interval doubled up to T_MAX (R378). -/
def State.repeatPub (s : State) (p : Nat) : State :=
  let x := s.pub p
  let iv := min (2 * x.interval) (pubTMax x.entry)
  let sq := nextNum x.sqNum
  let f := setKind x.descs 4 (3 * iv) (setKind x.descs 2 sq x.frame)
  (s.setPub p { x with frame := f, sqNum := sq, interval := iv, next := some (s.mono + iv * unitsMs) }).sendPub p

/-- The claim entered in every command publication, whose ClaimNo is its last member (R222). -/
def State.enterClaim (s : State) (claim : Nat) : State :=
  (s.tor.pubs.filter fun p => pubCommand p.2.entry).foldl (fun s p =>
    let n := (p.2.descs.filter fun d => dscKind d = 5).length
    (s.commitMembers p.1 [(n - 1, 8, claim)]).1) s

/-- GOOSE_REPEAT (R378): the repeat interval of publication p ends. -/
def execGooseRepeat (p : Nat) (s : State) : Host.Outcome State Fault Refusal :=
  .next (match (s.pub p).next with
    | none => s
    | some t => (s.advance t).repeatPub p)

/-! ### Outputs of one evaluation or cycle (R338, R431) -/

/-- One output to commit: its kind and value type, its binding word, its value and quality. -/
structure OutVal where
  kind : Nat
  vtype : Nat
  bind : Nat
  value : Nat
  qual : Nat
  deriving DecidableEq, Repr

/-- Signals take their values together; then GOOSE members, publication by publication (R338). Answers the keys of the
publications that start a new state. -/
def State.commitOuts (s : State) (outs : List OutVal) : State × List Nat :=
  let s := (outs.filter fun o => o.kind = 1).foldl (fun s o => s.commitSignal (o.bind % 2 ^ 18) o.value o.qual) s
  let gs := outs.filter fun o => o.kind = 2
  (gs.map fun o => o.bind % 2 ^ 12).eraseDups.foldl (fun (z : State × List Nat) p =>
    let ms := (gs.filter fun o => o.bind % 2 ^ 12 = p).map fun o => (o.bind / 2 ^ 16 % 2 ^ 8, o.vtype, o.value)
    let (s, changed) := z.1.commitMembers p ms
    (s, if changed then z.2 ++ [p * 2 ^ 32 + (s.pub p).stNum] else z.2)) (s, [])

end Sys2Proof.Machine
end

