-- ==== Sys2Proof/Machine/ScanOps.lean ====
section
/-!
DEFINITION. Operations of the scan engine: states of a program, its cycles and their end, standard function blocks,
withdrawal and the data of an exchange (chapter 14).
-/

namespace Sys2Proof.Machine

def State.scanOf (s : State) (sl : Nat) : Scan := Tbl.look ({} : Scan) s.scan sl
def State.setScan (s : State) (sl : Nat) (x : Scan) : State := { s with scan := Tbl.put ({} : Scan) s.scan sl x }

/-- PROGRAMS and the load of every core follow the admitted programs (R386, R457). -/
def State.syncScan (s : State) : State :=
  let s := s.wr Reg.scn_PROGRAMS 0 ((List.range 128).filter fun sl => s.raw Reg.prog_STATE sl ≠ 0).length
  (List.range 8).foldl (fun s c => s.wr Reg.admcore_SCAN_LOAD c
    ((s.scan.filter fun e => e.2.prog.core = c).map fun e => e.2.prog.share).sum) s

/-- STATE of a program, with its code (R428). -/
def State.scanState (s : State) (sl new : Nat) : State :=
  let old := s.raw Reg.prog_STATE sl
  if old = new then s
  else ((s.wr Reg.prog_STATE sl new).raise 80 0x0100 (sl * 2 ^ 24 + new + old * 2 ^ 4)).syncScan

/-- The signal slots that a program's outputs write. -/
def ScanProg.slots (p : ScanProg) : List Nat := p.outs.filterMap fun o => if o.1 = 1 then some (o.2.2 % 2 ^ 18) else none

/-- An instance writes a slot. -/
def Inst.writes (x : Inst) (n : Nat) : Bool := (x.prog.outs.zip x.outB).any fun tb => tb.1.kind = 1 && tb.2 % 2 ^ 18 = n

/-- An admitted instance or scan program that stays, or one that an exchange brings, writes a slot (R294, R352). -/
def State.writes (s : State) (n : Nat) : Bool :=
  (s.tor.insts.any fun e => !e.2.leaving && e.2.writes n)
    || (s.tor.exchanges.any fun x => x.news.any fun e => x.waiting.contains e.1 && e.2.writes n)
    || s.scan.any fun e => !e.2.leaving && e.2.prog.slots.contains n

/-- A slot whose writer has gone: unless another writes it, slot .05 reads 255 and its force is released (R64, R445). -/
def State.dropWriter (s : State) (n : Nat) : State :=
  if s.writes n then s else State.releaseForce (s.setSignal n { s.signal n with writer := 255 }) n

/-- The program of a slice is removed (R363, R445). -/
def State.removeScan (s : State) (sl : Nat) : State :=
  let x := s.scanOf sl
  let s := { s with scan := Tbl.drop s.scan sl }
  let s := x.prog.slots.foldl (fun s n => s.dropWriter n) s
  let s := ((((s.wr Reg.prog_CORE sl 0).wr Reg.prog_EXCH_PEND sl 0).wr Reg.prog_CYCLE_LO sl 0).wr Reg.prog_CT_US sl 0).scanState sl 0
  let s := match x.exch with
    | some e => s.complete e.handle stABORTED
    | none => s
  match x.handle with
  | some h => s.complete h stOK 1
  | none => s

/-! ### The end of a cycle (R429, R439) -/

/-- What follows the end of a cycle: withdrawal, hold, or the next Window boundary (R432, R453, R459). -/
def State.scanIdle (s : State) (sl : Nat) : State :=
  let x := s.scanOf sl
  let exch := x.exch.map fun e => if e.at_ ≤ s.tai then { e with done := true } else e
  let s := s.setScan sl { x with cycle := none, ready := s.mono, exch := exch }
  if x.leaving then s.removeScan sl
  else if x.holdPend && exch.isNone then State.scanState (s.setScan sl { s.scanOf sl with holdPend := false }) sl 2
  else s

/-- Outputs of a program as values to commit: (kind, type, target) with value and quality. -/
def scanOut (b : Nat × Nat × Nat) (v q : Nat) : OutVal := { kind := b.1, vtype := b.2.1, bind := b.2.2, value := v, qual := q }

/-- END of a cycle: its staged outputs commit together, and the working half becomes the committed half (R429, R431). -/
def State.scanCommit (s : State) (sl : Nat) : State :=
  let x := s.scanOf sl
  match x.cycle with
  | none => s
  | some c =>
    let outs := (x.prog.outs.zip (List.range 2048)).filterMap fun b =>
      (c.outs.find? fun o => o.1 = b.2).map fun o => (b.2, scanOut b.1 o.2.1 o.2.2)
    let s := (s.commitOuts (outs.map fun o => o.2)).1
    let us := (s.mono - c.latch) / unitsUs
    let s := s.setScan sl { x with data := c.work, lastOut := outs.foldl (fun m o => Tbl.ins o.2.value m o.1) x.lastOut }
    let s := (s.wr Reg.prog_CYCLE_LAST sl us).wr Reg.prog_CYCLE_MAX sl (max us (s.raw Reg.prog_CYCLE_MAX sl))
    s.scanIdle sl

/-- Every signal and GOOSE output commits its last committed value with validity invalid and failure set (R439). A signal
that the program has not yet committed has the value of its slot. -/
def State.scanInvalid (s : State) (sl : Nat) : State :=
  let x := s.scanOf sl
  let outs := (x.prog.outs.zip (List.range 2048)).filterMap fun b =>
    let last := match x.lastOut.find? fun o => o.1 = b.2 with
      | some o => some o.2
      | none => if b.1.1 = 1 then some (s.signal (b.1.2.2 % 2 ^ 18)).value else none
    last.map fun v => scanOut b.1 v (1 + 2 ^ 6)
  (s.commitOuts outs).1

/-- A program fault ends the cycle; its working half is discarded (R439). -/
def State.scanFault (s : State) (sl cause : Nat) : State :=
  match (s.scanOf sl).cycle with
  | none => s
  | some _ =>
    State.scanIdle (((s.scanInvalid sl).count Reg.scn_SCN_FAULT).raise 83 0x0106 (sl * 2 ^ 24 + cause)) sl

/-- An uncorrectable error in the committed half (R440): the program is FAULTED, its outputs commit once as R439 has it. -/
def State.scanStruck (s : State) (sl word : Nat) : State :=
  if s.raw Reg.prog_STATE sl = 0 then s
  else
    let s := (s.count Reg.scn_SCN_ECC_UNCORR).raise 80 0x0003 (4 * 2 ^ 24 + word % 2 ^ 24)
    let x := s.scanOf sl
    let s := State.scanInvalid (s.setScan sl { x with cycle := none, ready := s.mono, data := [], struck := true }) sl
    if x.leaving then s.removeScan sl else s.scanState sl 3

/-! ### Standard function blocks (R435–R437) -/

/-- The state record of a block, read. -/
structure SfbRec where
  et : Nat
  pt : Nat
  last : Nat
  cv : Int
  pv : Int
  flags : Nat
  deriving DecidableEq, Repr

/-- The record at an offset of the data (R436). -/
def sfbRead (d : List Host.Cell) (o : Nat) : SfbRec :=
  let w := fun (p n : Nat) => ofLe (Memory.readBytes d (o + p) n)
  { et := w 0 8, pt := w 8 8, last := w 16 8, cv := toSigned 32 (w 0 4), pv := toSigned 32 (w 4 4), flags := w 24 1 }

/-- The record written back: the fields of its type. -/
def sfbWrite (d : List Host.Cell) (o type : Nat) (r : SfbRec) : List Host.Cell :=
  let d := if type ≤ 3 then Memory.writeBytes (Memory.writeBytes d o (leBytes 8 r.et)) (o + 16) (leBytes 8 r.last)
    else if type ≤ 6 then Memory.writeBytes d o (leBytes 4 (ofSigned 32 r.cv)) else d
  Memory.writeBytes d (o + 24) (leBytes 1 r.flags)

/-- Flags of a record: [0] Q or QU, [1] QD, [2] RUNNING, [3] M, [4] MD, [5] FIRST. -/
def SfbRec.put (r : SfbRec) (i : Nat) (b : Bool) : SfbRec := { r with flags := putBit i b r.flags }

/-- The action of a timer (R437): `i` is IN, `up` its rise, `dn` its fall, `dt` the MONO since the last call. -/
def sfbTimer (type : Nat) (i up dn : Bool) (dt : Nat) (r : SfbRec) : SfbRec :=
  let run := bit 2 r.flags
  let q := bit 0 r.flags
  let on := { r with et := min r.pt (r.et + dt) }
  let stop := fun (r : SfbRec) => if r.pt ≤ r.et then (r.put 0 false).put 2 false else r
  match type with
  | 1 =>
    let r := if !i then ({ r with et := 0 } : SfbRec).put 2 false
      else if !run then ({ r with et := 0 } : SfbRec).put 2 true else on
    r.put 0 (i && decide (r.pt ≤ r.et))
  | 2 =>
    if i then (({ r with et := 0 } : SfbRec).put 0 true).put 2 false
    else if dn && q then ({ r with et := 0 } : SfbRec).put 2 true
    else if run then stop on else r
  | _ =>
    let r := if up && !run && !q then (({ r with et := 0 } : SfbRec).put 0 true).put 2 true
      else if run then stop on else r
    if !bit 2 r.flags && !i then { r with et := 0 } else r

/-- The action of a counter (R437). -/
def sfbCounter (type : Nat) (up cdUp res load : Bool) (r : SfbRec) : SfbRec :=
  let inc := fun (r : SfbRec) => if r.cv < 2147483647 then { r with cv := r.cv + 1 } else r
  let dec := fun (r : SfbRec) => if -2147483648 < r.cv then { r with cv := r.cv - 1 } else r
  let r := match type with
    | 4 => if res then { r with cv := 0 } else if up then inc r else r
    | 5 => if load then { r with cv := r.pv } else if cdUp then dec r else r
    | _ =>
      if res then { r with cv := 0 } else if load then { r with cv := r.pv }
      else if up && !cdUp then inc r else if cdUp && !up then dec r else r
  let r := if type ≠ 5 then r.put 0 (decide (r.pv ≤ r.cv)) else r
  if type ≠ 4 then r.put 1 (decide (r.cv ≤ 0)) else r

/-- One call (R437): the inputs are bits of `w`; answers the record after the call. -/
def sfbCall (type w mono : Nat) (r : SfbRec) : SfbRec :=
  let i := bit 0 w
  let cd := bit 1 w
  let r := if bit 5 r.flags then ((r.put 3 i).put 4 cd).put 5 false else r
  let up := i && !bit 3 r.flags
  let dn := !i && bit 3 r.flags
  let cdUp := cd && !bit 4 r.flags
  let r := match type with
    | 7 => r.put 0 up
    | 8 => r.put 0 dn
    | 1 | 2 | 3 => sfbTimer type i up dn (mono - r.last) r
    | _ => sfbCounter type up cdUp (bit 2 w) (bit 3 w) r
  { (r.put 3 i).put 4 cd with last := mono }

/-- What SFB writes to rd (R435). -/
def sfbResult (type : Nat) (r : SfbRec) : Nat :=
  r.flags % 4 + (if 4 ≤ type ∧ type ≤ 6 then ofSigned 32 r.cv * 2 ^ 32 else 0)

/-- Initial data of a program, FIRST set in every block (R436). -/
def ScanProg.initData (p : ScanProg) : List Host.Cell :=
  p.sfbs.foldl (fun d b => Memory.write d (b.off + 24) (BitVec.ofNat 8 (setBit 5 (Memory.read d (b.off + 24)).toNat)))
    (Memory.writeBytes [] 0 p.init)

/-! ### The data of an exchange (R449–R452) -/

/-- A record carried over from the old data: all but PT and PV (R449). -/
def sfbKeep (old new : List Host.Cell) (a b : SfbEntry) : List Host.Cell := sfbWrite new b.off b.type (sfbRead old a.off)

/-- An entry of a migration map: KIND, ARG, OLD_OFF, NEW_OFF, LEN (R353). -/
def mapEntry (e : Bytes) : Nat × Nat × Nat × Nat × Nat := (le 0 1 e, le 1 1 e, le 4 4 e, le 8 4 e, le 12 4 e)

/-- LEN cut so that neither range leaves its data (R353). -/
def cutLen (oldLen newLen oldOff newOff len : Nat) : Nat := min len (min (oldLen - oldOff) (newLen - newOff))

/-- The new committed data: new initial data, kept blocks, then the map's copies in order (R449). A struck old half keeps
nothing (R459). -/
def exchangeData (old new : ScanProg) (data : List Host.Cell) (map : List Bytes) (struck : Bool) : List Host.Cell :=
  if struck then new.initData
  else
    let d := new.sfbs.foldl (fun d b => match old.sfbs.find? fun a => a.id = b.id && a.type = b.type with
      | some a => sfbKeep data d a b
      | none => d) new.initData
    map.foldl (fun d e =>
      let (kind, _, oo, no, len) := mapEntry e
      if kind ≠ 1 then d
      else Memory.writeBytes d no (Memory.readBytes data oo (cutLen old.dataLen new.dataLen oo no len))) d

/-- The report of the blocks: ID and OUTCOME (R450, R452). -/
def exchangeBlocks (old new : ScanProg) (struck : Bool) : List (Nat × Nat) :=
  (new.sfbs.map fun b => (b.id, if !struck && old.sfbs.any fun a => a.id = b.id && a.type = b.type then 0 else 2))
    ++ ((old.sfbs.filter fun a => !new.sfbs.any fun b => b.id = a.id).map fun a => (a.id, 3))

/-- The object index of domain d of slice s (R51, R311). -/
def sliceDom (sl d : Nat) : Nat := 0x048000 + sl * 0x80 + d

end Sys2Proof.Machine
end

