-- ==== Sys2Proof/Machine/Keys.lean ====
section
/-!
DEFINITION. The Binnacle's key slots as other blocks use them: which key a request may use, and how it fails
(R501–R507).
-/

namespace Sys2Proof.Machine

/-- Reasons of R507. -/
def rsOrphaned : Nat := 0x0101
def rsAbsent : Nat := 0x0102
def rsUsage : Nat := 0x0103
def rsTrial : Nat := 0x0104
def rsLocked : Nat := 0x0105
def rsImportAuth : Nat := 0x0106
def rsImportFormat : Nat := 0x0107
def rsSlotInUse : Nat := 0x0108
def rsLmsExhausted : Nat := 0x0109
def rsJournalFail : Nat := 0x010A
def rsNotPermitted : Nat := 0x010B

/-- Usage bits of R504. -/
def useWrap : Nat := 1
def useSeal : Nat := 2
def useTagGen : Nat := 3
def useTagChk : Nat := 4
def useSign : Nat := 5
def useVerify : Nat := 6
def useAgree : Nat := 7

/-- A key slot; 0x0088 and 0x0089 hold the vendor anchors of the mask ROM (R502). -/
def State.slot (s : State) (n : Nat) : KeySlot :=
  if n = 0x88 then { state := 1, kind := 9, usage := 0x40, parent := 0xFFFF, owner := 0xFF, key := Config.anchorEc }
  else if n = 0x89 then { state := 1, kind := 9, usage := 0x40, parent := 0xFFFF, owner := 0xFF, key := Config.anchorHss }
  else Tbl.look ({} : KeySlot) s.bnc.slots n

/-- A slot whose key the journal stores (R502). -/
def storedSlot (n : Nat) (k : KeySlot) : Bool :=
  n = 1 || n = 2 || n = 3 || n = 5 || n = 6 || decide (0x100 ≤ n) && k.kind ≠ 7

/-- The key a request may use, or the reason it fails (R501, R504, R507, R518,
R578). -/
def State.keyFor (s : State) (n usage : Nat) : Except Nat Bytes :=
  let k := s.slot n
  if (s.raw Reg.bnc_MEAS_COUNT < 5 || s.flag Reg.snd_BNC_KAT_FAIL || s.raw Reg.bnc_JSEL = 3 && storedSlot n k) && k.kind ≠ 9 then
    .error rsLocked
  else if k.state = 2 then .error rsOrphaned
  else if k.state = 0 then .error rsAbsent
  else if !bit usage k.usage then .error rsUsage
  else .ok k.key

/-- SLOTS_ACTIVE and SLOTS_ORPHANED follow the slots, the two anchors among them (R502, R524). -/
def State.syncSlots (s : State) : State :=
  (s.wr Reg.bnc_SLOTS_ACTIVE 0 (2 + (s.bnc.slots.filter fun e => e.2.state = 1).length)).wr Reg.bnc_SLOTS_ORPHANED 0
    (s.bnc.slots.filter fun e => e.2.state = 2).length

/-- A key slot replaced. -/
def State.setSlot (s : State) (n : Nat) (k : KeySlot) : State :=
  State.syncSlots { s with bnc := { s.bnc with slots := Tbl.put ({} : KeySlot) s.bnc.slots n k } }

/-- A refusal is counted, with the counter of its reason (R507). -/
def State.bncRefuse (s : State) (reason : Nat) : State :=
  let s := s.count Reg.bnc_BNC_REFUSE
  if reason = rsOrphaned then s.count Reg.bnc_BNC_ORPHAN_USE
  else if reason = rsImportAuth ∨ reason = rsImportFormat then s.count Reg.bnc_BNC_IMPORT_FAIL
  else if reason = rsJournalFail then s.count Reg.bnc_BNC_JNL_FAIL
  else s

/-- A use of slot `n` by a requester fails: counted, and an orphaned key reported (R507, R525). -/
def State.bncFail (s : State) (reason n req : Nat) : State :=
  let s := s.bncRefuse reason
  if reason = rsOrphaned then s.raise 85 0x0101 (n + req * 2 ^ 16) else s

/-- The key that a requester uses, and the state with a refusal counted. -/
def State.useKey (s : State) (n usage req : Nat) : Option Bytes × State :=
  match s.keyFor n usage with
  | .ok k => (some k, s)
  | .error r => (none, s.bncFail r n req)

/-! ### Sessions and their slots (R505, R511, R512) -/

/-- INFO of a discarded transaction (R61): scope, slice and cause. -/
def txnInfo (x : Txn) (cause : Nat) : Nat :=
  match x.scope with
  | none => cause * 2 ^ 16
  | some sl => 1 + sl * 2 ^ 8 + cause * 2 ^ 16

/-- Transactions are discarded with no object changed, counted and reported (R61): cause 1 timeout, 2 session closed,
3 host-link reset. -/
def State.discardTxns (s : State) (p : Txn → Bool) (cause : Nat) : State :=
  let gone := s.wh.txns.filter p
  let s : State := { s with wh := { s.wh with txns := s.wh.txns.filter fun (x : Txn) => !p x } }
  gone.foldl (fun (s : State) x => (s.countStatus 3 1).raise 122 0x0100 (txnInfo x cause)) s

/-- A Chartroom session is over (R57, R61, R79, R84, R526): its transaction, its claims, its waiting requests and its NOTIFYs
go, and its SESSION slot is emptied. -/
def State.dropSession (s : State) (id : Nat) : State :=
  match s.wh.sessions.find? fun x => x.id = id with
  | none => s
  | some x =>
    let s : State := { s with wh := { s.wh with
      sessions := s.wh.sessions.filter fun y => y.id ≠ id,
      queue := s.wh.queue.filter fun (r : Request) => r.src ≠ .session id,
      domains := s.wh.domains.map fun (e : Nat × Domain) =>
        if e.2.owner = some (.session id) then (e.1, { e.2 with owner := none }) else e } }
    let s := s.discardTxns (fun t => t.owner = .session id) 2
    if x.slot = 0 then s else s.setSlot x.slot {}

/-- Sessions whose SESSION slot has become ORPHANED are closed and counted (R512). -/
def State.tearSessions (s : State) : State :=
  (s.wh.sessions.filter fun x => x.slot ≠ 0 && (s.slot x.slot).state = 2).foldl
    (fun (s : State) x => (s.dropSession x.id).count Reg.bnc_BNC_SESS_TORN) s

/-- Slots for which `p` holds become ORPHANED. -/
def State.orphan (s : State) (p : Nat → KeySlot → Bool) : State :=
  let f := fun (e : Nat × KeySlot) => if e.2.state = 1 && p e.1 e.2 then (e.1, { e.2 with state := 2, key := [] }) else e
  State.tearSessions (State.syncSlots { s with bnc := { s.bnc with slots := s.bnc.slots.map f } })

/-- A commit waits for its turn; in HOLDUP none starts (R516, R539). -/
def State.startCommits (s : State) : State :=
  if s.bnc.commits.isEmpty || s.pwr.holdAt.isSome then s else { s with bnc := { s.bnc with writing := true } }

def State.queueCommit (s : State) (c : Commit) : State :=
  State.startCommits { s with bnc := { s.bnc with commits := s.bnc.commits ++ [c] } }

/-! ### Derived keys (R499, R500) -/

/-- An ASCII info string, as its character codes. -/
def ascii (codes : List Nat) : Bytes := codes.map fun c => BitVec.ofNat 8 c

/-- The info strings "RZ CR1", "RZ SESS", "RZ SLR", "RZ LSCHK" and the label "RZ CHAIN". -/
def infoCr : Bytes := ascii [0x52, 0x5A, 0x20, 0x43, 0x52, 0x31]
def infoSess : Bytes := ascii [0x52, 0x5A, 0x20, 0x53, 0x45, 0x53, 0x53]
def infoSlr : Bytes := ascii [0x52, 0x5A, 0x20, 0x53, 0x4C, 0x52]
def infoLschk : Bytes := ascii [0x52, 0x5A, 0x20, 0x4C, 0x53, 0x43, 0x48, 0x4B]
def labelChain : Bytes := ascii [0x52, 0x5A, 0x20, 0x43, 0x48, 0x41, 0x49, 0x4E]

/-- CHAIN_TAG of a measurement chain (R499). -/
def chainTag (c5 : Bytes) : Bytes := (Config.sha384 (labelChain ++ c5)).take 16

/-- LS_CHECK of a Lodestone (R500). -/
def lsCheck (lodestone : Bytes) : Bytes := Config.hkdf lodestone [] infoLschk 16

/-- The chain root (R500). -/
def State.chainRoot (s : State) : Bytes := Config.hkdf (s.bnc.lodestone.getD []) s.bnc.chain infoCr 48

/-- A root slot: a derived, volatile key (R502; its usages are DEDUCED, log entry 24). -/
def rootSlot (parent : Nat) (owner : Nat) (key : Bytes) : KeySlot :=
  { state := 1, kind := 1, usage := 3, parent := parent, owner := owner, key := key }

/-- The key of slice root `sl` under its epoch (R500). -/
def State.slrKey (s : State) (sl : Nat) : Bytes :=
  Config.hkdf s.chainRoot [] (infoSlr ++ beBytes 1 sl ++ beBytes 4 (Tbl.look 0 s.bnc.slrEpoch sl)) 48

/-- Slice root `sl` derived anew. -/
def State.deriveRoot (s : State) (sl : Nat) : State :=
  if (s.slot (8 + sl)).state = 0 then s
  else s.setSlot (8 + sl) { rootSlot 0 sl (s.slrKey sl) with version := (s.slot (8 + sl)).version }

/-- Why a key change cannot be made now: the Binnacle is locked, or the boot is a trial (R501, R518). A journal of another
chain locks it too: its entries could not be written again (DEDUCED, log entry 24). -/
def State.keyChangeBar (s : State) : Option Nat :=
  if s.raw Reg.bnc_MEAS_COUNT < 5 || s.flag Reg.snd_BNC_KAT_FAIL then some rsLocked
  else if s.flag Reg.bnc_TRIAL then some rsTrial
  else none

/-- Slice root `sl` is renewed: its epoch moves on, its descendants are ORPHANED, and the journal follows (R511). -/
def State.renewRoot (s : State) (sl : Nat) (handle : Option Nat) : State :=
  let s := s.orphan fun _ k => k.parent = 8 + sl
  let s : State := { s with bnc := { s.bnc with slrEpoch := Tbl.upd 0 s.bnc.slrEpoch sl fun n => n + 1 } }
  State.queueCommit (s.deriveRoot sl) { what := 3, handle := handle }

/-- The journal can be written again: one is selected, and its chain is the current one (R518). -/
def State.journalOpen (s : State) : Bool := decide (s.raw Reg.bnc_JSEL < 2)

/-- UNBIND invalidates the slice root, which a trial refuses (R511, R518). Without a Lodestone there is no root. -/
def State.unbindRoot (s : State) (sl : Nat) : State :=
  if (s.slot (8 + sl)).state ≠ 1 then s
  else match s.keyChangeBar with
    | some r => s.bncRefuse r
    | none => if s.journalOpen then s.renewRoot sl none else s.bncRefuse rsLocked

/-- The tag of data under an association's algorithm (R203, R204): HMAC-SHA-256 truncated, or AES-GMAC. -/
def tagOf (alg len : Nat) (key data : Bytes) : Bytes :=
  if alg = 1 then (Config.hmac256 key data).take len
  else (Config.gmac key (List.replicate 12 0) data).take len

/-- MAC lengths that an algorithm supports; another length acts as 16 bytes (R203, R204). -/
def macLen (alg len : Nat) : Nat :=
  if alg = 1 then (if len = 10 ∨ len = 16 ∨ len = 32 then len else 16)
  else (if len = 8 ∨ len = 16 then len else 16)

end Sys2Proof.Machine
end

