-- ==== Sys2Proof/Machine/Ports.lean ====
section
/-!
DEFINITION. The network ports: reception, PAUSE, half duplex, links and forwarding, low power, segmentation and port M
(chapter 05).
-/

namespace Sys2Proof.Machine

/-! ### Admitted traffic on a port -/

/-- The admission unit's classification entries in force (R182). -/
def State.admEntries (s : State) : List Bytes := (s.epoch.cls.filter fun e => e.1 < 1024 && bit 7 (le 9 1 e.2)).map (·.2)

/-- Admitted traffic of a class for which `p` holds egresses on a port. -/
def State.admEgress (s : State) (q : Nat) (p : Nat → Bool) : Bool :=
  s.admEntries.any fun e => p (bits 2 0 (le 17 1 e)) && bit q (le 18 5 e)

/-- A port carries admitted traffic, in or out (R170, R384). -/
def State.admOn (s : State) (q : Nat) : Bool :=
  s.admEntries.any fun e => bit q (le 18 5 e) || (bit q (le 12 5 e) && decide (5 ≤ bits 2 0 (le 17 1 e)))

/-! ### Forwarding comes and goes (R166, R167) -/

/-- The frame on the wire of a port is cut: classes 0–4 are queued again from the first bit, classes 5–7 dropped
(R167). -/
def State.cutTx (s : State) (q : Nat) : State :=
  match Tbl.look none s.net.tx q with
  | none => s
  | some t =>
    let s := s.count Reg.prt_PRT_TX_ABORT q
    let s := { s with net := { s.net with tx := Tbl.put none s.net.tx q none } }
    if t.frame.cls < 5 then
      { s with net := { s.net with frames := s.net.frames.map fun f =>
          if f.id = t.frame.id then
            { f with ports := if f.ports.contains q then f.ports else f.ports ++ [q], tso := t.frame.tso }
          else f } }
    else (s.countDown q t.frame.cls).dropCopy t.frame.id q

/-- Frames queued for a port. -/
def State.queuedFor (s : State) (q : Nat) : List SwFrame := s.net.frames.filter fun f => f.ports.contains q

/-- FWD goes to 0: the wire is cut, classes 5–7 are dropped, classes 0–4 held (R167). -/
def State.fwdLoss (s : State) (q : Nat) : State :=
  if !s.flag Reg.prt_FWD q then s
  else
    let s := s.wr Reg.prt_FWD q 0
    let s := s.setPx q { s.px q with fwdDown := s.mono, attempts := 0, backoff := none }
    let s := s.cutTx q
    ((s.queuedFor q).filter fun f => 5 ≤ f.cls).foldl (fun s f => (s.countDown q f.cls).dropCopy f.id q) s

/-- INFO of FORWARDING (R178). -/
def State.fwdInfo (s : State) (p : Nat) : Nat :=
  s.raw Reg.prt_LANE_MODE p + s.raw Reg.prt_FULL p * 8 + s.raw Reg.prt_SPEED_ACT p * 16

/-- FWD becomes 1 when the link has been up for LINK_STABLE and nothing forbids it (R166, R168). -/
def State.tryForward (s : State) (p : Nat) : State :=
  let ok := s.flag Reg.prt_LINK p && !s.flag Reg.prt_SUPPRESSED p && !s.flag Reg.prt_QUARANTINE p
    && !s.flag Reg.prt_LP p && !s.flag Reg.prt_FWD p
    && decide ((s.px p).upSince + s.rd Reg.prt_LINK_STABLE p * unitsMs ≤ s.mono)
  if ok then (s.wr Reg.prt_FWD p 1).raise p 0x0100 (s.fwdInfo p) else s

/-! ### Links (R151, R152, R642, R168) -/

/-- Lane modes of a port (R151). -/
def laneAllowed (p lane : Nat) : Bool :=
  lane = 0 || (if p < 28 then 1 ≤ lane && lane ≤ 4 else lane = 5 || lane = 6)

/-- SPEED as it acts on a port (R176). -/
def State.speedSet (s : State) (p : Nat) : Nat :=
  let v := s.rd Reg.prt_SPEED p
  if p < 20 then 2 else v

/-- FEC in use in a lane mode: 0 where the set value is not available; 3 is negotiated in 10GBASE-KR, where the result
is the partner's (R152). -/
def fecOf (lane fec negotiated : Nat) : Nat :=
  match fec with
  | 1 => if lane = 4 ∨ lane = 5 ∨ lane = 6 then 1 else 0
  | 2 => if lane = 6 then 2 else 0
  | 3 => if lane = 4 then min negotiated 1 else 0
  | _ => 0

/-- The link comes up with its speed, duplex and FEC (R151, R642). -/
def State.linkComesUp (s : State) (p fec : Nat) : State :=
  let lane := s.raw Reg.prt_LANE_MODE p
  let an := s.flag Reg.prt_AN_EN p
  let x := s.px p
  let blocked := lane = 0 || s.flag Reg.prt_LP p || s.flag Reg.prt_LINK p || (lane = 2 && an && !x.wordSeen)
  if blocked then s
  else
    let (speed, full) :=
      if lane = 2 then
        if an then (x.wordSpeed, x.wordFull)
        else (s.speedSet p, !(s.flag Reg.prt_HDX p && decide (20 ≤ p) && decide (p < 28) && decide (s.speedSet p < 2)))
      else (if lane = 1 then 2 else 3, true)
    let s := (((s.wr Reg.prt_LINK p 1).wr Reg.prt_SPEED_ACT p speed).wrFlag Reg.prt_FULL p full).wr Reg.prt_FEC_ACT p
      (fecOf lane (s.raw Reg.prt_FEC p) fec)
    let s := s.setPx p { s.px p with upSince := s.mono }
    s.checkGroups.tryForward p

/-- A port is suppressed for FLAP_HOLD when FLAP_MAX losses fall within FLAP_WIN (R168). -/
def State.checkFlap (s : State) (p : Nat) : State :=
  let lim := s.mono - s.rd Reg.prtg_FLAP_WIN * unitsSec
  let fl := (s.px p).flaps.filter fun t => lim ≤ t
  let s := s.setPx p { s.px p with flaps := fl }
  let m := s.rd Reg.prtg_FLAP_MAX
  if m ≠ 0 && m ≤ fl.length && !s.flag Reg.prt_SUPPRESSED p then
    let s := s.setPx p { s.px p with suppressEnd := s.mono + s.rd Reg.prtg_FLAP_HOLD * unitsSec }
    ((s.wr Reg.prt_SUPPRESSED p 1).count Reg.prt_PRT_FLAP_SUPPRESS p).raise p 0x0102 fl.length
  else s

/-- The link is lost (R166–R168). -/
def State.linkLost (s : State) (p : Nat) : State :=
  if !s.flag Reg.prt_LINK p then s
  else
    let s := s.fwdLoss p
    let s := (((s.wr Reg.prt_LINK p 0).wr Reg.prt_SPEED_ACT p 0).wr Reg.prt_FULL p 0).count Reg.prt_PRT_LINK_DOWN p
    let s := ((s.wr Reg.prt_FEC_ACT p 0).wr Reg.prt_PAUSED p 0).wr Reg.prt_PAUSE_LEFT p 0
    let s := s.setPx p { s.px p with flaps := s.mono :: (s.px p).flaps, wordSeen := false, pauseOut := [], pauseNext := none }
    let held := ((s.queuedFor p).filter fun f => f.cls < 5).length
    (s.raise p 0x0101 (min held (2 ^ 32 - 1))).checkFlap p

/-- A change of LANE_MODE or SPEED in force takes the link down (R176). -/
def State.syncLane (s : State) (p : Nat) : State :=
  let now := s.raw Reg.prt_LANE_MODE p * 4 + s.raw Reg.prt_SPEED p
  if (s.px p).lane = now then s
  else (s.setPx p { s.px p with lane := now }).linkLost p

/-! ### Low power (R169–R171) -/

/-- The ports of a group (R153). -/
def groupMembers (g : Nat) : List Nat := (List.range 8).map (g * 8 + ·)

/-- A wake of a group: it powers up, shown by GRP_WAKING until its domain runs (R171). -/
def State.wakeGroup (s : State) (g : Nat) : State :=
  if bit g (s.raw Reg.prtg_GRP_LP) then s.wr Reg.prtg_GRP_WAKING 0 (setBit g (s.raw Reg.prtg_GRP_WAKING)) else s

/-- LP follows LP_REQ: the lane powers down with its link and forwarding, or comes back (R169). -/
def State.syncLp (s : State) (p : Nat) : State :=
  if s.flag Reg.prt_LP_REQ p && !s.flag Reg.prt_LP p then
    let s := (s.linkLost p).wr Reg.prt_LP p 1
    s.setPx p { s.px p with wordSeen := false }
  else if !s.flag Reg.prt_LP_REQ p && s.flag Reg.prt_LP p then (s.wr Reg.prt_LP p 0).wakeGroup (p / 8)
  else s

/-- At the end of a frame a port's Frame-boundary writes apply, with what follows from them (R93, R640). -/
def State.frameBoundary (s : State) (q : Nat) : State :=
  let s := s.applyBoundary fun b => decide (b.bnd = .frame) && b.owner = q
  if q < 32 then (s.syncLane q).syncLp q else s

/-! ### Commands: reception -/

/-- A pause of `q` quanta starts, or takes the place of the one in force (R162, R163). -/
def State.startPause (s : State) (p q : Nat) : State :=
  let s := s.setPx p { s.px p with pauseEnd := s.mono + s.bitTime p (q * 512), pauseNext := none }
  (s.wr Reg.prt_PAUSED p 1).wr Reg.prt_PAUSE_LEFT p q

/-- A received MAC control frame (R160–R163): a pause starts at once at an idle port, else after the last bit of the frame
in transmission. -/
def State.macControl (s : State) (p : Nat) (bytes : Bytes) : State :=
  let op := be 14 2 bytes
  let q := be 16 2 bytes
  if op ≠ 1 then s.count Reg.prt_PRT_RX_MACCTL_DROP p
  else if !s.flag Reg.prt_FULL p then s.count Reg.prt_PRT_PAUSE_HDX_IGN p
  else
    let s := s.count Reg.prt_PRT_RX_PAUSE p
    if s.rxRaw Reg.prt_RX_PAUSE_EN p = 0 then s
    else
      if q = 0 then
        let s := s.setPx p { s.px p with pauseEnd := s.mono, pauseNext := none }
        (s.wr Reg.prt_PAUSED p 0).wr Reg.prt_PAUSE_LEFT p 0
      else if (Tbl.look none s.net.tx p).isSome then s.setPx p { s.px p with pauseNext := some q }
      else s.startPause p q

/-- A frame whose length and FCS are good is counted as accepted (R154, R176). -/
def State.countRx (s : State) (p len : Nat) : State :=
  (s.count64 Reg.prt_RX_FRAMES_LO Reg.prt_RX_FRAMES_UP p 1).count64 Reg.prt_RX_BYTES_LO Reg.prt_RX_BYTES_UP p len

/-- The ingress timestamp of a frame whose first bit came at `t`: in SGMII it lay EXT_RX_LAT earlier at the PHY's
connector (R124). -/
def State.stampIn (s : State) (p t : Nat) : Nat :=
  t - (if s.raw Reg.prt_LANE_MODE p = 2 then s.rxRaw Reg.stxp_EXT_RX_LAT p * unitsNs else 0)

/-- A frame arrived at a port is passed to the switch core with its stamp (R125, R154). -/
def State.pass (s : State) (a : Arrival) : State := { s with net := { s.net with arrivals := s.net.arrivals ++ [a] } }

/-- The length and FCS checks of a received frame, and where it goes (R154, R161, R166, R195). -/
def State.receive (s : State) (p t : Nat) (bytes : Bytes) (fcsOk : Bool) : State :=
  let len := bytes.length + 4
  let ctl := (headersOf bytes).etype = 0x8808
  if p ≥ 32 || !s.flag Reg.prt_LINK p then s
  else if len < 64 then s.count Reg.prt_PRT_RX_RUNT p
  else if s.rxMaxFrame p < len ∨ !fcsOk then
    let s := s.count (if s.rxMaxFrame p < len then Reg.prt_PRT_RX_OVERSIZE else Reg.prt_PRT_RX_FCS_ERR) p
    if s.flag Reg.prt_FWD p && !ctl then s.pass { port := p, t := s.stampIn p t, bytes := bytes, bad := true } else s
  else if ctl then (s.countRx p len).macControl p bytes
  else if !s.flag Reg.prt_FWD p then s.count Reg.prt_PRT_RX_NOFWD p
  else (s.countRx p len).pass { port := p, t := s.stampIn p t, bytes := bytes }

/-- PORT_FRAME_RX (R154). `bytes` run from the destination address to the last byte before the FCS. -/
def execPortFrameRx (p t : Nat) (bytes : Bytes) (fcsOk : Bool) (s : State) : Host.Outcome State Fault Refusal :=
  .next ((s.advance t).receive p t bytes fcsOk)

/-- PAUSE_RX (R161–R163). -/
def execPauseRx (p t : Nat) (bytes : Bytes) (s : State) : Host.Outcome State Fault Refusal :=
  let s := s.advance t
  .next (if p ≥ 32 || !s.flag Reg.prt_LINK p then s else (s.countRx p (wireLen bytes)).macControl p bytes)

/-- PAUSE_EXPIRY (R162). -/
def execPauseExpiry (p : Nat) (s : State) : Host.Outcome State Fault Refusal :=
  .next (if !s.flag Reg.prt_PAUSED p then s
    else ((s.advance (s.px p).pauseEnd).wr Reg.prt_PAUSED p 0).wr Reg.prt_PAUSE_LEFT p 0)

/-- PAUSE_REFRESH (R165). -/
def execPauseRefresh (p : Nat) (s : State) : Host.Outcome State Fault Refusal :=
  .next (if s.flag Reg.swp_XOFF_ACT p && s.flag Reg.prt_TX_PAUSE_EN p then
      (s.advance (s.px p).refreshAt).queuePause p (s.raw Reg.prt_PAUSE_QUANTA p)
    else s)

/-! ### Commands: links -/

/-- SGMII_CONTROL_WORD (R642): the first word that shows link up brings the link up with its speed and duplex; 10 and
100 Mbit/s exist on ports 20–27 only (R151). -/
def execSgmiiControlWord (p : Nat) (up : Bool) (speed : Nat) (full : Bool) (s : State) :
    Host.Outcome State Fault Refusal :=
  .next (if s.raw Reg.prt_LANE_MODE p ≠ 2 || !s.flag Reg.prt_AN_EN p then s
    else if !up then s.linkLost p
    else if speed < 2 && !(decide (20 ≤ p) && decide (p < 28)) then s
    else
      let changed := s.flag Reg.prt_LINK p &&
        !(s.raw Reg.prt_SPEED_ACT p = min speed 2 && s.flag Reg.prt_FULL p = (full || decide (2 ≤ speed)))
      let s := if changed then s.linkLost p else s
      let s := s.setPx p { s.px p with wordSpeed := min speed 2, wordFull := full || decide (2 ≤ speed), wordSeen := true }
      s.linkComesUp p 0)

/-- LINK_UP (R642, R166): `fec` is the FEC that Clause 73 negotiation gave. -/
def execLinkUp (p fec : Nat) (s : State) : Host.Outcome State Fault Refusal := .next (s.linkComesUp p fec)

/-- LINK_DOWN (R166–R168). -/
def execLinkDown (p : Nat) (s : State) : Host.Outcome State Fault Refusal := .next (s.linkLost p)

/-- FORWARDING (R166): LINK_STABLE has passed since the link came up. -/
def execForwarding (p : Nat) (s : State) : Host.Outcome State Fault Refusal :=
  .next (if s.flag Reg.prt_LINK p then
      (s.advance ((s.px p).upSince + s.rd Reg.prt_LINK_STABLE p * unitsMs)).tryForward p
    else s)

/-- When the hold of a held frame at a port ends (R167). -/
def State.holdEnd (s : State) (p : Nat) (f : SwFrame) : Nat :=
  max (s.px p).fwdDown f.enq + s.rd Reg.prtg_DOWN_HOLD * unitsMs

/-- Segments of a super-frame not yet sent; 1 for another frame (R172, R174). -/
def segmentsLeft (f : SwFrame) : Nat :=
  match f.tso with
  | none => 1
  | some (hdr, mss, _, k) => max 1 (cdiv (f.bytes.length - hdr) (max 1 mss)) - k

/-- HELD_FRAME_EXPIRY (R167): the earliest hold of a port ends, and every frame whose hold has ended is dropped. -/
def execHeldFrameExpiry (p : Nat) (s : State) : Host.Outcome State Fault Refusal :=
  .next (if s.fwd p then s
    else match ((s.queuedFor p).map (s.holdEnd p)).min? with
      | none => s
      | some t =>
        let s := s.advance t
        ((s.queuedFor p).filter fun f => s.holdEnd p f ≤ s.mono).foldl
          (fun s f => (s.count Reg.prt_PRT_DROP_DOWN_BE p (segmentsLeft f)).dropCopy f.id p) s)

/-- FLAP_HOLD_EXPIRY (R168): the LINK_STABLE rule applies from this instant. -/
def execFlapHoldExpiry (p : Nat) (s : State) : Host.Outcome State Fault Refusal :=
  .next (if !s.flag Reg.prt_SUPPRESSED p then s
    else
      let s := (s.advance (s.px p).suppressEnd).wr Reg.prt_SUPPRESSED p 0
      let s := s.setPx p { s.px p with upSince := s.mono }
      (s.raise p 0x0103 0).tryForward p)

/-! ### Commands: half duplex -/

/-- A frame in transmission is discarded; a super-frame goes on with its next segment (R158, R174). -/
def State.discardTx (s : State) (p : Nat) (t : Tx) : State :=
  let s := { s with net := { s.net with tx := Tbl.put none s.net.tx p none } }
  let s := s.setPx p { s.px p with attempts := 0, backoff := none }
  if s.net.frames.any fun f => f.id = t.frame.id && f.ports.contains p then s else s.dropCopy t.frame.id p

/-- A half-duplex port enters quarantine for 1 s (R159). -/
def State.quarantine (s : State) (p : Nat) : State :=
  let s := s.fwdLoss p
  let s := s.setPx p { s.px p with quarEnd := s.mono + unitsSec, excess := 0 }
  (s.wr Reg.prt_QUARANTINE p 1).raise p 0x0104 0

/-- COLLISION (R158, R159): late after the first 512 bits; the 16th attempt discards the frame; else a backoff of r slot
times, r a free value below 2^min(n, 10). -/
def execCollision (p t : Nat) (s : State) : Host.Outcome State Fault Refusal :=
  let s := s.advance t
  .next (match Tbl.look none s.net.tx p with
    | none => s
    | some x =>
      if s.fullDuplex p then s
      else
        let s := s.count Reg.prt_PRT_COLL p
        if x.start + s.bitTime p 512 < s.mono then (s.count Reg.prt_PRT_LATE_COLL p).discardTx p x
        else
          let n := (s.px p).attempts + 1
          if 16 ≤ n then
            let s := (s.count Reg.prt_PRT_EXCESS_COLL p).discardTx p x
            let s := s.setPx p { s.px p with excess := (s.px p).excess + 1 }
            if s.rd Reg.prt_HDX_QLIMIT p ≤ (s.px p).excess then s.quarantine p else s
          else
            let (r, s) := s.free (2 ^ min n 10)
            s.setPx p { s.px p with attempts := n, backoff := some (s.mono + s.bitTime p (32 + r * 512)) })

/-- BACKOFF_EXPIRY (R158): the frame is tried again from its first bit. -/
def execBackoffExpiry (p : Nat) (s : State) : Host.Outcome State Fault Refusal :=
  .next (match (s.px p).backoff, Tbl.look none s.net.tx p with
    | some e, some x =>
      let s := s.advance e
      let s := s.setPx p { s.px p with backoff := none }
      let x := { x with start := s.mono, stop := s.mono + s.bitTime p (8 * (wireLen x.bytes + 20)) }
      (State.emit { s with net := { s.net with tx := Tbl.put none s.net.tx p (some x) } } (.frame p x.bytes))
    | _, _ => s)

/-- QUARANTINE_EXPIRY (R159). -/
def execQuarantineExpiry (p : Nat) (s : State) : Host.Outcome State Fault Refusal :=
  .next (if !s.flag Reg.prt_QUARANTINE p then s
    else (((s.advance (s.px p).quarEnd).wr Reg.prt_QUARANTINE p 0).raise p 0x0105 0).tryForward p)

/-! ### Commands: writes with rules of their own -/

/-- LP_REQ written: held at 0 on a port with admitted traffic (R169, R170). -/
def State.writeLp (s : State) (p : Nat) (v : Bool) (info : Nat) : State :=
  if v && s.admOn p then s.count Reg.prt_PRT_LP_HELD p
  else
    let g := p / 8
    let s := if !v && bit g (s.raw Reg.prtg_GRP_LP) then s.wakeGroup g else s
    (s.buffer Reg.prt_LP_REQ p (b2n v) info).syncLp p

/-- LP_REQ_WRITE (R169, R170). -/
def execLpReqWrite (p : Nat) (v : Bool) (s : State) : Host.Outcome State Fault Refusal :=
  .next (s.writeLp p v (Reg.prt_LP_REQ.addr p))

/-- PAUSE_IMMUNE written: bits of admitted classes 6 and 7 stay 1 (R164). -/
def State.writeImmune (s : State) (p v info : Nat) : State :=
  let keep := (if s.admEgress p (· = 6) then 0x40 else 0) + (if s.admEgress p (· = 7) then 0x80 else 0)
  let w := v % 256 ||| keep
  let s := s.buffer Reg.prt_PAUSE_IMMUNE p w info
  if w ≠ v % 256 then s.count Reg.prt_PRT_IMMUNE_HELD p else s

/-- PAUSE_IMMUNE_WRITE (R164). -/
def execPauseImmuneWrite (p v : Nat) (s : State) : Host.Outcome State Fault Refusal :=
  .next (s.writeImmune p v (Reg.prt_PAUSE_IMMUNE.addr p))

/-- LANE_MODE and SPEED written: a lane mode the port lacks leaves the field unchanged; on a port with admitted traffic
both fields stay, and a change of one counts ADM_HELD (R151, R176, R384). -/
def State.writeLane (s : State) (p lane speed info : Nat) : State :=
  if s.admOn p then
    if lane = s.lastWritten Reg.prt_LANE_MODE p ∧ speed = s.lastWritten Reg.prt_SPEED p then s else s.count Reg.adm_ADM_HELD
  else
    let s := if laneAllowed p lane then s.buffer Reg.prt_LANE_MODE p lane info else s
    (s.buffer Reg.prt_SPEED p speed info).syncLane p

/-- LANE_MODE_WRITE (R151, R176, R384). -/
def execLaneModeWrite (p lane speed : Nat) (s : State) : Host.Outcome State Fault Refusal :=
  .next (s.writeLane p lane speed (Reg.prt_LANE_MODE.addr p))

/-! ### Commands: port groups -/

/-- GROUP_POWER_OFF (R169): every port of the group is in low power or disabled. -/
def execGroupPowerOff (g : Nat) (s : State) : Host.Outcome State Fault Refusal :=
  let idle := (groupMembers g).all fun p => s.flag Reg.prt_LP_REQ p || s.raw Reg.prt_LANE_MODE p = 0
  .next (if 4 ≤ g || !idle || bit g (s.raw Reg.prtg_GRP_LP) then s
    else
      let s := s.wr Reg.prtg_GRP_LP 0 (setBit g (s.raw Reg.prtg_GRP_LP))
      let s := s.wr Reg.pwr_DOM_ON 0 (clearBit (5 + g) (s.raw Reg.pwr_DOM_ON))
      s.raise (g * 8) 0x0106 g)

/-- WAKE_PATTERN (R171): a detector recognises activity; a write of LP_REQ in the same cycle wins (R179). -/
def execWakePattern (p : Nat) (lpWrite : Bool) (s : State) : Host.Outcome State Fault Refusal :=
  .next (if !s.flag Reg.prt_WAKE_EN p || !s.flag Reg.prt_LP p then s
    else
      let g := p / 8
      let s := if lpWrite then s else (s.wr Reg.prt_LP_REQ p 0).wr Reg.prt_LP p 0
      (s.wakeGroup g).raise p 0x0107 g)

/-- GROUP_POWER_UP (R169, R171): the domain runs and the writes buffered for its ports apply. -/
def execGroupPowerUp (g : Nat) (s : State) : Host.Outcome State Fault Refusal :=
  .next (if !bit g (s.raw Reg.prtg_GRP_WAKING) then s
    else
      let s := s.wr Reg.prtg_GRP_WAKING 0 (clearBit g (s.raw Reg.prtg_GRP_WAKING))
      let s := s.wr Reg.prtg_GRP_LP 0 (clearBit g (s.raw Reg.prtg_GRP_LP))
      let s := s.wr Reg.pwr_DOM_ON 0 (setBit (5 + g) (s.raw Reg.pwr_DOM_ON))
      (groupMembers g).foldl State.frameBoundary s)

/-! ### Segmentation (R172–R174) -/

/-- One's complement sum of 16-bit words. -/
def sum16 : Bytes → Nat
  | [] => 0
  | [a] => a.toNat * 256
  | a :: b :: r => a.toNat * 256 + b.toNat + sum16 r

/-- The Internet checksum of bytes. -/
def inetSum (bs : Bytes) : Nat :=
  let s := sum16 bs
  let s := s % 65536 + s / 65536
  let s := s % 65536 + s / 65536
  65535 - s

/-- `bs` with `n` bytes at `o` replaced by the big-endian number `v`. -/
def putBe (o n v : Nat) (bs : Bytes) : Bytes := bs.take o ++ beBytes n v ++ bs.drop (o + n)

/-- The offsets of the IP header and of the TCP header of a super-frame in MODE 1 or 2, when its header parses (R172). -/
def tsoParse (mode hdr : Nat) (f : Bytes) : Option (Nat × Nat) :=
  let h := headersOf f
  let o := h.payload
  if mode = 1 then
    let ihl := be o 1 f % 16 * 4
    if h.etype = 0x0800 ∧ be o 1 f / 16 = 4 ∧ 20 ≤ ihl ∧ be (o + 9) 1 f = 6 ∧ o + ihl + 20 ≤ hdr ∧ h.hsr = none
    then some (o, o + ihl) else none
  else
    if h.etype = 0x86DD ∧ be (o + 6) 1 f = 6 ∧ o + 60 ≤ hdr ∧ h.hsr = none then some (o, o + 40) else none

/-- Segment `k` of a super-frame: the header, changed as its MODE says, and at most MSS bytes of payload (R173). -/
def tsoSegment (hdr mss mode k : Nat) (f : Bytes) : Bytes :=
  let pay := slice (hdr + k * mss) mss f
  let last := f.length ≤ hdr + (k + 1) * mss
  let head := f.take hdr
  match tsoParse mode hdr f with
  | none => head ++ pay
  | some (ip, tcp) =>
    if mode = 0 then head ++ pay
    else
      let flags := be (tcp + 13) 1 head
      let flags := if last then flags else flags - (flags &&& 0x09)
      let flags := if k = 0 then flags else flags - (flags &&& 0x80)
      let head := putBe (tcp + 13) 1 flags head
      let head := putBe (tcp + 4) 4 ((be (tcp + 4) 4 head + k * mss) % 2 ^ 32) head
      let len := hdr - tcp + pay.length
      let head := if mode = 1 then
          let h1 := putBe (ip + 2) 2 (hdr - ip + pay.length) head
          let h2 := putBe (ip + 4) 2 ((be (ip + 4) 2 head + k) % 65536) h1
          let h3 := putBe (ip + 10) 2 0 h2
          putBe (ip + 10) 2 (inetSum (slice ip (tcp - ip) h3)) h3
        else putBe (ip + 4) 2 (hdr - tcp + pay.length) head
      let head := putBe (tcp + 16) 2 0 head
      let pseudo := if mode = 1 then slice (ip + 12) 8 head ++ beBytes 2 6 ++ beBytes 2 len
        else slice (ip + 8) 32 head ++ beBytes 4 len ++ beBytes 4 6
      putBe (tcp + 16) 2 (inetSum (pseudo ++ head.drop tcp ++ pay)) head ++ pay

/-- A super-frame keeps the limits of R172 at an egress port. -/
def State.tsoOk (s : State) (q cls : Nat) (hdr mss mode : Nat) (f : Bytes) : Bool :=
  q < 32 && 14 ≤ hdr && hdr ≤ 128 && 64 ≤ mss && mss + hdr + 4 ≤ s.maxFrame q && f.length - hdr ≤ 262144 && cls ≤ 3 &&
    (mode = 0 || (mode ≤ 2 && (tsoParse mode hdr f).isSome))

/-- A super-frame that breaks a limit is counted at its egress port (R172). -/
def State.tsoBad (s : State) (q : Nat) : State := if q < 32 then s.count Reg.prt_PRT_TSO_BAD q else s

/-! ### Port M (R156) -/

/-- Port M accepts ARP, IPv6 neighbour discovery, ICMP echo and Chartroom on UDP port 47400; neither VLAN tags nor
anything else. -/
def portMAccepts (f : Bytes) : Bool :=
  let h := headersOf f
  let o := h.payload
  h.tag = none &&
    (h.etype = 0x0806 || udpPort f h = some 47400 ||
      (h.etype = 0x0800 && be (o + 9) 1 f = 1 && (be (o + (be o 1 f % 16) * 4) 1 f = 8 || be (o + (be o 1 f % 16) * 4) 1 f = 0)) ||
      (h.etype = 0x86DD && be (o + 6) 1 f = 58 && (let ty := be (o + 40) 1 f; ty = 128 || ty = 129 || (133 ≤ ty && ty ≤ 137))))

/-- PORT_M_RX (R156). -/
def execPortMRx (t : Nat) (bytes : Bytes) (s : State) : Host.Outcome State Fault Refusal :=
  let s := s.advance t
  .next (if !s.flag Reg.prtg_M_EN || !s.flag Reg.prtg_M_LINK then s
    else if portMAccepts bytes then { s with net := { s.net with fromM := s.net.fromM ++ [bytes] } }
    else s.count Reg.prtg_PRT_M_DROP)

/-- PORT_M_LINK_CHANGE (R156, R593). -/
def execPortMLinkChange (up : Bool) (speed : Nat) (s : State) : Host.Outcome State Fault Refusal :=
  let up := up && s.flag Reg.prtg_M_EN
  let s := (s.wrFlag Reg.prtg_M_LINK 0 up).wr Reg.prtg_M_SPEED 0 (if up then min speed 2 else 0)
  .next (s.logNote 3 (b2n up + 2 * s.raw Reg.prtg_M_SPEED))

/-- CAGE_PRESENCE_CHANGE (R609). -/
def execCagePresenceChange (cage : Nat) (present : Bool) (s : State) : Host.Outcome State Fault Refusal :=
  .next (s.wr Reg.pwr_CAGE_PRESENT 0 (putBit (cage % 4) present (s.raw Reg.pwr_CAGE_PRESENT)))

end Sys2Proof.Machine
end

