-- ==== Sys2Proof/Machine/Switch.lean ====
section
/-!
DEFINITION. The switch core: classification, duplicate discard on entry, policing, the packet buffer, tag checks,
scheduling and transmission, the forwarding table, table epochs and the free-list audit (chapter 06; R213–R219 of
chapter 07 act inside it).
-/

namespace Sys2Proof.Machine

/-! ### Classification (R182–R184) -/

/-- What stage 1 records of a frame (R180). -/
structure Verdict where
  cls : Nat
  dests : List Nat
  owner : Nat := 128
  ctDeny : Bool := false
  tagMode : Nat := 0
  sa : Nat := 0
  /-- SV or GOOSE without an entry (R184) -/
  demoted : Bool := false
  deriving DecidableEq, Repr

/-- The APPID of an SV or GOOSE frame: the first two bytes of its payload. -/
def appidOf (f : Bytes) (h : Headers) : Option Nat :=
  if h.etype = 0x88BA ∨ h.etype = 0x88B8 then some (be h.payload 2 f) else none

/-- An entry matches a frame from port q (R182). -/
def entryMatches (e f : Bytes) (h : Headers) (q : Nat) : Bool :=
  let w := le 8 2 e
  bit 15 w && bit q (le 12 5 e) &&
    (bit 13 w || ofBe (slice 0 6 e) = h.dst) &&
    (le 6 2 e = 0 || le 6 2 e = h.etype) &&
    (bit 12 w || bits 11 0 w = (h.tag.map (·.2)).getD 0) &&
    (bit 14 w || appidOf f h = some (le 10 2 e))

/-- Ports that a bit mask names. -/
def maskPorts (m : Nat) : List Nat := (List.range 36).filter fun q => bit q m

/-- What an entry says (R182). -/
def entryVerdict (e : Bytes) : Verdict :=
  let w := le 24 2 e
  { cls := bits 2 0 (le 17 1 e), dests := maskPorts (le 18 5 e),
    owner := if le 23 1 e < 128 then le 23 1 e else 128,
    ctDeny := bit 0 (le 26 1 e), tagMode := bits 13 12 w, sa := bits 9 0 w }

/-- Stage 1 by the tables: the first entry that matches, else the first rule of R184 that applies. -/
def State.classify (s : State) (f : Bytes) (h : Headers) (q : Nat) : Verdict :=
  match s.epoch.cls.find? (fun e => entryMatches e.2 f h q) with
  | some (_, e) => entryVerdict e
  | none =>
    if h.etype = 0x88F7 then { cls := 7, dests := [] }
    else if h.dst = s.mgmtMac && udpPort f h = some 47400 then { cls := 4, dests := [35] }
    else if h.etype = 0x88BA ∨ h.etype = 0x88B8 then { cls := 3, dests := s.forwardTo h q, demoted := true }
    else match h.tag with
      | some (pcp, _) => { cls := min pcp 3, dests := s.forwardTo h q }
      | none => { cls := 0, dests := s.forwardTo h q }

/-! ### Duplicate discard on entry (R217–R219) -/

/-- The RCT at the end of a frame, when it is valid: sequence number and LanId (R210). -/
def rctOf (f : Bytes) (h : Headers) : Option (Nat × Nat) :=
  let o := f.length - 6
  let w := be (o + 2) 2 f
  let lan := w / 4096
  if f.length ≥ 20 ∧ be (o + 4) 2 f = 0x88FB ∧ (lan = 0xA ∨ lan = 0xB) ∧ w % 4096 = f.length - h.payload then
    some (be o 2 f, lan)
  else none

/-- A record is in the window and younger than ENTRY_FORGET (R217). -/
def State.inWindow (s : State) (g src seq : Nat) : Bool :=
  (s.grp g).window.any fun r => r.1 = src && r.2.1 = seq && decide (s.mono < r.2.2 + s.rd Reg.red_ENTRY_FORGET * unitsMs)

/-- A record added; the oldest of 16,384 gives way (R217). -/
def State.addRecord (s : State) (g src seq : Nat) : State :=
  let x := s.grp g
  let w := x.window.filter fun r => !(r.1 = src && r.2.1 = seq)
  let s := s.setGrp g { x with window := ((src, seq, s.mono) :: w).take 16384 }
  if 16384 ≤ w.length then
    if g < 8 then s.count Reg.pair_RED_WIN_EVICT g else s.count Reg.ring_RED_WIN_EVICT (g - 8)
  else s

/-- A frame with RCT was seen on one LAN of a pair: its port is good again (R220). -/
def State.lanSeen (s : State) (g : Nat) (isB : Bool) : State :=
  let x := s.grp g
  let s := s.setGrp g (if isB then { x with lastB := s.mono } else { x with lastA := s.mono })
  let f := if isB then Reg.pair_B_OK else Reg.pair_A_OK
  if s.flag f g then s else (s.wr f g 1).raise 124 0x0101 (g + 16 * b2n isB)

/-- What stage 2 makes of a frame: dropped, or accepted with the bytes freed of RCT or tag and, on a ring, the tag to
carry on. -/
inductive Dup where
  | drop
  | accept (bytes : Bytes) (ring : Option (Nat × Nat))
  deriving DecidableEq, Repr

/-- The module's own address or a proxied node's (R219). -/
def State.ownAddress (s : State) (mac : Nat) : Bool :=
  (s.baseMac ≤ mac && mac ≤ s.baseMac + 33) || s.red.nodes.any fun n => n.mac = mac

/-- Stage 2 (R217–R219). A frame found bad leaves no record. -/
def State.dupStage (s : State) (q : Nat) (f : Bytes) (h : Headers) (bad : Bool) : Dup × State :=
  match s.groupOf q with
  | none => (.accept f none, s)
  | some g =>
    if h.etype = 0x88F7 then (.accept f none, s)
    else if g < 8 then
      let s := if h.etype = 0x88FB then s.count Reg.pair_RED_SUP_RX g else s
      match rctOf f h with
      | none => (.accept f none, s.count Reg.pair_RED_RX_NO_RCT g)
      | some (seq, lan) =>
        let isB := (s.groupPorts g).2 = q
        let s := if lan = (if isB then 0xB else 0xA) then s else s.count Reg.pair_RED_WRONG_LAN g
        let s := s.lanSeen g isB
        if s.inWindow g h.src seq then (.drop, s.count Reg.pair_RED_DUP_DISCARD g)
        else (.accept (f.take (f.length - 6)) none, if bad then s else s.addRecord g h.src seq)
    else
      let r := g - 8
      match h.hsr with
      | none => (.accept f none, s)
      | some (o, seq) =>
        if f.length < o + 8 ∨ be (o + 2) 2 f % 4096 = 0 then (.drop, s.count Reg.ring_RED_TAG_ERR r)
        else
          let s := if h.etype = 0x88FB then s.count Reg.ring_RED_SUP_RX r else s
          if s.ownAddress h.src then
            let s := s.count Reg.ring_RED_OWN_REMOVED r
            if h.etype = 0x88FB ∧ (s.grp g).supSent.isSome then
              let s := s.setGrp g { s.grp g with supSent := none }
              (.drop, if s.flag Reg.ring_RING_OK r then s else (s.wr Reg.ring_RING_OK r 1).raise 125 0x0101 r)
            else (.drop, s)
          else if s.inWindow g h.src seq then (.drop, s.count Reg.ring_RED_DUP_DISCARD r)
          else (.accept (f.take o ++ f.drop (o + 6)) (some (g, seq)), if bad then s else s.addRecord g h.src seq)

/-! ### Sending through pairs and rings (R213–R216) -/

/-- The sequence number that a frame takes into a group: the module's own counter, or a proxied node's (R214, R215).
None when the frame goes without RCT or tag. -/
def State.redSeq (s : State) (g ingress src : Nat) : Option Nat × State :=
  if 32 ≤ ingress then
    let x := s.grp g
    (some x.seq, s.setGrp g { x with seq := (x.seq + 1) % 65536 })
  else if !s.groupRedbox g then (none, s)
  else match s.red.nodes.find? (fun n => n.mac = src) with
    | some n =>
      (some n.seq, { s with red := { s.red with nodes := s.red.nodes.map fun m =>
        if m.mac = src then { m with seq := (m.seq + 1) % 65536, last := s.mono } else m } })
    | none =>
      if s.red.nodes.length < 1024 then
        let s := { s with red := { s.red with nodes := s.red.nodes ++ [({ mac := src, seq := 1, last := s.mono } : Node)] } }
        (some 0, s.wr Reg.red_NODE_COUNT 0 s.red.nodes.length)
      else
        let s := s.count Reg.red_RED_NODE_FULL
        if s.red.nodeFullSeen.contains src then (none, s)
        else (none, ({ s with red := { s.red with nodeFullSeen := src :: s.red.nodeFullSeen } } : State).raise 124 0x0103 0)

/-- The ports and tags of a frame once pairs and rings are taken in: both ports of a group whose port is named, with one
sequence number (R213). None when it would exceed MAX_FRAME of either port (R216). A frame never returns into the pair
it came from. -/
def State.expand (s : State) (ingress src len : Nat) (dests : List Nat) (ring : Option (Nat × Nat)) :
    Option (List Nat × List (Nat × Nat)) × State :=
  let start : List Nat × List (Nat × Nat) := match ring with
    | some (g, seq) =>
      let (a, b) := s.groupPorts g
      (((if a = ingress then b else a) :: dests.filter fun q => q ≠ a ∧ q ≠ b), [(g, seq)])
    | none => (dests, [])
  (List.range 12).foldl (fun (acc : Option (List Nat × List (Nat × Nat)) × State) g =>
    match acc with
    | (none, s) => (none, s)
    | (some (ps, tags), s) =>
      let (a, b) := s.groupPorts g
      if !s.groupEn g || s.groupBad g || !(ps.contains a || ps.contains b) || tags.any (fun t => t.1 = g) then (some (ps, tags), s)
      else if ingress = a ∨ ingress = b then (some (ps.filter (fun q => q ≠ a ∧ q ≠ b), tags), s)
      else match s.redSeq g ingress src with
        | (none, s) => (some (ps, tags), s)
        | (some seq, s) =>
          if min (s.maxFrame a) (s.maxFrame b) < len + 6 then (none, s.count Reg.red_RED_TOO_LONG)
          else (some ((ps.filter fun q => q ≠ a ∧ q ≠ b) ++ [a, b], tags ++ [(g, seq)]), s)) (some start, s)

/-- A copy's bytes at port q: with the RCT of a pair or the HSR tag of a ring when the frame carries one there (R213). -/
def State.addTag (s : State) (f : SwFrame) (q : Nat) (bytes : Bytes) : Bytes :=
  match f.red.find? (fun t => let (a, b) := s.groupPorts t.1; a = q || b = q) with
  | none => bytes
  | some (g, seq) =>
    let h := headersOf bytes
    let isB := (s.groupPorts g).2 = q
    if g < 8 then
      let b := padTo 60 bytes
      b ++ beBytes 2 seq ++ beBytes 2 ((if isB then 0xB else 0xA) * 4096 + (b.length - h.payload + 6) % 4096) ++ beBytes 2 0x88FB
    else
      let o := h.payload - 2
      bytes.take o ++ beBytes 2 0x892F ++ beBytes 2 (b2n isB * 4096 + (bytes.length - h.payload + 8) % 4096) ++ beBytes 2 seq
        ++ bytes.drop o

/-! ### Policing and cut-through (R192, R193) -/

/-- Class 7 policing of an external port: whether the frame passes (R192). -/
def State.police (s : State) (q : Nat) : Bool × State :=
  if 32 ≤ q then (true, s)
  else
    let cap := 64 * unitsSec
    let (c0, t0) := Tbl.look (cap, 0) s.net.bucket q
    let c := min cap (c0 + (s.mono - t0) * s.rd Reg.swp_PTP_RATE q)
    if unitsSec ≤ c then
      (true, { s with net := { s.net with bucket := Tbl.put (cap, 0) s.net.bucket q (c - unitsSec, s.mono) } })
    else
      let s := { s with net := { s.net with bucket := Tbl.put (cap, 0) s.net.bucket q (c, s.mono) } }
      (false, (s.count Reg.swc_SWC_POLICE_DROP).raise 38 0x010B q)

/-- CT_EN of an egress port for a class (R193). -/
def State.ctEnabled (s : State) (q c : Nat) : Bool := bit c (s.raw Reg.swp_CT_EN q)

/-- The last four conditions of R193. -/
def State.ctPossible (s : State) (f : SwFrame) (q : Nat) : Bool :=
  !f.ctDeny && decide (f.tagMode ≤ 1) && decide (s.portRate q ≤ s.portRate f.ingress) && decide (1000 ≤ s.portRate q)
    && decide (1000 ≤ s.portRate f.ingress) && s.fullDuplex q

/-! ### SWITCH_INGRESS (R180) -/

/-- A frame dropped for want of buffer (R198). A frame a slice offers through port 35 is refused with FULL_SHARE. -/
def State.noBuffer (s : State) (f : SwFrame) : State :=
  if f.cls < 5 ∧ f.owner < 128 then
    let s := (s.count Reg.swc_SWC_DROP_SHARE).count Reg.own_SWC_OWN_DROP f.owner
    { s with net := { s.net with sendFull := s.net.sendFull ++ f.send.toList } }
  else (s.count Reg.swc_SWC_DROP_NOBUF).raise 33 0x0103 0

/-- Stages 3 to 6 for a classified frame. -/
def State.admitFrame (s : State) (a : Arrival) (h : Headers) (v : Verdict) (bytes : Bytes) (ring : Option (Nat × Nat)) :
    State :=
  let (pass, s) := if v.cls = 7 then s.police a.port else (true, s)
  let gone := fun (s : State) => { s with net := { s.net with sendDone := s.net.sendDone ++ a.send.toList } }
  if !pass then gone s
  else
    match s.expand a.port h.src (wireLen bytes) v.dests ring with
    | (none, s) => gone s
    | (some (ports, tags), s) =>
      let f : SwFrame := {
        id := 0, bytes := bytes, ingress := a.port, arrived := a.t, enq := s.mono, cls := v.cls, owner := v.owner,
        ports := ports, epoch := s.raw Reg.swc_CLS_EPOCH, cells := cellsOf (wireLen a.bytes),
        ctDeny := v.ctDeny, tagMode := v.tagMode, sa := v.sa, verdict := if v.tagMode = 0 then 0 else 1,
        bad := a.bad, red := tags, send := a.send, tso := a.tso.map fun (x, y, z) => (x, y, z, 0),
        genSa := a.genSa, pub := a.pub }
      if ports.isEmpty then gone s
      else if a.tso.isSome && 1 < ports.length then gone (ports.foldl (fun (s : State) q => s.tsoBad q) s)
      else if !s.fits f.cls f.owner f.cells then s.noBuffer f
      else s.enqueue f

/-- The ports a PTP message goes on to as the transparent clock takes it: every other PTP-enabled port that forwards; a
half-duplex one drops it (R128, R130). -/
def State.ptpPorts (s : State) (p : Nat) : List Nat × State :=
  let all := (List.range 32).filter fun q => q ≠ p && s.ptpOn q && s.fwd q
  let s' := all.foldl (fun s q => if s.fullDuplex q then s else s.count Reg.stx_STX_PTP_HDX_DROP) s
  (all.filter fun q => s.fullDuplex q, s')

/-- A PTP message is queued in class 7 for its egress ports (R129, R198). -/
def State.queuePtp (s : State) (p t : Nat) (bytes : Bytes) (ports : List Nat) (m : Option PtpMark) (bad : Bool := false) :
    State :=
  let f : SwFrame := {
    id := 0, bytes := bytes, ingress := p, arrived := t, enq := s.mono, cls := 7, owner := 128, ports := ports,
    epoch := s.raw Reg.swc_CLS_EPOCH, cells := cellsOf (wireLen bytes), ptp := m, bad := bad }
  if ports.isEmpty then s else if !s.fits 7 128 f.cells then s.noBuffer f else s.enqueue f

/-- A PTP message passed on by the transparent clock. -/
def State.forwardPtp (s : State) (p t : Nat) (bytes : Bytes) (m : Option PtpMark) (bad : Bool := false) : State :=
  let (ports, s) := s.ptpPorts p
  s.queuePtp p t bytes ports m bad

/-- The whole path of a frame into the switch core. -/
def State.switchIn (s : State) (a : Arrival) : State :=
  let h := headersOf a.bytes
  let s := if !a.bad && (decide (a.port < 32) && s.fwd a.port || decide (a.port = 35)) then
      s.learn h.src ((h.tag.map (·.2)).getD 0) a.port else s
  let v := s.classify a.bytes h a.port
  let s := if v.demoted && a.desc.isNone then s.count Reg.swc_SWC_DEMOTE else s
  match s.dupStage a.port a.bytes h a.bad with
  | (.drop, s) => s
  | (.accept bytes ring, s) =>
    match a.desc with
    | some (cls, ports, owner) =>
      let dests := ports.getD (if 5 ≤ v.cls then s.forwardTo h a.port else v.dests)
      s.admitFrame a h { cls := cls, dests := dests, owner := owner } bytes ring
    | none =>
      if h.etype = 0x88F7 ∧ a.port < 32 then
        -- PTP: a message with a command of its own is only policed here; management and signalling messages pass on
        -- (R128–R130, R192)
        if s.rxRaw Reg.stxp_PTP_PORT_EN a.port = 0 then s
        else if !s.fullDuplex a.port then s.count Reg.stx_STX_PTP_HDX_DROP
        else
          let (pass, s) := s.police a.port
          let ty := be h.payload 1 a.bytes % 16
          if pass && (ty = 0xC || ty = 0xD) then s.forwardPtp a.port a.t a.bytes none a.bad else s
      else s.admitFrame a h v bytes ring

/-- SWITCH_INGRESS (R180): the oldest frame that port q has passed to the switch core completes stages 1 to 6. -/
def execSwitchIngress (q : Nat) (s : State) : Host.Outcome State Fault Refusal :=
  .next (match s.net.arrivals.find? (fun a => a.port = q) with
    | none => s
    | some a => State.switchIn { s with net := { s.net with arrivals := s.net.arrivals.erase a } } a)

/-! ### Tag checks (R203–R205) -/

/-- One key's check of a frame, by requester 1; a refusal is counted (R205, R507). -/
def State.tagGood (s : State) (sa : Bytes) (key : Nat) (auth data : Bytes) : Bool × State :=
  match s.useKey key useTagChk 1 with
  | (some k, s) => (decide (tagOf (le 0 1 sa) (macLen (le 0 1 sa) (le 1 1 sa)) k data = auth), s)
  | (none, s) => (false, s)

/-- KEY_NEXT of an association becomes current in every live version (R205). -/
def State.rollSa (s : State) (sa : Nat) : State :=
  { s with net := { s.net with epochs := s.net.epochs.map fun e =>
    let b := Tbl.look ([] : Bytes) e.sa sa
    { e with sa := Tbl.put ([] : Bytes) e.sa sa (b.take 2 ++ slice 4 2 b ++ [0xFF, 0xFF] ++ b.drop 6) } } }

/-- The verdict of a frame's tag: good, failed or missing, with what each counts (R205). -/
def State.tagVerdict (s : State) (f : SwFrame) : Nat × State :=
  let sa := Tbl.look ([] : Bytes) ((s.net.epochs.find? fun e => e.num = f.epoch).getD s.epoch).sa f.sa
  match Config.authValue f.bytes with
  | none => (4, s.count Reg.swc_SWC_TAG_MISSING)
  | some (auth, data) =>
    let (good, s) := s.tagGood sa (le 2 2 sa) auth data
    if good then (2, s)
    else
      let (next, s) := if le 4 2 sa = 0xFFFF then (false, s) else s.tagGood sa (le 4 2 sa) auth data
      if next then (2, ((s.rollSa f.sa).count Reg.swc_SWC_KEY_ROLL).raise 35 0x0107 f.sa)
      else (3, (s.count Reg.swc_SWC_TAG_FAIL).raise 35 0x0106 (f.sa + f.ingress * 65536))

/-- TAG_CHECK_DONE (R205): the oldest running check completes; TAG_MODE decides whether the frame goes on. -/
def execTagCheckDone (s : State) : Host.Outcome State Fault Refusal :=
  .next (match s.net.frames.find? (fun f => f.verdict = 1) with
    | none => s
    | some f =>
      let (v, s) := s.tagVerdict f
      let s := { s with net := { s.net with frames := s.net.frames.map fun x => if x.id = f.id then { x with verdict := v } else x } }
      if (f.tagMode = 2 ∧ v = 3) ∨ (f.tagMode = 3 ∧ v ≠ 2) then f.ports.foldl (fun s q => s.dropCopy f.id q) s else s)

/-! ### Scheduling (R189–R191) -/

/-- A frame older than SWC_RES_LIMIT never starts (R196). -/
def State.stale (s : State) (f : SwFrame) : Bool := f.arrived + s.rd Reg.swc_SWC_RES_LIMIT * unitsMs < s.mono

/-- A class is paused at a port (R162). -/
def State.paused (s : State) (q c : Nat) : Bool :=
  q < 32 && s.flag Reg.prt_PAUSED q && decide (s.mono < (s.px q).pauseEnd) && !bit c (s.raw Reg.prt_PAUSE_IMMUNE q)

/-- A Follow_Up waits until its Sync has left by the port (R132). -/
def State.followWaits (s : State) (f : SwFrame) (q : Nat) : Bool :=
  match f.ptp with
  | some m => m.kind = 2 && s.stx.syncRecs.any fun r =>
      r.source = m.source && r.seq = m.seq && r.domain = m.domain && r.waiting.contains q
  | none => false

/-- A frame for port 35 waits while the slice that is to receive it is FROZEN (R411, R418). -/
def State.frozenFor (s : State) (f : SwFrame) : Bool :=
  let o := if f.owner < 128 then f.owner else s.raw Reg.slcg_HOST_DEFAULT
  o < 128 && s.raw Reg.slc_STATE o = 4

/-- A head frame may start at a port now: one for port 32 waits for the verdict that goes with it (R205). -/
def State.ready (s : State) (f : SwFrame) (q : Nat) : Bool :=
  !(decide (q = 35) && s.frozenFor f) && !((decide (2 ≤ f.tagMode) || decide (q = 32)) && f.verdict = 1) && !s.followWaits f q

/-- The heads of the queues of class c at port q, one per ingress port, that may start. -/
def State.heads (s : State) (q c : Nat) : List SwFrame :=
  if s.paused q c || !s.fwd q then []
  else
    let l := s.net.frames.filter fun f => f.cls = c && f.ports.contains q && !s.stale f
    l.filter fun f => s.ready f q && decide ((l.find? fun g => g.ingress = f.ingress) = some f)

/-- The head that round robin chooses among ingress ports (R190). -/
def State.robin (s : State) (q c : Nat) (hs : List SwFrame) : Option SwFrame :=
  let last := Tbl.look 35 s.net.rr (q * 8 + c)
  let d := fun (f : SwFrame) => (f.ingress + 71 - last) % 36
  hs.foldl (fun b f => match b with
    | none => some f
    | some g => if d f < d g then some f else some g) none

/-- Quantum of a best-effort class at a port, in bytes (R190). -/
def State.quantum (s : State) (q c : Nat) : Nat := le c 1 (leBytes 4 (s.rd Reg.swp_DWRR_W q)) * 64

/-- The best-effort choice by deficit round robin: at least one whole frame in each turn (R190). -/
def State.drr (s : State) (q : Nat) : Option SwFrame × State :=
  let cand := fun c => s.robin q c (s.heads q c)
  let cur := Tbl.look 3 s.net.turn q
  let left := fun (s : State) c => Tbl.look 0 s.net.deficit (q * 8 + c)
  let take := fun (s : State) c (f : SwFrame) =>
    { s with net := { s.net with
      deficit := Tbl.put 0 s.net.deficit (q * 8 + c) (left s c - wireLen f.bytes),
      turnSent := Tbl.put true s.net.turnSent q true } }
  let stay := match cand cur with
    | some f => if wireLen f.bytes ≤ left s cur ∨ Tbl.look true s.net.turnSent q = false then some f else none
    | none => none
  match stay with
  | some f => (some f, take s cur f)
  | none =>
    match ([1, 2, 3, 4].map fun k => (cur + k) % 4).find? fun c => (cand c).isSome with
    | none => (none, s)
    | some c =>
      let s := { s with net := { s.net with
        turn := Tbl.put 3 s.net.turn q c,
        turnSent := Tbl.put true s.net.turnSent q false,
        deficit := Tbl.put 0 (if (cand cur).isSome then s.net.deficit else Tbl.put 0 s.net.deficit (q * 8 + cur) 0)
          (q * 8 + c) (left s c + s.quantum q c) } }
      match cand c with
      | some f => (some f, take s c f)
      | none => (none, s)

/-- The head of a promoted class that its quantum still lets go: its first frame, or one that fits what is left (R191). -/
def State.promHead (s : State) (q c : Nat) : Option SwFrame :=
  match Tbl.look 0 s.net.promoted (q * 8 + c) with
  | 0 => none
  | 1 => s.robin q c (s.heads q c)
  | _ => (s.robin q c (s.heads q c)).filter fun f => wireLen f.bytes ≤ Tbl.look 0 s.net.promLeft (q * 8 + c)

/-- The promotions of a port are over (R191). -/
def State.endPromotions (s : State) (q : Nat) : State :=
  { s with net := { s.net with
    promoted := (List.range 4).foldl (fun m c => Tbl.put 0 m (q * 8 + c) 0) s.net.promoted,
    promLeft := (List.range 4).foldl (fun m c => Tbl.put 0 m (q * 8 + c) 0) s.net.promLeft } }

/-- The frame that port q sends next: admitted tier, a promoted class, class 4, best effort (R190, R191). -/
def State.choose (s : State) (q : Nat) : Option SwFrame × State :=
  let strict := fun c => s.robin q c (s.heads q c)
  match (strict 7).or ((strict 6).or (strict 5)) with
  | some f => (some f, s)
  | none =>
    match (List.range 4).findSome? fun c => s.promHead q c with
    | some f =>
      let k := q * 8 + f.cls
      let s := { s with net := { s.net with
        promLeft := Tbl.put 0 s.net.promLeft k (Tbl.look 0 s.net.promLeft k - wireLen f.bytes),
        promoted := Tbl.put 0 s.net.promoted k 2 } }
      (some f, s)
    | none =>
      let s := s.endPromotions q
      match strict 4 with
      | some f => (some f, s)
      | none => s.drr q

/-! ### Transmission (R131, R172, R195, R202, R206) -/

/-- Copies of a frame dropped from every queue. -/
def State.dropFrame (s : State) (f : SwFrame) : State := f.ports.foldl (fun s q => s.dropCopy f.id q) s

/-- Bytes put on the wire: the copy's state, its length and the output (R27, R176). -/
def State.onTheWire (s : State) (f : SwFrame) (q : Nat) (bytes : Bytes) (stomp : Bool) : State :=
  let t : Tx := { frame := f, bytes := bytes, start := s.mono, stop := s.mono + s.bitTime q (8 * (wireLen bytes + 20)) }
  let s := { s with net := { s.net with
    tx := Tbl.put none s.net.tx q (some t),
    rr := if f.ports.isEmpty then s.net.rr else Tbl.put 35 s.net.rr (q * 8 + f.cls) f.ingress } }
  let s := if q < 32 then (f.pub.map fun p => s.pubOnWire p).getD s else s
  if q < 32 then s.emit (if stomp then .stomped q bytes else .frame q (padTo 60 bytes)) else s

/-- correctionField of a PTP message at offset `o`, increased by a sum of units of 1/9 ns, saturated as R133 says.
Answers whether it overflowed. -/
def addCorrection (bytes : Bytes) (o : Nat) (sum : Int) : Bytes × Bool :=
  let old := toSigned 64 (be (o + 8) 8 bytes)
  let new := old + sum * 65536 / 9
  let ovf := decide ((0x7FFFFFFFFFFFFFFF : Int) < new)
  (putBe (o + 8) 8 (if ovf then 0x7FFFFFFFFFFFFFFF else ofSigned 64 new) bytes, ovf)

/-- The egress timestamp of a frame that starts now: in SGMII it lies EXT_TX_LAT later, at the PHY's connector (R124). -/
def State.stampOut (s : State) (q : Nat) : Nat :=
  s.mono + (if q < 32 ∧ s.raw Reg.prt_LANE_MODE q = 2 then s.raw Reg.stxp_EXT_TX_LAT q * unitsNs else 0)

/-- A Sync record changed. -/
def State.updSync (s : State) (m : PtpMark) (f : SyncRec → SyncRec) : State :=
  { s with stx := { s.stx with syncRecs := s.stx.syncRecs.map fun r =>
      if r.source = m.source ∧ r.seq = m.seq ∧ r.domain = m.domain then f r else r } }

/-- A PTP message at its egress (R131–R134, R137): a one-step Sync carries the sum of R131, a two-step Sync leaves it for
its Follow_Up, and a Follow_Up takes it; a Pdelay_Req leaves its egress timestamp, a Pdelay_Resp carries its turnaround
time, and the module's own Sync its origin timestamp. -/
def State.ptpEgress (s : State) (f : SwFrame) (q : Nat) (bytes : Bytes) : Bytes × State :=
  match f.ptp with
  | none => (bytes, s)
  | some m =>
    let o := (headersOf bytes).payload
    let out := s.stampOut q
    let sum : Int := m.base + ((out : Int) - m.arrived)
    let corr := fun (s : State) (sum : Int) =>
      let (b, ovf) := addCorrection bytes o sum
      let s := s.count Reg.stx_STX_TC_CORR
      (b, if ovf then (s.count Reg.stx_STX_TC_OVF).raise 45 0x0108 q else s)
    match m.kind with
    | 0 => corr s sum
    | 1 => (bytes, s.updSync m fun r => { r with sums := (q, sum) :: r.sums, waiting := r.waiting.filter (· ≠ q) })
    | 2 =>
      match s.stx.syncRecs.find? (fun r => r.source = m.source ∧ r.seq = m.seq ∧ r.domain = m.domain) with
      | some r => match r.sums.find? (fun x => x.1 = q) with
        | some x => corr (s.updSync m fun r => { r with sums := r.sums.filter fun y => y.1 ≠ q }) x.2
        | none => (bytes, s)
      | none => (bytes, s)
    | 3 =>
      let x := Tbl.look ({} : Pdelay) s.stx.pdelay q
      (bytes, { s with stx := { s.stx with
        pdelay := Tbl.put ({} : Pdelay) s.stx.pdelay q { x with asked := some (m.seq, out) } } })
    | 4 =>
      let (b, ovf) := addCorrection bytes o sum
      (b, if ovf then (s.count Reg.stx_STX_TC_OVF).raise 45 0x0108 q else s)
    | _ =>
      let t := s.taiOf out
      (putBe (o + 34) 6 (t / unitsSec) (putBe (o + 40) 4 (t % unitsSec / unitsNs) bytes), s)

/-- The tag of a port 33 frame whose publication declares a security association; none when its key is orphaned or
cannot be used (R206). -/
def State.generateTag (s : State) (f : SwFrame) : Option Bytes × State :=
  match f.genSa with
  | none => (some f.bytes, s)
  | some n =>
    let sa := Tbl.look ([] : Bytes) ((s.net.epochs.find? fun e => e.num = f.epoch).getD s.epoch).sa n
    match s.useKey (le 2 2 sa) useTagGen 1 with
    | (some k, s) =>
      let data := (Config.authValue f.bytes).elim f.bytes (·.2)
      (some (Config.authInsert f.bytes (tagOf (le 0 1 sa) (macLen (le 0 1 sa) (le 1 1 sa)) k data)), s.count Reg.swc_SWC_TAG_GEN)
    | (none, s) => (none, (s.count Reg.swc_SWC_TAG_ORPHAN).raise 35 0x0106 (n + 2 ^ 31))

/-- A chosen frame starts at port q: a super-frame sends its next segment and stays queued until its last (R172–R174). -/
def State.startCopy (s : State) (f : SwFrame) (q : Nat) : State :=
  match s.generateTag f with
  | (none, s) => s.dropFrame f
  | (some body, s) =>
    let s := if f.genSa.isNone then s else
      { s with net := { s.net with frames := s.net.frames.map fun (x : SwFrame) =>
        if x.id = f.id then { x with bytes := body, genSa := none } else x } }
    let f := { f with bytes := body, genSa := none }
    let s := if s.ctEnabled q f.cls && !s.ctPossible f q then s.count Reg.swc_SWC_CT_FALLBACK else s
    if f.bad then
      if s.ctEnabled q f.cls && s.ctPossible f q then
        let s := s.count Reg.swc_SWC_CT_STOMP
        let s := { s with net := { s.net with frames := s.net.frames.map fun (x : SwFrame) => if x.id = f.id then { x with ports := x.ports.filter (· ≠ q) } else x } }
        s.onTheWire f q (s.addTag f q body) true
      else s.dropCopy f.id q
    else
      match f.tso with
      | some (hdr, mss, mode, k) =>
        if k = 0 && !s.tsoOk q f.cls hdr mss mode f.bytes then (s.tsoBad q).dropCopy f.id q
        else
          let seg := tsoSegment hdr mss mode k body
          let last := body.length ≤ hdr + (k + 1) * mss
          let f' := { f with tso := some (hdr, mss, mode, k + 1), ports := if last then f.ports.filter (· ≠ q) else f.ports }
          let s := { s with net := { s.net with frames := s.net.frames.map fun (x : SwFrame) => if x.id = f.id then f' else x } }
          s.onTheWire f q seg false
      | none =>
        let (b, s) := s.ptpEgress f q body
        let s := { s with net := { s.net with frames := s.net.frames.map fun (x : SwFrame) => if x.id = f.id then { x with ports := x.ports.filter (· ≠ q) } else x } }
        s.onTheWire f q (s.addTag f q b) false

/-- A MAC control PAUSE frame of a port (R155, R165). -/
def State.pauseFrame (s : State) (p quanta : Nat) : Bytes :=
  padTo 60 (beBytes 6 0x0180C2000001 ++ beBytes 6 (s.baseMac + p) ++ beBytes 2 0x8808 ++ beBytes 2 1 ++ beBytes 2 quanta)

/-- A PAUSE waiting at a port goes out ahead of every queued frame (R165). -/
def State.sendPause (s : State) (p quanta : Nat) : State :=
  let s := s.setPx p { s.px p with pauseOut := (s.px p).pauseOut.drop 1 }
  let b := s.pauseFrame p quanta
  let f : SwFrame := { id := s.net.frameSeq, bytes := b, ingress := 35, arrived := s.mono, enq := s.mono, cls := 7, owner := 128,
                       ports := [], epoch := s.raw Reg.swc_CLS_EPOCH, cells := 0 }
  let s := { s with net := { s.net with frameSeq := s.net.frameSeq + 1 } }
  (s.count Reg.prt_PRT_TX_PAUSE p).onTheWire f p b false

/-- EGRESS_SCHEDULE (R190, R202): an idle port that may send chooses its next frame and starts it. `ecc` is an ECC error
met in a cell of that frame: uncorrectable or not, and the memory address for INFO. -/
def execEgressSchedule (q : Nat) (ecc : Option (Bool × Nat)) (s : State) : Host.Outcome State Fault Refusal :=
  .next (if 36 ≤ q || s.txBusy q then s
    else match (s.px q).pauseOut with
      | quanta :: _ => if s.flag Reg.prt_LINK q then s.sendPause q quanta else s
      | [] =>
        match s.choose q with
        | (none, s) => s
        | (some f, s) =>
          match ecc with
          | some (true, a) => ((s.count Reg.swc_SWC_DROP_ECC).raise 39 0x0003 a).dropFrame f
          | some (false, a) => (s.raise 39 0x0002 a).startCopy f q
          | none => s.startCopy f q)

/-- SUPER_FRAME_TX (R172–R174): the oldest super-frame queued for a port breaks a limit and is dropped whole, or sends its
next segment when the idle port's turn is its. -/
def execSuperFrameTx (q : Nat) (s : State) : Host.Outcome State Fault Refusal :=
  .next (match (s.queuedFor q).find? (fun f => f.tso.isSome) with
    | none => s
    | some f => match f.tso with
      | none => s
      | some (hdr, mss, mode, k) =>
        if k = 0 && !s.tsoOk q f.cls hdr mss mode f.bytes then (s.tsoBad q).dropCopy f.id q
        else if 36 ≤ q || s.txBusy q || !(s.px q).pauseOut.isEmpty then s
        else match s.choose q with
          | (some g, t) => if g.id = f.id then t.startCopy g q else s
          | (none, _) => s)

/-- TX_COMPLETE (R189, R196): the last bit leaves; the copy is counted or delivered, and cells are freed with the last
copy. Frame-boundary writes of the port apply (R640). -/
def execTxComplete (q : Nat) (s : State) : Host.Outcome State Fault Refusal :=
  .next (match Tbl.look none s.net.tx q with
    | none => s
    | some t =>
      if (s.px q).backoff.isSome then s
      else
        let s := s.advance t.stop
        let s := { s with net := { s.net with tx := Tbl.put none s.net.tx q none } }
        let s := if q < 32 then
            let s := s.count64 Reg.prt_TX_FRAMES_LO Reg.prt_TX_FRAMES_UP q 1
            let s := s.count64 Reg.prt_TX_BYTES_LO Reg.prt_TX_BYTES_UP q (wireLen t.bytes)
            let s := s.setPx q { s.px q with attempts := 0, excess := 0 }
            ((s.px q).pauseNext.map fun n => s.startPause q n).getD s
          else if q = 32 then { s with net := { s.net with toIngest := s.net.toIngest ++ [t.frame] } }
          else if q = 34 then { s with net := { s.net with toCapture := s.net.toCapture ++ [t.frame] } }
          else if q = 35 then { s with net := { s.net with toHost := s.net.toHost ++ [t.frame] } }
          else s
        let more := s.net.frames.any fun f => f.id = t.frame.id && f.ports.contains q
        let s := if more then s else s.dropCopy t.frame.id q
        s.frameBoundary q)

/-- STARVE_PROMOTE (R191): the head of class c at port q has waited longer than SWC_STARVE. -/
def execStarvePromote (q c : Nat) (s : State) : Host.Outcome State Fault Refusal :=
  .next (match s.net.frames.find? (fun f => f.cls = c && f.ports.contains q) with
    | none => s
    | some f =>
      if 4 ≤ c then s
      else
        let s := s.advance (f.enq + s.rd Reg.swc_SWC_STARVE * unitsMs)
        let s := { s with net := { s.net with
          promoted := Tbl.put 0 s.net.promoted (q * 8 + c) 1,
          promLeft := Tbl.put 0 s.net.promLeft (q * 8 + c) (s.quantum q c) } }
        s.count Reg.swc_SWC_STARVE_PROMOTE)

/-- STALE_FRAME_DROP (R196): the oldest queued frame passes SWC_RES_LIMIT and leaves its queues. -/
def execStaleFrameDrop (s : State) : Host.Outcome State Fault Refusal :=
  let old := s.net.frames.filter fun f => !f.ports.isEmpty
  .next (match old.foldl (fun (b : Option SwFrame) f => match b with
      | none => some f
      | some g => if f.arrived < g.arrived then some f else some g) none with
    | none => s
    | some f =>
      let s := s.advance (f.arrived + s.rd Reg.swc_SWC_RES_LIMIT * unitsMs + 1)
      f.ports.foldl (fun s q => ((s.count Reg.swc_SWC_DROP_STALE).raise 36 0x0108 q).dropCopy f.id q) s)

/-- FDB_AGE_OUT (R185). -/
def execFdbAgeOut (mac vid : Nat) (s : State) : Host.Outcome State Fault Refusal :=
  .next (match s.net.fdb.find? (fun e => e.1 = fdbKey mac vid) with
    | none => s
    | some (k, e) =>
      let s := s.advance (e.last + s.rd Reg.swc_SWC_AGE * unitsSec)
      { s with net := { s.net with fdb := Tbl.drop s.net.fdb k } })

/-! ### Epochs (R183, R186–R188) -/

/-- An Engineer entry as CLS_COMMIT applies it, and the clamps it made: (written, applied, reason) (R183). -/
def clampEntry (e : Bytes) : Bytes × List (Nat × Nat × Nat) :=
  let c := bits 2 0 (le 17 1 e)
  let eg := le 18 5 e
  let eg' := eg - (eg &&& (2 ^ 32 + 2 ^ 33))
  let ow := le 23 1 e
  let (c', r1) := if 5 ≤ c then (3, [(c, 3, 7)]) else (c, [])
  let r2 := if eg ≠ eg' then [(eg % 2 ^ 32, eg' % 2 ^ 32, 7)] else []
  let (ow', r3) := if 0x80 ≤ ow ∧ ow ≤ 0xFE then (0xFF, [(ow, 0xFF, 2)]) else (ow, [])
  (e.take 17 ++ leBytes 1 c' ++ leBytes 5 eg' ++ leBytes 1 ow' ++ e.drop 24, r1 ++ r2 ++ r3)

/-- A security association as it is applied: an unsupported MAC length as 16 (R204). -/
def clampSa (e : Bytes) : Bytes × List (Nat × Nat × Nat) :=
  let alg := le 0 1 e
  let len := le 1 1 e
  let alg' := if alg ≤ 2 then alg else 0
  if alg' = 0 then (leBytes 1 alg' ++ e.drop 1, [])
  else
    let len' := macLen alg' len
    (leBytes 1 alg' ++ leBytes 1 len' ++ e.drop 2, if len = len' then [] else [(len, len', 7)])

/-- CLS_COMMIT (R183, R186, R188): the staged tables are clamped and become one change. -/
def execClsCommit (src : Requester) (s : State) : Host.Outcome State Fault Refusal :=
  let (h, s) := s.newHandle src
  let es := (List.range 3072).map fun k => (1024 + k, s.domBytes 0x040200 ((1024 + k) * 32) 32)
  let es := es.filter fun e => bit 7 (le 9 1 e.2)
  let sas := (List.range 1024).map fun k => (k, s.domBytes 0x040201 (k * 8) 8)
  let sas := sas.filter fun e => e.2 ≠ List.replicate 8 0
  let s := es.foldl (fun s e => (clampEntry e.2).2.foldl (fun s (w, a, r) => s.clampReport h 0x04020000 (w + e.1 * 2 ^ 32) a r) s) s
  let s := sas.foldl (fun s e => (clampSa e.2).2.foldl (fun s (w, a, r) => s.clampReport h 0x04020100 (w + e.1 * 2 ^ 32) a r) s) s
  let s := (s.releaseDomain 0x040200).releaseDomain 0x040201
  .next (s.submitChange { cls := some (es.map fun e => (e.1, (clampEntry e.2).1)), sa := some (sas.map fun e => (e.1, (clampSa e.2).1)), handles := [h] })

/-- EPOCH_ACTIVATE (R186, R188): the version that follows the current one becomes current at a Window boundary. -/
def execEpochActivate (s : State) : Host.Outcome State Fault Refusal :=
  let cur := s.raw Reg.swc_CLS_EPOCH
  .next (match (s.net.epochs.dropWhile fun e => e.num ≠ cur).drop 1 with
    | [] => s
    | e :: _ =>
      s.activateEpoch e)

/-- EPOCH_RETIRE (R187, R188): the oldest version that is not current and that no frame carries is freed; a waiting
change then loads. -/
def execEpochRetire (s : State) : Host.Outcome State Fault Refusal :=
  let cur := s.raw Reg.swc_CLS_EPOCH
  .next (match (s.net.epochs.takeWhile fun e => e.num ≠ cur).find? fun e => s.epochRefs e.num = 0 with
    | none => s
    | some e =>
      let s := (State.syncLive { s with net := { s.net with epochs := s.net.epochs.erase e } }).raise 32 0x0101 e.num
      match s.net.changes with
      | c :: more => State.startLoad { s with net := { s.net with changes := more } } c
      | [] => s)

/-- AUDIT_PASS (R201): `lost` cells are neither free nor referenced at this pass, `dups` are found twice on the free
list. Cells lost in two passes in a row are reclaimed. -/
def execAuditPass (lost : Nat) (dups : List Nat) (s : State) : Host.Outcome State Fault Refusal :=
  .next (if !s.flag Reg.swc_AUDIT_EN then s
    else
      let n := min lost s.net.auditMiss
      let s := { s with net := { s.net with auditMiss := lost - n } }
      let s := dups.foldl (fun s c => (s.count Reg.swc_SWC_FREE_DUP).raise 34 0x0105 c) s
      let used := (s.net.frames.map (·.cells)).sum
      let s := s.wr Reg.swc_FREE_CELLS 0 (49152 - used)
      if n = 0 then s else (s.count Reg.swc_SWC_LEAK_RECLAIM 0 n).raise 34 0x0104 n)

end Sys2Proof.Machine
end

