-- ==== Sys2Proof/Machine/Torchon.lean ====
section
/-!
DEFINITION. Operations of the Torchon tiles: instances, evaluations and their finality, the journal, rollbacks, fixes,
faults and the commit gate (chapters 10 and 11).
-/

namespace Sys2Proof.Machine

/-! ### Instances and tiles -/

def State.inst (s : State) (i : Nat) : Inst := Tbl.look ({} : Inst) s.tor.insts i
def State.hasInst (s : State) (i : Nat) : Bool := s.tor.insts.any fun e => e.1 = i
def State.setInst (s : State) (i : Nat) (x : Inst) : State :=
  { s with tor := { s.tor with insts := Tbl.put ({} : Inst) s.tor.insts i x } }

/-- The tile an instance runs on. -/
def State.instTile (s : State) (i : Nat) : Option Nat := s.tileOf (s.inst i).ltile

/-- Event source of a tile's quad (R321). -/
def quadSource (t : Nat) : Nat := 64 + t / 4

/-- Slice and instance as INFO of the quad sources has them. -/
def instInfo (i : Nat) : Nat := i / 512 * 2 ^ 24 + i % 512

/-- Trigger sample, trigger time in TAI, and MONO of it, of evaluation n. -/
def State.trigTime (s : State) (x : Inst) (n : Nat) : Nat := n * x.div * entPeriod (s.strm x.trigger).entry

/-- The sample of stream k at age 0 of a trigger time (R293). -/
def State.ageZero (s : State) (k ta : Nat) : Nat := ta / entPeriod (s.strm k).entry

/-- The outputs of a filter slot at or before a trigger time, newest first (R293). -/
def State.filtered (s : State) (c ta : Nat) : List FOut :=
  match s.slotOwner c with
  | none => []
  | some (k, _) => (s.fslot c).outs.filter fun o => o.a * entPeriod (s.strm k).entry ≤ ta

/-- The input number of a template list with its binding. -/
def Inst.inputs (x : Inst) : List (InTpl × Nat) := x.prog.ins.zip x.inB

/-- Tile t runs in Deep mode. -/
def State.deep (s : State) (t : Nat) : Bool := s.flag Reg.tile_MODE t

/-! ### Finality (R324, R325) -/

/-- A sample of stream k with nominal time at or before `ta` is unsettled for tile t: reckoned without a verdict, or its
verdict has not been taken by the tile. -/
def State.unsettledUpTo (s : State) (t k ta : Nat) : Bool :=
  let p := entPeriod (s.strm k).entry
  ((s.strm k).opens.any fun o => o.a * p ≤ ta)
    || (s.tile t).verdicts.any fun v => v.stream = k && v.a * p ≤ ta

/-- The inputs of evaluation n are unsettled (R324): the trigger stream counts as an input stream (R367). -/
def State.inputsUnsettled (s : State) (t : Nat) (x : Inst) (n : Nat) : Bool :=
  let ta := s.trigTime x n
  s.unsettledUpTo t x.trigger ta || x.inputs.any fun tb =>
    let c := tb.2 % 2 ^ 13
    match tb.1.kind, s.slotOwner c with
    | 3, _ => false
    | _, none => false
    | 2, some (k, _) => (((s.filtered c ta).take tb.1.hist).any fun o => bit 3 o.flags)
        || (s.tile t).verdicts.any fun v => v.stream = k && v.a * entPeriod (s.strm k).entry ≤ ta
    | _, some (k, _) => s.unsettledUpTo t k ta

/-- An earlier evaluation of the instance is still speculative, running or to be replayed. -/
def State.earlierOpen (s : State) (t i n : Nat) : Bool :=
  ((s.tile t).evals.any fun e => e.inst = i && e.n < n && !e.final) || (s.tile t).replay.any fun r => r.inst = i && r.n < n

/-- Evaluation n of instance i is or would be speculative (R324). -/
def State.speculative (s : State) (t i n : Nat) : Bool :=
  s.inputsUnsettled t (s.inst i) n || s.earlierOpen t i n

/-- An evaluation is final (R325). -/
def State.isFinal (s : State) (t : Nat) (e : Eval) : Bool :=
  if e.phase = 0 then false
  else if e.phase = 3 || e.phase = 4 then true
  else !s.speculative t e.inst e.n

/-- Status registers of a tile follow its evaluations (R357). -/
def State.syncTile (s : State) (t : Nat) : State :=
  let x := s.tile t
  let live := x.evals.filter fun e => !e.rebuild
  ((s.wr Reg.tspec_INFLIGHT t live.length).wr Reg.tspec_SPEC t (live.filter fun e => !e.final && s.speculative t e.inst e.n).length).wr
    Reg.tspec_JNL_USED t ((x.evals.map fun e => e.pre.length).sum)

/-- Recoveries of a tile's instances that have nothing left to replay are reported (R574). -/
def State.endRecoveries (s : State) (t : Nat) : State :=
  let x := s.tile t
  if x.loading then s
  else
    let hit := fun (r : Recovery) => decide (s.instTile r.inst = some t)
      && !(x.replay.any fun y => y.inst = r.inst) && !(x.evals.any fun e => e.inst = r.inst && e.phase = 0)
    let due := s.tor.recoveries.filter hit
    let s := { s with tor := { s.tor with recoveries := s.tor.recoveries.filter fun r => !hit r } }
    due.foldl (fun s r =>
      let (f, l) := r.lost.getD (0, 0)
      let out := if r.outside then 2 else if r.lost.isSome then 1 else 0
      let s := if out = 1 then s.raise (quadSource t) 0x0107 (instInfo r.inst) else s
      s.recoveryRecord r.kind out (s.inst r.inst).ltile r.tile r.inst 0xFFFF f l r.restore r.at_) s

/-- Evaluations that have become final free their journal entries and count their lines towards the next fix (R329,
R342); one replayed for its data alone is done. -/
def State.settle (s : State) (t : Nat) : State :=
  let s := (s.tile t).evals.foldl (fun s e =>
    if e.final || !s.isFinal t e then s
    else
      let x := s.tile t
      let e' := { e with final := true, pre := [] }
      let s := s.setTile t { x with
        evals := (x.evals.map fun y => if y.inst = e.inst && y.n = e.n then e' else y).filter fun y => !(y.rebuild && y.final),
        changed := (x.changed ++ e.lines.map fun l => (e.inst, l)).eraseDups }
      let i := s.inst e.inst
      s.setInst e.inst { i with lastFinal := some e.n }) s
  (s.syncTile t).endRecoveries t

/-! ### Instance data and the journal (R329, R331) -/

/-- Lines of 64 bytes of an instance's data. -/
def Inst.lineCount (x : Inst) : Nat := cdiv x.dataLen 64

/-- Journal entries reserved on a tile (R331). -/
def State.jnlReserved (s : State) (t : Nat) : Nat :=
  if !s.deep t then 0
  else ((s.instsOn (s.raw Reg.tile_LTILE t)).map fun e => e.2.ra * e.2.lineCount).sum

/-- Unreserved entries in use: those of evaluations that hold none of the reserved ones. -/
def State.jnlOpen (s : State) (t : Nat) : Nat :=
  (((s.tile t).evals.filter fun e => !(s.deep t && 0 < (s.inst e.inst).ra)).map fun e => e.pre.length).sum

/-- The evaluation with its instance and number in a tile. -/
def Tile.eval? (x : Tile) (i n : Nat) : Option Eval := x.evals.find? fun e => e.inst = i && e.n = n

/-- An evaluation of a tile replaced. -/
def State.putEval (s : State) (t : Nat) (e : Eval) : State :=
  let x := s.tile t
  s.setTile t { x with evals := x.evals.map fun y => if y.inst = e.inst && y.n = e.n then e else y }

/-- A store of at most 16 aligned bytes to instance data, with the pre-image of its line taken first (R329). -/
def State.storeData (s : State) (t : Nat) (e : Eval) (addr : Nat) (b : Bytes) : State :=
  let i := s.inst e.inst
  let line := addr / 64
  let (s, e) : State × Eval :=
    if e.lines.contains line then (s, e)
    else
      let e := { e with lines := e.lines ++ [line] }
      let own := s.deep t && 0 < i.ra
      let room := own || s.jnlOpen t + s.jnlReserved t < 640
      if room then (s, { e with pre := e.pre ++ [(line, Memory.readBytes i.data (line * 64) 64)] })
      else if e.unjournalled then (s, e)
      else (s.count Reg.tor_TOR_JNL_FULL, { e with unjournalled := true })
  (s.putEval t e).setInst e.inst { i with data := Memory.writeBytes i.data addr b }

/-- Instance data with the pre-images of an evaluation put back. -/
def undoLines (data : List Host.Cell) (pre : List (Nat × Bytes)) : List Host.Cell :=
  pre.foldl (fun d l => Memory.writeBytes d (l.1 * 64) l.2) data

/-- The committed state of an instance (R342): its data without what evaluations that are not final have stored, and the
number of the last evaluation it holds. -/
def State.committedData (s : State) (t i : Nat) : List Host.Cell × Nat :=
  let x := s.tile t
  let es := x.evals.filter fun e => e.inst = i && !e.final
  let d := es.reverse.foldl (fun d e => undoLines d e.pre) (s.inst i).data
  let first := (es.map (·.n) ++ (x.replay.filter fun r => r.inst = i).map (·.n)).foldl min (s.inst i).next
  (d, first - 1)

/-- A tile with nothing to execute resumes an evaluation whose LDSS data has come (R328). -/
def State.resume (s : State) (t : Nat) : State :=
  let x := s.tile t
  match x.cur with
  | some _ => s
  | none => s.setTile t { x with cur := (x.evals.find? fun e => e.phase = 0 && e.wait = none).map fun e => (e.inst, e.n) }

/-- The evaluation that executed is over or waits. -/
def State.freeTile (s : State) (t : Nat) : State := State.resume (s.setTile t { s.tile t with cur := none }) t

/-! ### Rollback (R334) -/

/-- Evaluation numbers from a to b, b excluded. -/
def numbersFrom (a b : Nat) : List Nat := (List.range (b - a)).map (a + ·)

/-- The evaluations of an instance from a to b, b excluded, without the numbers under which none ran. -/
def Inst.ran (x : Inst) (a b : Nat) : List Nat :=
  (numbersFrom a b).filter fun n => !(x.skips.any fun r => r.1 ≤ n && n < r.2)

/-- Replays put into a tile's queue in order of instance's numbers, each once; one that must commit stays so. -/
def addReplays (old new : List Replay) : List Replay :=
  new.foldl (fun l r => if l.any fun y => y.inst = r.inst && y.n = r.n then l else l ++ [r]) old

/-- The replays of one instance in rising order, those of others kept in place behind them. -/
def sortReplays (i : Nat) (l : List Replay) : List Replay :=
  sortBy (fun a b => decide (a.n ≤ b.n)) (l.filter fun r => r.inst = i) ++ l.filter fun r => r.inst ≠ i

/-- The restore source of an instance when its journal cannot serve (R329, R334): the newer complete fix, the newest far
fix, or the initial data. Answers the source, the number of the last evaluation held, and the data. -/
def State.restoreSource (s : State) (t i : Nat) : Nat × Nat × List Host.Cell :=
  let fix := (s.tile t).fixes.filterMap fun f => if f.complete then f.insts.find? fun x => x.1 = i else none
  match fix, (s.inst i).far with
  | f :: _, _ => (2, f.2.1, f.2.2)
  | [], f :: _ => (3, f.last, f.data)
  | [], [] => (4, (s.inst i).next - 1, Memory.writeBytes [] 0 (s.inst i).init)

/-- ROLLBACK (R334): instance i goes back to the state before evaluation n; every evaluation from n on is discarded and
replayed in order. `viaJournal` false passes over the journal. -/
def State.rollback (s : State) (t i n : Nat) (viaJournal : Bool) (n0 : Option Nat := none) : State :=
  let x := s.tile t
  let gone := x.evals.filter fun e => e.inst = i && n ≤ e.n && !e.rebuild || e.inst = i && e.rebuild
  let ok := viaJournal && !(gone.any fun e => e.unjournalled)
  let again := (gone.filter fun e => n ≤ e.n && e.phase ≠ 4).map fun e => ({ inst := i, n := e.n, rebuild := e.rebuild } : Replay)
  let (src, last, data) : Nat × Nat × List Host.Cell :=
    if ok then (1, n - 1, gone.reverse.foldl (fun d e => undoLines d e.pre) (s.inst i).data) else s.restoreSource t i
  let redo := if src = 1 then (gone.filter fun e => e.rebuild && e.n < n).map fun e => ({ inst := i, n := e.n, rebuild := true } : Replay)
    else ((s.inst i).ran (last + 1) n).map fun m => ({ inst := i, n := m, rebuild := true } : Replay)
  let keep := x.evals.filter fun e => !(gone.any fun g => g.inst = e.inst && g.n = e.n)
  let cur := match x.cur with
    | some (j, m) => if gone.any fun g => g.inst = j && g.n = m then none else some (j, m)
    | none => none
  let s := s.setTile t { x with evals := keep, cur := cur,
                                replay := sortReplays i (addReplays x.replay (redo ++ again ++ (n0.map fun m => ({ inst := i, n := m, rebuild := false } : Replay)).toList)) }
  let s := s.setInst i { s.inst i with data := data }
  let s := s.count Reg.tor_TOR_ROLLBACK
  State.syncTile ((s.raise (quadSource t) 0x0105 (i / 512 * 2 ^ 24 + src * 2 ^ 16 + i % 512)).resume t) t

/-! ### Substitution (R295, R296) -/

/-- The qualities and records of age 0 of the raw and filtered inputs of evaluation n: substituted, and test. -/
def State.ageZeroMarks (s : State) (x : Inst) (n : Nat) : Bool × Bool :=
  let ta := s.trigTime x n
  x.inputs.foldl (fun (z : Bool × Bool) tb =>
    let c := tb.2 % 2 ^ 13
    match tb.1.kind, s.slotOwner c with
    | 1, some (k, ch) =>
      let smp := s.ringAt k (s.ageZero k ta)
      (z.1 || bit 19 smp.record, z.2 || bit 11 (smp.quals.getD ch 0))
    | 2, some _ => match s.filtered c ta with
      | o :: _ => (z.1 || bit 10 o.qual, z.2 || bit 11 o.qual)
      | [] => z
    | _, _ => z) (false, false)

/-- The reference instant of evaluation n, MONO (R373): the latest timestamp or declaration among the samples of its
input streams at or before its trigger time; older samples than the last 32 cannot be later. -/
def State.tRef (s : State) (x : Inst) (n : Nat) : Nat :=
  let ta := s.trigTime x n
  ((s.instStreams x).flatMap fun ks => (List.range 32).map fun j =>
    let a := s.ageZero ks.2 ta - j
    match s.sampleOf ks.2 a with
    | some y => y.ref
    | none => 0).foldl max 0

/-! ### Starting an evaluation (R293, R295, R296, R344) -/

/-- The far-fix interval of a frame number (R343). -/
def State.farInterval (s : State) : Nat := s.tai / unitsFrame / 64

/-- Latched signal inputs of an evaluation: from the live slots, or from the journal in a replay (R293, R344). -/
def State.latchSignals (s : State) (x : Inst) (n : Nat) (replay : Bool) : Tbl (Nat × Nat) :=
  (x.inputs.zip (List.range 64)).foldl (fun m tb =>
    if tb.1.1.kind ≠ 3 then m
    else
      let v : Nat × Nat := if replay then
          match x.journal.find? fun e => e.input = tb.2 && e.n ≤ n with
          | some e => (e.value, e.qual)
          | none => (0, 0)
        else s.readSignal (tb.1.2 % 2 ^ 18)
      Tbl.put (0, 0) m tb.2 v) []

/-- Entries of the signal journal for what has changed since the previous evaluation; 256 entries fill an interval's
4 KiB (R344). -/
def State.journalSignals (s : State) (i n : Nat) (sigs : Tbl (Nat × Nat)) : State :=
  let x := s.inst i
  (x.inputs.zip (List.range 64)).foldl (fun s tb =>
    if tb.1.1.kind ≠ 3 then s
    else
      let x := s.inst i
      let v := Tbl.look (0, 0) sigs tb.2
      if v = Tbl.look (0, 0) x.sigLast tb.2 then s
      else
        let x := { x with sigLast := Tbl.put (0, 0) x.sigLast tb.2 v }
        let used : Nat := (x.journal.filter fun (e : SigEntry) => s.trigTime x e.n / unitsFrame / 64 = s.farInterval).length
        if 256 ≤ used then
          let s := if x.journalOver.contains s.farInterval then s else s.count Reg.tor_TOR_SIGLOG_OVF
          s.setInst i { x with journalOver := (s.farInterval :: x.journalOver).eraseDups }
        else s.setInst i { x with journal := { n := n, input := tb.2, value := v.1, qual := v.2 } :: x.journal }) s

/-- Evaluation n of instance i starts on tile t (R293): a substituted or test evaluation that its policy blocks does not
run (R295, R296). -/
def State.startEval (s : State) (t i n : Nat) (replay rebuild : Bool) : State :=
  let x := s.inst i
  let sigs := s.latchSignals x n replay
  let s := if replay then s else s.journalSignals i n sigs
  let (subst, test) := s.ageZeroMarks x n
  let blocked := test && !x.test || subst && x.policy = 2
  let e : Eval := { inst := i, n := n, a := n * x.div, ctx := { pc := x.prog.entry }, sigs := sigs,
                    phase := if blocked then 3 else 0, subst := subst, test := test, rebuild := rebuild,
                    deep := s.deep t, gen := s.raw Reg.slc_GEN (i / 512) }
  let y := s.tile t
  let s := s.setTile t { y with evals := y.evals ++ [e], cur := if blocked then y.cur else some (i, n) }
  s.settle t

/-! ### Readiness (R327, R331, R348, R351, R367) -/

/-- The first evaluation that the exchange of instance i belongs to the new program (R351). -/
def State.exchangeAt (s : State) (i : Nat) : Option Nat :=
  (s.tor.exchanges.find? fun e => e.slice = i / 512 && e.waiting.contains i).map fun e =>
    cdiv e.at_ ((s.inst i).div * entPeriod (s.strm (s.inst i).trigger).entry)

/-- Instance i may start evaluation n as far as commands allow it (R348, R351, R363). -/
def State.mayStart (s : State) (i n : Nat) : Bool :=
  (match (s.inst i).stopAt with
    | some e => decide (n < e)
    | none => true) && (match s.exchangeAt i with
    | some e => decide (n < e)
    | none => true)

/-- Every sample that evaluation n reads at age 0 is stored (R367). -/
def State.inputsStored (s : State) (x : Inst) (n : Nat) : Bool :=
  let ta := s.trigTime x n
  (s.sampleOf x.trigger (n * x.div)).isSome && x.inputs.all fun tb =>
    match tb.1.kind, s.slotOwner (tb.2 % 2 ^ 13) with
    | 3, _ => true
    | _, none => true
    | 2, some (k, _) => s.ageZero k ta < (s.strm k).front
    | _, some (k, _) => (s.sampleOf k (s.ageZero k ta)).isSome

/-- The evaluation that instance i would start next can start now: none when it cannot; some true when only unsettled
inputs hold it back, or RA does (deferred), some false when it starts. -/
def State.readiness (s : State) (t i : Nat) : Option Bool :=
  let x := s.inst i
  let y := s.tile t
  let n := x.next
  if !s.mayStart i n || y.reloading.contains x.prog.typeId || !s.inputsStored x n
      || (y.evals.any fun e => e.inst = i && e.phase = 0) || y.replay.any fun r => r.inst = i then none
  else
    let live := y.evals.filter fun e => !e.rebuild
    if (if s.deep t then 16 else 384) ≤ live.length then none
    else if !s.speculative t i n then some false
    else if !s.deep t then some true
    else
      let spec := (live.filter fun e => e.inst = i && !e.final && s.speculative t e.inst e.n).length
      some (decide (x.ra ≤ spec))

/-- Cycles, in units of 1/9 ns, that an evaluation may take: C of R367. -/
def State.evalTime (s : State) (t : Nat) (x : Inst) : Nat :=
  cdiv ((x.prog.stepMax + 120) * 9000) (s.raw Reg.quad_QCLK_MHZ (t / 4))

/-- Slot index of the hyperperiod at this moment (R145, R366). -/
def State.slotNow (s : State) : Nat :=
  70 * (s.tai / unitsFrame % 12) + min 69 (s.tai % unitsFrame / 9000)

/-- Time from the start of a slot to the start of another, cyclically over the hyperperiod, in units of 1/9 ns. -/
def slotGap (a b : Nat) : Nat :=
  let at_ := fun (i : Nat) => i / 70 * unitsFrame + i % 70 * 9000
  (at_ b + unitsHyper - at_ a - 1) % unitsHyper + 1

/-- An evaluation of instance i fits before the next block start of another instance of the tile (R368). -/
def State.fitsGap (s : State) (t i : Nat) : Bool :=
  let now := s.slotNow
  let c := s.evalTime t (s.inst i)
  (s.instsOn (s.raw Reg.tile_LTILE t)).all fun e => e.1 = i || e.2.blocks.all fun b => c < slotGap now b

/-- The instances of a tile whose next evaluation is ready, in commit order of those evaluations (R326, R368). -/
def State.readyInsts (s : State) (t : Nat) : List Nat :=
  (sortBy (fun a b => decide (s.trigTime a.2 a.2.next < s.trigTime b.2 b.2.next)
      || decide (s.trigTime a.2 a.2.next = s.trigTime b.2 b.2.next) && decide (a.1 ≤ b.1))
    ((s.instsOn (s.raw Reg.tile_LTILE t)).filter fun e => s.readiness t e.1 = some false)).map (·.1)

/-- The next evaluation of instance i starts. -/
def State.startNext (s : State) (t i : Nat) : State :=
  let x := s.inst i
  State.startEval (s.setInst i { x with next := x.next + 1 }) t i x.next false false

/-- An instance whose block finds its evaluation held back counts the deferral once (R327, R331). -/
def State.countDefer (s : State) (t i : Nat) : State :=
  let x := s.inst i
  if s.readiness t i ≠ some true || x.deferred = some x.next then s
  else
    let s := s.setInst i { x with deferred := some x.next }
    if s.deep t && 0 < x.ra then s.count Reg.tor_TOR_RA_WAIT else s.count Reg.tor_TOR_DEFER

/-! ### Faults and the end of an evaluation (R302, R309, R310) -/

/-- The evaluation that executes on a tile. -/
def State.curEval (s : State) (t : Nat) : Option Eval :=
  match (s.tile t).cur with
  | some (i, n) => ((s.tile t).eval? i n).bind fun e => if e.phase = 0 then some e else none
  | none => none

/-- A program fault (R309, R310): the data goes back to what it was before, and nothing staged is committed. -/
def State.evalFault (s : State) (t cause : Nat) : State :=
  match s.curEval t with
  | none => s
  | some e =>
    let s := (s.count Reg.tile_TOR_FAULTS t).raise (quadSource t) 0x0100 (e.inst / 512 * 2 ^ 24 + cause * 2 ^ 16 + e.inst % 512)
    let done : Eval := { e with phase := 2, cause := cause, outs := [], pre := [], lines := [] }
    let x := s.inst e.inst
    if e.unjournalled then
      -- sources 2 and 3 of R334: the evaluations before this one are replayed for their data (R329)
      let (src, last, data) := s.restoreSource t e.inst
      let y := s.tile t
      let redo := (x.ran (last + 1) e.n).map fun m => ({ inst := e.inst, n := m, rebuild := true } : Replay)
      let s := s.setInst e.inst { x with data := data }
      let s := State.freeTile ((s.setTile t { y with replay := sortReplays e.inst (addReplays y.replay redo) }).putEval t done) t
      (s.raise (quadSource t) 0x0105 (e.inst / 512 * 2 ^ 24 + src * 2 ^ 16 + e.inst % 512)).settle t
    else
      let s := s.setInst e.inst { x with data := undoLines x.data e.pre }
      ((s.putEval t done).freeTile t).settle t

/-- END of an evaluation (R302, R307): its staged outputs pass to the commit gate. -/
def State.evalEnd (s : State) (t : Nat) (e : Eval) : State :=
  let s := s.count Reg.tile_TOR_EVALS t
  let s := if bit 0 e.ctx.flags then s.count Reg.tile_TOR_FP_INVALID t else s
  ((s.putEval t { e with phase := 1 }).freeTile t).settle t

/-! ### The commit gate (R326, R337–R340) -/

/-- Trigger time and instance of the earliest evaluation that an instance has not committed, started or not (R326). -/
def State.headOf (s : State) (t i : Nat) : Option (Nat × Nat) :=
  let x := s.inst i
  let y := s.tile t
  let ns := ((y.evals.filter fun e => e.inst = i && !e.rebuild).map (·.n))
    ++ ((y.replay.filter fun r => r.inst = i && !r.rebuild).map (·.n)) ++ (if s.mayStart i x.next then [x.next] else [])
  match ns with
  | [] => none
  | n :: more => some (s.trigTime x (more.foldl min n), more.foldl min n)

/-- The evaluation whose turn it is on a tile: instance and number (R326). -/
def State.commitHead (s : State) (t : Nat) : Option (Nat × Nat) :=
  let hs := (s.instsOn (s.raw Reg.tile_LTILE t)).filterMap fun e => (s.headOf t e.1).map fun h => (h.1, e.1, h.2)
  match hs with
  | [] => none
  | h :: more =>
    let b := more.foldl (fun (b : Nat × Nat × Nat) c => if c.1 < b.1 || c.1 = b.1 && c.2.1 < b.2.1 then c else b) h
    some (b.2.1, b.2.2)

/-- Quality bits of R255 used by the gate. -/
def qInvalid (q : Nat) : Nat := q / 4 * 4 + 1
def qSubst : Nat := 2 ^ 10
def qOld : Nat := 2 ^ 7
def qFailure : Nat := 2 ^ 6
def qTest : Nat := 2 ^ 11

/-- What is committed of an evaluation's signal and GOOSE outputs (R295, R296, R310, R339). The last committed value of
an output is the value it was last given, and its template's value before that. -/
def State.outsOf (s : State) (x : Inst) (e : Eval) : List (Nat × OutVal) :=
  ((x.prog.outs.zip x.outB).zip (List.range 32)).filterMap fun tbn =>
    let (tpl, b) := tbn.1
    let no := tbn.2
    if tpl.kind = 3 then none
    else
      let staged := (e.outs.find? fun o => o.1 = no).map fun o => o.2
      let last : Option Nat := match x.lastOut.find? fun o => o.1 = no with
        | some o => some o.2
        | none => if tpl.kind = 1 then some (s.signal (b % 2 ^ 18)).value else none
      let mk := fun (v q : Nat) => some (no, ({ kind := tpl.kind, vtype := tpl.vtype, bind := b, value := v, qual := q } : OutVal))
      if e.phase = 1 then
        match staged with
        | none => none
        | some (v, q) =>
          let q := if x.test && e.test then q ||| qTest else q
          if e.subst && x.policy = 1 && tpl.trip then mk tpl.safe (q ||| qSubst) else mk v q
      else if e.phase = 2 then
        if tpl.trip then mk tpl.safe (1 + qFailure) else last.bind fun v => mk v (1 + qFailure)
      else if tpl.trip then mk tpl.safe (1 + qSubst) else last.bind fun v => mk v (1 + qSubst + qOld)

/-- Completion outputs of an evaluation, in output number order: bobbin, tag if staged, status and info (R295, R307,
R310, R340, R406). -/
def Inst.completionsOf (x : Inst) (e : Eval) : List (Nat × Option Nat × Nat × Nat) :=
  ((x.prog.outs.zip x.outB).zip (List.range 32)).filterMap fun tbn =>
    if tbn.1.1.kind ≠ 3 then none
    else
      let staged := (e.outs.find? fun o => o.1 = tbn.2).map fun o => o.2.1
      let b := tbn.1.2 % 32
      if e.phase = 1 then staged.map fun v => (b, some v, 0, 0)
      else if e.phase = 2 then some (b, none, 8, e.cause)
      else if e.phase = 4 then some (b, none, 9, 0)
      else some (b, none, 7, 0)

/-- A completion output is written: one that bears an old generation is discarded and counted (R37, R391). A tag that
was not staged is a free value. -/
def State.commitCompl (s : State) (i : Nat) (e : Eval) (c : Nat × Option Nat × Nat × Nat) : State :=
  let sl := i / 512
  if e.gen ≠ s.raw Reg.slc_GEN sl then s.count Reg.slcg_SLC_STALE_DROP
  else
    let (tag, s) : Nat × State := match c.2.1 with
      | some v => (v, s)
      | none => s.free (2 ^ 32)
    s.commitCompletion sl c.1 (s.cqEntry sl tag (e.n % 2 ^ 32) c.2.2.1 c.2.2.2 (i % 512) 0)

/-- The mirror record of a committed evaluation (R231): CRC-32C over the committed values in declaration order. -/
def State.mirrorRec (s : State) (i : Nat) (e : Eval) : MirrorRec :=
  let x := s.inst i
  let bytes := (x.prog.outs.zip (List.range 32)).flatMap fun tn => beBytes (vtSize tn.1.vtype) (Tbl.look 0 x.lastOut tn.2)
  { slice := i / 512, inst := i % 512, eval := e.n % 2 ^ 32, flags := b2n e.reckoned + 2 * b2n (e.phase = 4),
    crc := crc32c bytes, t := s.mono }

/-- Handle h waits for the last commit of some instance. -/
def State.stopWaits (s : State) (h : Nat) : Bool := s.tor.insts.any fun e => e.2.stops.any fun p => p.1 = h

/-- What the handles of instance i wait for is over; one that waits for further instances goes on (R348, R363). -/
def State.endStops (s : State) (i : Nat) : State :=
  let x := s.inst i
  x.stops.foldl (fun s p =>
    if s.stopWaits p.1 then s else s.complete p.1 stOK (p.2.getD ((x.lastCommit.getD 0) % 2 ^ 32)))
    (s.setInst i { x with stops := [] })

/-- Handles that wait for the last commit of instance i complete when it starts no further evaluation and none is in
flight (R348, R363). A lost instance commits nothing more. -/
def State.checkStop (s : State) (i : Nat) : State :=
  let x := s.inst i
  if x.stops.isEmpty then s
  else match s.instTile i with
    | none => s.endStops i
    | some t =>
      let y := s.tile t
      let early := match x.stopAt with
        | some e => decide (x.next < e)
        | none => false
      if early || (y.evals.any fun e => e.inst = i) || y.replay.any fun r => r.inst = i then s else s.endStops i

/-- A TILE_MODE handle completes when the last evaluation of the old mode has committed (R347). -/
def State.checkMode (s : State) (t : Nat) : State :=
  let x := s.tile t
  match x.modeDone with
  | some (h, r) =>
    if x.evals.any fun e => e.deep ≠ s.deep t then s
    else State.complete (s.setTile t { x with modeDone := none }) h stOK r
  | none => s

/-- The commit of evaluation `e` of instance i on tile t (R338, R339, R385). -/
def State.commitEval (s : State) (t i : Nat) (e : Eval) : State :=
  let x := s.inst i
  let outs := s.outsOf x e
  let limit := s.tRef x e.n + x.bPub * unitsNs
  let counted := e.phase ≠ 4
  let compls := x.completionsOf e
  let (s, keys) := s.commitOuts (outs.map (·.2))
  let now := outs.filter fun o => o.2.kind = 1
  let late := if limit < s.mono && counted then now.length + compls.length else 0
  let s := (List.range late).foldl (fun s _ => (s.count Reg.adm_ADM_BOUND_MISS).raise (quadSource t) 0x010A (instInfo i)) s
  let s := if counted then
      { s with tor := { s.tor with outWait := s.tor.outWait ++ keys.map fun k => (k, i, limit, t / 4) } } else s
  let s := compls.foldl (fun s c => s.commitCompl i e c) s
  let staged := outs.map (fun o => (o.1, o.2.value)) ++ ((x.prog.outs.zip (List.range 32)).filterMap fun tn =>
    if tn.1.kind = 3 then (e.outs.find? fun o => o.1 = tn.2).map fun o => (tn.2, o.2.1) else none)
  let s := s.setInst i { s.inst i with
    lastCommit := some e.n,
    lastOut := staged.foldl (fun m v => Tbl.ins v.2 m v.1) (s.inst i).lastOut }
  let m := s.mirrorRec i e
  let s := { s with red := { s.red with committed := s.red.committed ++ [m], own := s.red.own ++ [m] } }
  let y := s.tile t
  let s := s.setTile t { y with evals := y.evals.filter fun z => !(z.inst = i && z.n = e.n) }
  ((s.syncTile t).checkStop i).checkMode t

/-- The evaluation whose turn it is commits if it is final (R337). -/
def State.commitNext (s : State) (t : Nat) : State :=
  match s.commitHead t with
  | none => s
  | some (i, n) => match (s.tile t).eval? i n with
    | none => s
    | some e => if e.final && !e.rebuild then s.commitEval t i e else s

end Sys2Proof.Machine
end

