-- ==== Sys2Proof/Machine/TileCmd.lean ====
section
/-!
DEFINITION. The commands of the Torchon tiles beside their instruction set: starts, verdicts, replays, commits, lost
evaluations, fixes, tile failures, spares, and the stop and restart of instances (chapters 10, 11 and 20).
-/

namespace Sys2Proof.Machine

/-! ### Tile states (R288, R316, R317) -/

/-- STATE of a tile, with its code (R321). -/
def State.tileState (s : State) (t new : Nat) : State :=
  let old := s.raw Reg.tile_STATE t
  if old = new then s
  else
    let s := if new = 4 then s.wr Reg.pwr_DOM_FENCED 0 (setBit 11 (s.raw Reg.pwr_DOM_FENCED)) else s
    (s.wr Reg.tile_STATE t new).raise (quadSource t) 0x0101 (t + new * 2 ^ 8 + old * 2 ^ 12)

/-- TILES_ALLOC, TILES_SPARE and TILES_FENCED count the tiles of their state (R318). -/
def State.syncTiles (s : State) : State :=
  let n := fun (st : Nat) => ((List.range 64).filter fun t => s.raw Reg.tile_STATE t = st).length
  ((s.wr Reg.tor_TILES_ALLOC 0 (n 1)).wr Reg.tor_TILES_SPARE 0 (n 2)).wr Reg.tor_TILES_FENCED 0 (n 4)

/-- The order in which tiles are spares (R316). -/
def spareOrder : List Nat := [63, 47, 31, 15, 59, 43, 27, 11]

/-- Tiles held as spares, one under test among them (R316, R322). -/
def State.spares (s : State) : List Nat :=
  let mine := (spareOrder.filter fun t => s.raw Reg.tile_STATE t ≠ 4 && s.raw Reg.tile_STATE t ≠ 1).take (s.rd Reg.tor_SPARE_N)
  spareOrder.filter fun t => s.raw Reg.tile_STATE t = 2 || s.raw Reg.tile_STATE t = 3 && mine.contains t

/-- Registers of a tile that no longer is allocated (R320, R357). -/
def State.clearTileRegs (s : State) (t : Nat) : State :=
  let s := ((((s.wr Reg.tile_LTILE t 0x3F).wr Reg.tile_MODE t 0).wr Reg.tile_INST_COUNT t 0).wr Reg.tile_DATA_KIB t 0).wr Reg.tile_PROG_KIB t 0
  ((((s.wr Reg.tspec_INFLIGHT t 0).wr Reg.tspec_SPEC t 0).wr Reg.tspec_JNL_USED t 0).wr Reg.tspec_JNL_RESV t 0).wr Reg.tspec_FIX_OVF t 0

/-- A recovery of instance i begins (R574). -/
def State.beginRecovery (s : State) (r : Recovery) : State :=
  if s.tor.recoveries.any fun x => x.inst = r.inst then s
  else { s with tor := { s.tor with recoveries := s.tor.recoveries ++ [r] } }

/-- The first SPARE_N tiles of the order, passing over fenced ones (R316). -/
def State.chosenSpares (s : State) (n : Nat) : List Nat := (spareOrder.filter fun t => s.raw Reg.tile_STATE t ≠ 4).take n

/-- A tile that a waiting plan opens (R387). -/
def State.openedSoon (s : State) (t : Nat) : Bool := s.tor.plans.any fun p => !p.req.check && p.opened.any fun o => o.1 = t

/-- A failed spare is replaced: chosen tiles that are vacant become SPARE (R316, R534, R578). -/
def State.respare (s : State) : State :=
  State.syncTiles ((s.chosenSpares (s.rd Reg.tor_SPARE_N)).foldl (fun (s : State) t =>
    if s.raw Reg.tile_STATE t = 0 && !s.openedSoon t then s.tileState t 2 else s) s)

/-- An allocated tile has failed: it is FENCED and its held outputs are discarded; what a spare has to run again stays with
it (R571, R572). -/
def State.fenceTile (s : State) (t : Nat) : State :=
  let x := s.tile t
  let again := ((x.evals.filter fun e => !e.rebuild && e.phase ≠ 4).map fun e => ({ inst := e.inst, n := e.n, rebuild := false } : Replay))
    ++ x.replay.filter fun r => !r.rebuild
  State.syncTiles ((s.setTile t { evals := x.evals.filter fun e => e.phase = 4, replay := again, verdicts := x.verdicts,
                                  loading := true, modeNext := x.modeNext, modeDone := x.modeDone }).tileState t 4)

/-- The first spare that qualifies takes the LTILE of a fenced tile; with none its instances are lost (R317, R572, R574). -/
def State.bindSpare (s : State) (t : Nat) : State :=
  let l := s.raw Reg.tile_LTILE t
  let x := s.tile t
  let mode := s.raw Reg.tile_MODE t
  let insts := s.instsOn l
  let mhz := s.raw Reg.quad_QCLK_MHZ (t / 4)
  let counts := (s.raw Reg.tile_INST_COUNT t, s.raw Reg.tile_DATA_KIB t, s.raw Reg.tile_PROG_KIB t, s.raw Reg.tspec_JNL_RESV t)
  let s := (s.setTile t {}).clearTileRegs t
  match s.spares.find? fun sp => mhz ≤ s.raw Reg.quad_QCLK_MHZ (sp / 4) with
  | none =>
    let s := { s with tor := { s.tor with phys := Tbl.put 0 s.tor.phys l 0 } }
    let s := ((s.count Reg.tor_TOR_SPARE_NONE).raise (quadSource t) 0x0103 t).syncTiles
    let s := insts.foldl (fun s i => (s.recoveryRecord 4 2 l t i.1 0xFFFF i.2.next i.2.next 0 s.tai).checkStop i.1) s
    let s := match x.modeNext with
      | some (_, _, h) => State.complete { s with tor := { s.tor with
          plans := s.tor.plans.filter fun p => !(p.req.kind = 16 && p.req.handle = h) } } h stABORTED
      | none => s
    match x.modeDone with
    | some (h, r) => s.complete h stOK r
    | none => s
  | some sp =>
    let s := { s with tor := { s.tor with phys := Tbl.put 0 s.tor.phys l (sp + 1) } }
    let s := (s.setTile sp x).tileState sp 1
    let s := ((((s.wr Reg.tile_LTILE sp l).wr Reg.tile_MODE sp mode).wr Reg.tile_INST_COUNT sp counts.1).wr
      Reg.tile_DATA_KIB sp counts.2.1).wr Reg.tile_PROG_KIB sp counts.2.2.1
    let s := s.wr Reg.tspec_JNL_RESV sp counts.2.2.2
    let s := ((s.count Reg.tor_TOR_SPARE_USED).raise (quadSource sp) 0x0102 (t + sp * 2 ^ 8 + l * 2 ^ 16)).syncTiles
    let s := insts.foldl (fun s i => s.beginRecovery { inst := i.1, kind := 4, restore := 3, tile := t, at_ := s.tai }) s
    s.syncTile sp

/-- A tile has failed (R317, R571, R572). While the control processor is in reset no spare is bound (R529). -/
def State.failTile (s : State) (t : Nat) : State :=
  let st := s.raw Reg.tile_STATE t
  if st = 4 then s
  else if st ≠ 1 then (((s.setTile t {}).tileState t 4).clearTileRegs t).respare
  else
    let s := s.fenceTile t
    if s.pwr.down.isSome then { s with pwr := { s.pwr with lateTiles := s.pwr.lateTiles ++ [t] } } else s.bindSpare t

/-- TILE_FAILURE (R571, R572): tiles found failed at one time, the lower-numbered first (R322). -/
def execTileFailure (ts : List Nat) (s : State) : Host.Outcome State Fault Refusal :=
  .next ((sortBy (fun a b => decide (a ≤ b)) ts).foldl (fun s t => s.failTile t) s)

/-- SPARE_LOAD_DONE (R572): programs and far fixes are in the spare; every instance is replayed from its far fix, the
evaluations already committed for their data alone. -/
def execSpareLoadDone (t : Nat) (s : State) : Host.Outcome State Fault Refusal :=
  .next (if !(s.tile t).loading then s
    else
      let s := (s.instsOn (s.raw Reg.tile_LTILE t)).foldl (fun s e =>
        let i := e.1
        let x := s.inst i
        let (src, last, data) : Nat × Nat × List Host.Cell := match x.far with
          | f :: _ => (3, f.last, f.data)
          | [] => (4, x.next - 1, Memory.writeBytes [] 0 x.init)
        let y := s.tile t
        let first := (y.replay.filter fun r => r.inst = i).foldl (fun m r => min m r.n) x.next
        let redo := (x.ran (last + 1) first).map fun m => ({ inst := i, n := m, rebuild := true } : Replay)
        let s := s.setInst i { x with data := data }
        let s := s.setTile t { y with replay := sortReplays i (addReplays y.replay redo) }
        let s := { s with tor := { s.tor with recoveries := s.tor.recoveries.map fun (r : Recovery) =>
          if r.inst = i then { r with restore := src, outside := decide (src = 4) } else r } }
        s.raise (quadSource t) 0x0105 (i / 512 * 2 ^ 24 + src * 2 ^ 16 + i % 512)) s
      State.settle (s.setTile t { s.tile t with loading := false }) t)

/-! ### Errors in tile memory (R290, R569, R571) -/

/-- A corrected error of a tile memory (R290). -/
def State.tileCorrected (s : State) (t mem word : Nat) : State :=
  (s.count Reg.tile_TOR_ECC_CORR t).raise (quadSource t) 0x0002 ((4 * t + mem) * 2 ^ 24 + word % 2 ^ 24)

/-- An uncorrectable error of a tile memory at a word: counted; at a word struck before it is the tile's failure; else
the recovery of R569 for its memory: the evaluation that read it commits nothing and is replayed (R290). `i` is the
instance whose data was struck, or the TYPE_ID of the program. -/
def State.tileUncorrected (s : State) (t mem word : Nat) (i : Option Nat) : State :=
  let s := (s.count Reg.tile_TOR_ECC_UNCORR t).raise (quadSource t) 0x0003 ((4 * t + mem) * 2 ^ 24 + word % 2 ^ 24)
  let x := s.tile t
  let key := mem * 2 ^ 24 + word % 2 ^ 24
  if x.struck.contains key then
    State.failTile (s.hardFault { block := 6, unit := t, mem := mem, kind := 2, addr := word }).2 t
  else
    let s := s.setTile t { x with struck := key :: x.struck }
    if s.raw Reg.tile_STATE t ≠ 1 then s
    else match mem, i with
      | 0, some ty =>
        let y := s.tile t
        s.setTile t { y with reloading := (ty :: y.reloading).eraseDups }
      | 2, _ =>
        let y := s.tile t
        s.setTile t { y with fixes := y.fixes.drop 1 }
      | 1, some i | 3, some i =>
        let run := (s.curEval t).bind fun e => if e.inst = i then some e else none
        let via := decide (mem = 1) && (match run with
          | some e => !e.unjournalled
          | none => false)
        let n := match run with
          | some e => e.n
          | none => (s.inst i).next
        let src := if via then 1 else (s.restoreSource t i).1
        let s := s.beginRecovery { inst := i, kind := 1, restore := src, tile := t, at_ := s.tai }
        State.settle (s.rollback t i n via) t
      | _, _ => s

/-- PROGRAM_RELOAD_COMPLETE (R569): the program of a type is back, and its evaluations become ready again. -/
def execProgramReloadComplete (t ty : Nat) (s : State) : Host.Outcome State Fault Refusal :=
  let x := s.tile t
  .next (s.setTile t { x with reloading := x.reloading.filter (· ≠ ty) })

/-! ### Lost evaluations (R340, R572–R574) -/

/-- Evaluation n of instance i is lost: what it and later ones have done is undone, later ones are replayed, and its
place in the commit order is kept for its BLOCK_ALL outputs (R339, R340). -/
def State.loseEval (s : State) (t i n : Nat) : State :=
  let x := s.tile t
  let s := if x.evals.any fun e => e.inst = i && n ≤ e.n && e.phase ≠ 3 && e.phase ≠ 4 then s.rollback t i n true else s
  let x := s.tile t
  let e : Eval := { inst := i, n := n, a := n * (s.inst i).div, phase := 4, final := true, deep := s.deep t,
                    gen := s.raw Reg.slc_GEN (i / 512) }
  let s := s.setTile t { x with
    evals := (x.evals.filter fun z => !(z.inst = i && z.n = n)) ++ [e],
    replay := x.replay.filter fun r => !(r.inst = i && r.n = n) }
  let y := s.inst i
  let s := s.setInst i { y with next := max y.next (n + 1), skips := (n, n + 1) :: y.skips }
  let s := s.count Reg.tor_TOR_LOST_EVALS
  let s := s.beginRecovery { inst := i, kind := 5, restore := 0, tile := t, at_ := s.tai }
  let s := { s with tor := { s.tor with recoveries := s.tor.recoveries.map fun (r : Recovery) =>
    if r.inst = i then { r with lost := some (match r.lost with
      | some (f, l) => (min f n, max l n)
      | none => (n, n)) } else r } }
  s.settle t

/-- EVAL_LOST (R340, R572): the earliest uncommitted evaluation of instance i, whose inputs are settled, is not final at
t_ref + B_pub. -/
def execEvalLost (i : Nat) (s : State) : Host.Outcome State Fault Refusal :=
  .next (match s.instTile i with
    | none => s
    | some t => match s.headOf t i with
      | none => s
      | some (_, n) =>
        let x := s.inst i
        let final := match (s.tile t).eval? i n with
          | some e => e.final
          | none => false
        if final || !s.inputsStored x n || s.inputsUnsettled t x n then s
        else
          let s := s.advance (s.tRef x n + x.bPub * unitsNs)
          let s := s.loseEval t i n
          if s.commitHead t = some (i, n) then s.commitNext t else s)

/-! ### Starts, replays, commits (R334, R337, R367, R368) -/

/-- The evaluation number and interval of a replay lies where the signal journal has overflowed (R344). -/
def State.acrossOverflow (s : State) (x : Inst) (n : Nat) : Bool :=
  x.journalOver.contains (s.trigTime x n / unitsFrame / 64)

/-- Evaluation n reads a sample that an error has struck, among the ages its templates allow (R573). -/
def State.readsStruck (s : State) (x : Inst) (n : Nat) : Bool :=
  let ta := s.trigTime x n
  x.inputs.any fun tb =>
    match tb.1.kind, s.slotOwner (tb.2 % 2 ^ 13) with
    | 1, some (k, _) => s.sv.struck.any fun y => y.1 = k && y.2 ≤ s.ageZero k ta && s.ageZero k ta < y.2 + max 1 tb.1.hist
    | 2, some (k, _) => s.sv.struck.any fun y => y.1 = k && (s.filtered (tb.2 % 2 ^ 13) ta).any fun o => o.a = y.2
    | 4, some (k, _) => s.sv.struck.any fun y => y.1 = k && y.2 ≤ s.ageZero k ta && s.ageZero k ta ≤ y.2 + tb.1.maxAge
    | _, _ => false

/-- The tile replays the next discarded evaluation (R334); one that cannot be exact is lost (R344, R573). -/
def State.replayNext (s : State) (t : Nat) : State :=
  let x := s.tile t
  match x.replay with
  | [] => s
  | r :: rest =>
    if x.loading || x.cur.isSome || x.evals.any fun e => e.inst = r.inst && e.phase = 0 then s
    else
      let i := s.inst r.inst
      if !r.rebuild && (s.acrossOverflow i r.n || s.readsStruck i r.n) then s.loseEval t r.inst r.n
      else
        let s := s.setTile t { x with replay := rest }
        (s.count Reg.tor_TOR_REPLAY_EVALS).startEval t r.inst r.n true r.rebuild

/-- REPLAY (R334, R368): rollback or free slot time of tile t serves its next replay. -/
def execReplay (t : Nat) (s : State) : Host.Outcome State Fault Refusal := .next (s.replayNext t)

/-- Slot time that no block uses serves the tile's replays, then its ready evaluations in commit order, where the
evaluation ends before the next block of another instance (R368). -/
def State.lend (s : State) (t : Nat) : State :=
  match (s.tile t).replay with
  | r :: _ => if s.fitsGap t r.inst then s.replayNext t else s
  | [] => match (s.readyInsts t).find? fun i => s.fitsGap t i with
    | some i => s.startNext t i
    | none => s

/-- EVAL_START (R366–R368): at instant `now` a slot of tile t's pricking begins. -/
def execEvalStart (t now : Nat) (s : State) : Host.Outcome State Fault Refusal :=
  .next (
    let s := s.advance now
    let x := s.tile t
    if s.raw Reg.tile_STATE t ≠ 1 || x.loading || x.cur.isSome || s.tai % unitsFrame / 9000 ≥ 69 then s
    else match (s.instsOn (s.raw Reg.tile_LTILE t)).find? fun e => e.2.blocks.contains s.slotNow with
      | none => s.lend t
      | some (i, _) =>
        if s.readiness t i = some false then s.startNext t i
        else State.lend (s.countDefer t i) t)

/-- COMMIT_EVALUATION (R337): the evaluation of tile t whose turn it is commits. -/
def execCommitEvaluation (t : Nat) (s : State) : Host.Outcome State Fault Refusal := .next (s.commitNext t)

/-! ### Verdicts (R333) -/

/-- Evaluation n of an instance depends on sample a of stream k (R324, R333). -/
def State.dependsOn (s : State) (x : Inst) (n k a : Nat) : Bool :=
  let ta := s.trigTime x n
  let before := decide (a * entPeriod (s.strm k).entry ≤ ta)
  (x.trigger = k && before) || x.inputs.any fun tb =>
    match tb.1.kind, s.slotOwner (tb.2 % 2 ^ 13) with
    | 3, _ => false
    | _, none => false
    | 2, some (j, _) =>
      let c := tb.2 % 2 ^ 13
      let (s1, s2) := s.chain c
      j = k && ((s.filtered c ta).take tb.1.hist).any fun o => a ≤ o.a && o.a ≤ a + 2 * chainD s1 s2
    | _, some (j, _) => j = k && before

/-- What a tile does with one verdict for one of its instances. -/
def State.verdictFor (s : State) (t i : Nat) (v : SampleVerdict) : State :=
  let x := s.inst i
  let hit := (s.tile t).evals.filter fun e => e.inst = i && !e.final && !e.rebuild && e.phase ≠ 4 && s.dependsOn x e.n v.stream v.a
  let least := fun (es : List Eval) => es.foldl (fun (m : Option Nat) e => match m with
    | some n => some (min n e.n)
    | none => some e.n) none
  match v.kind with
  | 1 => s
  | 2 => match least hit with
    | some n => s.rollback t i n true
    | none => s
  | _ =>
    let sub := hit.filter fun e => (s.ageZeroMarks x e.n).1
    if x.policy = 2 then
      match least sub with
      | some n => s.rollback t i n true
      | none => s
    else if x.policy = 1 then sub.foldl (fun s e => s.putEval t { e with subst := true }) s
    else s

/-- VERDICT_RECEIVE (R333): the oldest verdict waiting at tile t. -/
def execVerdictReceive (t : Nat) (s : State) : Host.Outcome State Fault Refusal :=
  .next (match (s.tile t).verdicts with
    | [] => s
    | v :: rest =>
      let s := s.setTile t { s.tile t with verdicts := rest }
      State.settle ((s.instsOn (s.raw Reg.tile_LTILE t)).foldl (fun s e =>
        if (s.instStreams e.2).any fun ks => ks.2 = v.stream then s.verdictFor t e.1 v else s) s) t)

/-! ### Fixes and far fixes (R342, R343) -/

/-- Frame number s × 14,400 + j of the present moment (R144). -/
def State.frameNow (s : State) : Nat := s.tai / unitsFrame

/-- The fix of tile t at a frame boundary; the second in a row that does not complete is a failure (R342, R571). -/
def State.takeFix (s : State) (t : Nat) : State :=
  let x := s.tile t
  if 232 < x.changed.length then
    let s := ((s.count Reg.tor_TOR_FIX_OVF).wr Reg.tspec_FIX_OVF t 1).raise (quadSource t) 0x0106 t
    let s := s.setTile t { x with changed := [], missed := x.missed + 1 }
    if 1 ≤ x.missed then s.failTile t else s
  else
    let fix : TileFix := {
      frame := s.frameNow, complete := true,
      insts := (s.instsOn (s.raw Reg.tile_LTILE t)).map fun e =>
        let (d, n) := s.committedData t e.1
        (e.1, n, d) }
    let s := (s.wr Reg.tspec_FIX_OVF t 0).wr Reg.tspec_FIX_FRAME t s.frameNow
    s.setTile t { x with changed := [], missed := 0, fixes := (fix :: x.fixes).take 2 }

/-- The instance is disabled: the number at which it stops is reached (R348). -/
def Inst.disabled (x : Inst) : Bool :=
  match x.stopAt with
  | some e => decide (e ≤ x.next)
  | none => false

/-- The far fix of an instance begins at a boundary with j mod 64 = 0 (R343). -/
def State.startFarFix (s : State) (t i : Nat) : State :=
  let x := s.inst i
  let (d, n) := s.committedData t i
  s.setInst i { x with farNew := some { last := n, frame := s.frameNow, disabled := x.disabled, data := d } }

/-- Fixes of every allocated tile at a frame boundary, and far fixes at every 64th (R342, R343). -/
def State.takeFixes (s : State) : State :=
  (List.range 64).foldl (fun s t =>
    if s.raw Reg.tile_STATE t ≠ 1 || (s.tile t).loading then s
    else
      let s := s.takeFix t
      if s.raw Reg.tile_STATE t = 1 && s.frameNow % 14400 % 64 = 0 then
        (s.instsOn (s.raw Reg.tile_LTILE t)).foldl (fun s e => s.startFarFix t e.1) s
      else s) s

/-- The signal journal reaches back to the older far fix: of each input the last entry before it stays (R344). -/
def pruneJournal (from_ : Nat) (j : List SigEntry) : List SigEntry :=
  let old := j.filter fun e => e.n ≤ from_
  (j.filter fun e => from_ < e.n) ++ old.filter fun e => (old.find? fun o => o.input = e.input) = some e

/-- FAR_FIX_COMPLETE (R343): the far fix of instance i is in DRAM and takes the older slot. -/
def execFarFixComplete (i : Nat) (s : State) : Host.Outcome State Fault Refusal :=
  .next (match (s.inst i).farNew with
    | none => s
    | some f =>
      let x := s.inst i
      let far := (f :: x.far).take 2
      let oldest := far.foldl (fun m g => min m g.last) f.last
      let oldFrame := far.foldl (fun m g => min m g.frame) f.frame
      let s := s.setInst i { x with far := far, farNew := none, journal := pruneJournal oldest x.journal,
                                    journalOver := x.journalOver.filter fun k => oldFrame / 64 ≤ k }
      match s.instTile i with
      | none => s
      | some t =>
        if (s.instsOn x.ltile).all fun e => e.2.far.any fun g => g.frame = f.frame then
          s.wr Reg.tspec_FARFIX_FRAME t f.frame
        else s)

/-- FAR_FIX_LATE (R343): 32 frames after its boundary the far fix of instance i is not complete. -/
def execFarFixLate (i : Nat) (s : State) : Host.Outcome State Fault Refusal :=
  .next (match (s.inst i).farNew with
    | none => s
    | some f =>
      let s := s.advance (s.monoOf ((f.frame + 32) * unitsFrame))
      State.count (s.setInst i { s.inst i with farNew := none }) Reg.tor_TOR_FARFIX_LATE)

/-! ### Stop and restart of an instance (R348, R349) -/

/-- The first Hyper boundary at least 2 ms after this moment, in TAI (R347, R349). -/
def State.hyperAfter (s : State) : Nat := cdiv (s.tai + 2 * unitsMs) unitsHyper * unitsHyper

/-- FB_DISABLE (R348): instance i starts no evaluation numbered E or later; the earlier of two stops stands
(log entry 44). -/
def execFbDisable (src : Requester) (i E : Nat) (s : State) : Host.Outcome State Fault Refusal :=
  .next (if !s.hasInst i then s
    else
      let (h, s) := s.newHandle src
      let x := s.inst i
      let d := (E % 2 ^ 32 + 2 ^ 32 - x.next % 2 ^ 32) % 2 ^ 32
      let now := E = 2 ^ 32 - 1
      let low := !now && 2 ^ 31 ≤ d
      let stop := if now || low then x.next else x.next + d
      let s := if low then s.clampReport h 0x03070000 E (stop % 2 ^ 32) 7 else s
      let stop := match x.stopAt with
        | some e => min e stop
        | none => stop
      let s := s.setInst i { x with stopAt := some stop, stops := x.stops ++ [(h, none)] }
      s.checkStop i)

/-- FB_ENABLE (R349): a disabled instance i resumes with the first evaluation at or after the Hyper boundary. -/
def execFbEnable (src : Requester) (i : Nat) (s : State) : Host.Outcome State Fault Refusal :=
  .next (if !s.hasInst i then s
    else
      let (h, s) := s.newHandle src
      let x := s.inst i
      if !x.disabled || x.leaving then s.complete h stOK
      else
        let n := max x.next (cdiv s.hyperAfter (x.div * entPeriod (s.strm x.trigger).entry))
        let s := s.setInst i { x with stopAt := none, next := n, skips := (if x.next < n then (x.next, n) :: x.skips else x.skips) }
        s.complete h stOK (n % 2 ^ 32))

end Sys2Proof.Machine
end

