-- ==== Sys2Proof/Machine/AdmView.lean ====
section
/-!
DEFINITION. The arithmetic of the admission unit: the admitted work that a request is computed against, delivery bounds,
port loads, classification entries, and the placement of blocks in prickings (chapter 12). Bounds are exact: every time
here is a whole number of 1/`qns` of a nanosecond.
-/

namespace Sys2Proof.Machine

/-! ### Reasons (R383) -/

def adRateFreq : Nat := 0x0001
def adAsduBudget : Nat := 0x0002
def adChsampleBudget : Nat := 0x0003
def adSlotBudget : Nat := 0x0004
def adPeerKind : Nat := 0x0005
def adDuplicateStream : Nat := 0x0006
def adIngestLoad : Nat := 0x0007
def adInUse : Nat := 0x0008
def adTorCapacity : Nat := 0x0010
def adWriterConflict : Nat := 0x0011
def adImageFormat : Nat := 0x0012
def adImageCrc : Nat := 0x0013
def adIsaRev : Nat := 0x0014
def adImageCode : Nat := 0x0015
def adTypeIdMismatch : Nat := 0x0016
def adBinding : Nat := 0x0017
def adNoGrant : Nat := 0x0018
def adTileUtil : Nat := 0x0019
def adDeadlineUnmet : Nat := 0x001A
def adClassLimit : Nat := 0x001B
def adShareTorchon : Nat := 0x001C
def adTileLost : Nat := 0x001D
def adPubTemplate : Nat := 0x0021
def adPortRate : Nat := 0x0022
def adNoEgress : Nat := 0x0023
def adBuffer : Nat := 0x0024
def adClsEntries : Nat := 0x0025
def adScanCore : Nat := 0x0030
def adScanOverrun : Nat := 0x0031
def adScanShare : Nat := 0x0032
def adScanExists : Nat := 0x0033
def adBoundExisting : Nat := 0x00F0
def adBadRequest : Nat := 0x00F1
def adDramLoad : Nat := 0x00F2

/-- A refusal: reason and failing item (R361). -/
structure AdmRefusal where
  reason : Nat
  item : Nat := 0
  deriving DecidableEq, Repr

/-! ### Exact time -/

/-- Parts of a nanosecond: a multiple of every denominator that occurs, 9 × 10⁴ (R369), the port rates (R379) and the
quad clocks of 12 to 24 times 50 MHz (R286). -/
def qns : Nat := 90000 * 5354228880

/-- Nanoseconds of an exact time, rounded up. -/
def ceilNs (t : Nat) : Nat := cdiv t qns

/-! ### Admitted work -/

/-- A logical tile: its mode and its ROLLBACK blocks (R366, R370). -/
structure AdmTile where
  deep : Bool := false
  rho : Nat := 0
  rbs : List Nat := []
  deriving DecidableEq, Repr

/-- The work a request is computed against: everything admitted, with the requests that wait for their instant (R362). -/
structure AdmView where
  streams : Tbl Bytes := []
  /-- entries that are charged: those of the streams, and removed ones whose epochs are live (R257) -/
  charged : List (Nat × Bytes) := []
  peers : Tbl Peer := []
  pubs : Tbl Pub := []
  insts : Tbl Inst := []
  /-- instances that an exchange replaces: they hold their slots until it is applied (R351, R364) -/
  extra : List (Nat × Inst) := []
  scan : Tbl ScanProg := []
  tiles : Tbl AdmTile := []
  /-- quad clocks that requests change, MHz -/
  mhz : Tbl Nat := []
  /-- EARLY_TOL in µs -/
  early : Nat := 0
  /-- MAX_FRAME values taken in place of the registers' (R384) -/
  mtu : Tbl Nat := []
  deriving Repr

/-- An instance with the placement of another. -/
def Inst.placedAs (x y : Inst) : Inst :=
  { x with ltile := y.ltile, k := y.k, depth := y.depth, gap := y.gap, ra := y.ra, blocks := y.blocks, bCalc := y.bCalc }

/-- Entries and ROLLBACK blocks of a plan put into the work. -/
def AdmView.withPlan (v : AdmView) (p : AdmPlan) : AdmView :=
  let insts := p.insts.foldl (fun m e => Tbl.ins e.2 m e.1) v.insts
  let insts := p.moved.foldl (fun m e =>
    Tbl.ins ((Tbl.look ({} : Inst) m e.1).placedAs e.2) m e.1) insts
  let insts := p.leave.foldl (fun m i => Tbl.ins { Tbl.look ({} : Inst) m i with leaving := true } m i) insts
  let tiles := p.opened.foldl (fun m e => Tbl.ins ({ deep := e.2 } : AdmTile) m e.1) v.tiles
  let tiles := p.rbs.foldl (fun m e => Tbl.ins { Tbl.look ({} : AdmTile) m e.1 with rho := e.2.1, rbs := e.2.2 } m e.1) tiles
  { v with
    streams := p.streams.foldl (fun m e => Tbl.put ([] : Bytes) m e.1 e.2) v.streams,
    charged := v.charged ++ p.streams.filter fun e => !e.2.isEmpty,
    pubs := p.pubs.foldl (fun m e => match e.2 with
      | some x => Tbl.ins x m e.1
      | none => Tbl.drop m e.1) v.pubs,
    insts := insts,
    scan := p.scanLeave.foldl (fun m sl => Tbl.drop m sl) (p.scan.foldl (fun m e => Tbl.ins e.2 m e.1) v.scan),
    tiles := tiles,
    mhz := match p.quad with
      | some (q, c) => Tbl.ins (600 + 50 * c) v.mhz q
      | none => v.mhz }

/-- An accepted exchange put into the work: the new instances count, the old ones keep their slots (R350, R364). -/
def AdmView.withExchange (v : AdmView) (x : Exchange) : AdmView :=
  let old := v.insts.filter fun e => e.1 / 512 = x.slice && e.2.set = x.oldSet && x.waiting.contains e.1
  let rest := v.insts.filter fun e => !(old.any fun o => o.1 = e.1)
  let tiles := x.opened.foldl (fun m e => if m.any fun t => t.1 = e.1 then m else Tbl.ins ({ deep := e.2 } : AdmTile) m e.1) v.tiles
  { v with
    insts := (x.news.filter fun e => x.waiting.contains e.1).foldl (fun m e => Tbl.ins e.2 m e.1) rest,
    extra := v.extra ++ old,
    tiles := x.rbs.foldl (fun m e => Tbl.ins { Tbl.look ({} : AdmTile) m e.1 with rho := e.2.1, rbs := e.2.2 } m e.1) tiles }

/-- The work admitted and applied. -/
def State.admNow (s : State) : AdmView :=
  let cur := s.epoch
  { streams := cur.streams, charged := s.chargedStreams, peers := cur.peers, pubs := s.tor.pubs, insts := s.tor.insts,
    scan := (s.scan.filter fun e => !e.2.leaving).map fun e => (e.1, e.2.prog),
    tiles := (List.range 64).filterMap fun l => (s.tileOf l).map fun t =>
      (l, { deep := s.flag Reg.tile_MODE t, rho := s.raw Reg.ltile_RB_SLOTS l, rbs := Tbl.look [] s.tor.rbs l }),
    early := s.rd Reg.svi_EARLY_TOL }

/-- The work with everything admitted and not yet applied (R362, R387): table versions that load, plans, exchanges. -/
def State.admView (s : State) : AdmView :=
  let v := s.admNow
  let b := s.newestEpoch
  let v := { v with
    streams := s.net.changes.foldl (fun m c => c.streams.foldl (fun m e => Tbl.put ([] : Bytes) m e.1 e.2) m) b.streams,
    peers := s.net.changes.foldl (fun m c => c.peers.foldl (fun m e => Tbl.put ({} : Peer) m e.1 e.2) m) b.peers }
  let v := (s.tor.plans.filter fun p => !p.req.check).foldl AdmView.withPlan v
  let v := s.tor.exchanges.foldl AdmView.withExchange v
  s.scan.foldl (fun v e => match e.2.exch with
    | some x => { v with scan := Tbl.ins x.prog v.scan e.1 }
    | none => v) v

/-! ### Ports as admission counts them -/

/-- Rate of an external port in Mbit/s: of its link, or of its configuration while no link is up (R151, R176). -/
def State.admRate (s : State) (p : Nat) : Nat :=
  if 32 ≤ p || s.flag Reg.prt_LINK p then s.portRate p
  else match s.raw Reg.prt_LANE_MODE p with
    | 1 => 1000
    | 2 => if s.flag Reg.prt_AN_EN p || p < 20 then 1000 else ([10, 100, 1000] : List Nat).getD (s.rd Reg.prt_SPEED p) 1000
    | 3 => 2500
    | 6 => 25000
    | _ => 10000

/-- A port is half duplex (R157). -/
def State.halfDuplex (s : State) (p : Nat) : Bool :=
  if s.flag Reg.prt_LINK p then !s.flag Reg.prt_FULL p
  else decide (20 ≤ p) && decide (p < 28) && s.raw Reg.prt_LANE_MODE p = 2 && !s.flag Reg.prt_AN_EN p && s.flag Reg.prt_HDX p
    && decide (s.rd Reg.prt_SPEED p < 2)

/-- An external port is not disabled. -/
def State.admPort (s : State) (p : Nat) : Bool := s.raw Reg.prt_LANE_MODE p ≠ 0

/-- Both ports of every pair or ring among some ports count (R213, R379). -/
def State.bothPorts (s : State) (ps : List Nat) : List Nat :=
  sortBy (fun a b => decide (a ≤ b)) ((ps.flatMap fun p => match s.groupOf p with
    | some g => [(s.groupPorts g).1, (s.groupPorts g).2]
    | none => [p]).eraseDups)

/-- The egress ports of a publication that count: neither disabled nor half duplex (R160, R379). -/
def State.admEgressOf (s : State) (e : Bytes) : List Nat :=
  (s.bothPorts (pubEgress e)).filter fun p => s.admPort p && !s.halfDuplex p

/-- UNIT_EN acts as 1: it is set with a peer of kind 4, and the admission unit has not refused the pair flows (R229,
R235). -/
def State.pairOn (s : State) : Bool :=
  s.flag Reg.unit_UNIT_EN && !s.red.refused && (Tbl.look ({} : Peer) s.wh.peers (s.raw Reg.unit_PEER)).kind = 4

/-- Ports of a mask. -/
def portsIn (m : Nat) : List Nat := (List.range 32).filter fun p => bit p m

/-- Ports of the pair frames (R229). -/
def State.pairPorts (s : State) : List Nat := (s.bothPorts (portsIn (s.raw Reg.unit_PAIR_EGRESS))).filter s.admPort

/-- Pair frames are admitted on these ports. -/
def State.pairFlows (s : State) : List Nat := if s.pairOn then s.pairPorts else []

/-! ### Streams (R380) -/

/-- Length of a BER element with n content bytes (R238). -/
def berLen (n : Nat) : Nat := n + 1 + (if n < 128 then 1 else if n < 256 then 2 else 3)

/-- Length of an untagged SV frame with its FCS: the elements that R238 requires and no others. -/
def svLen (idLen channels asdus : Nat) : Nat :=
  let asdu := berLen idLen + berLen 2 + berLen 4 + berLen 1 + berLen (8 * channels)
  max 64 (14 + 8 + berLen (berLen 1 + berLen (asdus * berLen asdu)) + 4)

/-- L of a stream, and n of R380. -/
def AdmView.frameLen (v : AdmView) (e : Bytes) : Nat :=
  svLen (Tbl.look ({} : Peer) v.peers (entPeer e)).reference.length (entChannels e) (entAsdus e)
def AdmView.inFlight (v : AdmView) (e : Bytes) : Nat := 1 + cdiv ((entWindow e + v.early) * unitsUs) (entPeriod e)

/-- Q_32 (R380). -/
def AdmView.q32 (v : AdmView) : Nat := ((v.streams.map fun e => v.inFlight e.2 * v.frameLen e.2).sum) * (8 * qns / 100)

/-- The ingress ports of a stream: every external port that is not disabled (log entry 12). -/
def State.streamPorts (s : State) : List Nat := (List.range 32).filter s.admPort

/-- The lowest rate of the ingress ports; 0 when there is none. -/
def State.ingressRate (s : State) : Nat :=
  match s.streamPorts with
  | [] => 0
  | p :: ps => ps.foldl (fun m q => min m (s.admRate q)) (s.admRate p)

/-- SW_RES in ns (R380). The entries of streams ask for no tag check. -/
def AdmView.swRes (s : State) (v : AdmView) (e : Bytes) : Nat :=
  ceilNs (5888 * qns / 10 + 8000 * v.frameLen e * qns / s.ingressRate + v.q32)

/-- Every entry with its SW_RES (R241, R380). -/
def AdmView.settled (s : State) (v : AdmView) : AdmView :=
  { v with streams := v.streams.map fun e => (e.1, putLe e.2 18 2 (min 65535 (v.swRes s e.2))) }

/-! ### Instances (R367, R369, R374) -/

/-- The stream that owns a channel slot among the streams of the work. -/
def AdmView.owner (v : AdmView) (c : Nat) : Option Nat :=
  (v.streams.find? fun e => entSlotBase e.2 ≤ c && c < entSlotBase e.2 + entChannels e.2).map (·.1)

/-- The input streams of an instance with the kind of each input; the trigger counts as a raw input (R367). -/
def AdmView.inputsOf (v : AdmView) (x : Inst) : List (Nat × Nat) :=
  (1, x.trigger) :: x.inputs.filterMap fun tb => if tb.1.kind = 3 then none else (v.owner (tb.2 % 2 ^ 13)).map fun k => (tb.1.kind, k)

/-- Clock in MHz of the quad of a logical tile; a tile not yet allocated has its own number. -/
def AdmView.clock (s : State) (v : AdmView) (l : Nat) : Nat :=
  let q := ((s.tileOf l).getD l) / 4
  match v.mhz.find? fun e => e.1 = q with
  | some e => e.2
  | none => s.raw Reg.quad_QCLK_MHZ q

/-- C of an instance (R367), exact. -/
def AdmView.cost (s : State) (v : AdmView) (x : Inst) : Nat := (x.prog.stepMax + 120) * (1000 * qns / v.clock s x.ltile)

/-- Evaluation period, units of 1/9 ns. -/
def AdmView.period (v : AdmView) (x : Inst) : Nat := x.div * entPeriod (Tbl.look [] v.streams x.trigger)

/-- J in ns, and H in evaluation periods (R369). -/
def AdmView.jitter (v : AdmView) (x : Inst) : Nat :=
  (v.inputsOf x).foldl (fun m k => let e := Tbl.look [] v.streams k.2; max m ((entWindow e + v.early) * 1000 + entSwRes e)) 0
def AdmView.horizon (v : AdmView) (x : Inst) : Nat :=
  (v.inputsOf x).foldl (fun m k => let e := Tbl.look [] v.streams k.2; max m (cdiv (entHorizon e * entPeriod e) (v.period x))) 0

/-- K (R369). -/
def AdmView.backlog (v : AdmView) (x : Inst) (deep : Bool) : Nat :=
  1 + v.jitter x * unitsNs / v.period x + (if deep then 0 else v.horizon x)

/-- Start of slot i within the hyperperiod, units of 1/9 ns (R145). -/
def slotStart (i : Nat) : Nat := i / 70 * unitsFrame + i % 70 * 9000

/-- The largest gap of some block starts, in rising order, taken cyclically, units of 1/9 ns (R369). -/
def maxGap : List Nat → Nat
  | [] => unitsHyper
  | a :: rest =>
    let go := rest.foldl (fun (z : Nat × Nat) b => (slotStart b, max z.2 (slotStart b - z.1))) (slotStart a, 0)
    max go.2 (slotStart a + unitsHyper - go.1)

/-- G of some block starts, exact: the gap times 1.0002 (R369, R370). -/
def gapTime (blocks : List Nat) : Nat := maxGap blocks * 10002 * (qns / 90000)

/-- t_in (R374), ns. -/
def AdmView.tIn (v : AdmView) (x : Inst) : Nat :=
  (v.inputsOf x).foldl (fun m k => max m (entSwRes (Tbl.look [] v.streams k.2) + (if k.1 = 4 then 4000 else if k.1 = 2 then 2700 else 1200))) 0

/-- t_dram (R374), ns. -/
def Inst.tDram (x : Inst) : Nat := 800 * ((x.prog.ins.filter fun t => t.kind = 4).map (·.hist)).sum

/-- b_own (R374), exact. -/
def AdmView.bOwn (s : State) (v : AdmView) (x : Inst) : Nat :=
  let t := Tbl.look ({} : AdmTile) v.tiles x.ltile
  let c := v.cost s x
  let rb := if t.deep then gapTime t.rbs + 2000 * qns + (x.ra + 1) * c else 0
  (v.tIn x + x.tDram) * qns + 9 * qns / 2 + 3000 * qns / v.clock s x.ltile + x.depth * gapTime x.blocks + c + rb

/-- λ of an instance (R374), exact. -/
def AdmView.lambda (s : State) (v : AdmView) (x : Inst) : Nat :=
  (v.inputsOf x).foldl (fun m k =>
    let e := Tbl.look [] v.streams k.2
    max m (entWindow e * 1000 * qns + entHorizon e * entPeriod e * (qns / 9))) 0 + v.bOwn s x

/-- b_ord of instance i (R374), exact. -/
def AdmView.bOrd (s : State) (v : AdmView) (i : Nat) (x : Inst) : Nat :=
  let mine := (v.inputsOf x).map (·.2)
  let ls := (v.insts.filter fun e => e.1 ≠ i && e.2.ltile = x.ltile && (v.inputsOf e.2).any fun k => !mine.contains k.2).map
    fun e => v.lambda s e.2
  if ls.isEmpty then 0 else v.early * 1000 * qns + ls.foldl max 0

/-! ### Publications (R379) -/

/-- Frame length with its FCS. -/
def Pub.wireBytes (p : Pub) : Nat := (if pubTransit p.entry then pubTplLen p.entry else p.frame.length) + 4

/-- MIRROR frames reserved in every pricking frame (R229). -/
def AdmView.mirrorFrames (v : AdmView) : Nat := cdiv ((v.insts.map fun e => cdiv unitsFrame (v.period e.2)).sum) 120

/-- MAX_FRAME of an egress port. -/
def AdmView.maxFrameOf (s : State) (v : AdmView) (p : Nat) : Nat :=
  match v.mtu.find? fun e => e.1 = p with
  | some e => e.2
  | none => s.maxFrame p

/-- A_e of publication g at port p, bytes. -/
def AdmView.others (s : State) (v : AdmView) (g p : Nat) : Nat :=
  ((v.pubs.filter fun e => e.1 ≠ g && (s.admEgressOf e.2.entry).contains p).map fun e => e.2.wireBytes + 20).sum
    + (if s.pairFlows.contains p then 148 + v.mirrorFrames * 1538 else 0) + 4 * 148

/-- T_pub of publication g, exact, and the lowest port of the largest term. -/
def AdmView.tPub (s : State) (v : AdmView) (g : Nat) : Nat × Nat :=
  let x := Tbl.look ({} : Pub) v.pubs g
  let worst := (s.admEgressOf x.entry).foldl (fun (m : Nat × Nat) p =>
    let t := 8000 * (v.maxFrameOf s p + 20 + v.others s g p) * (qns / s.admRate p)
    if m.1 < t then (t, p) else m) (0, 0)
  (139392 * qns / 100 + (if (pubSa x.entry).isSome then 400 * qns else 0) + worst.1, worst.2)

/-- t_out (R374), exact. -/
def AdmView.tOut (s : State) (v : AdmView) (x : Inst) : Nat :=
  (x.prog.outs.zip x.outB).foldl (fun m tb =>
    if tb.1.kind = 2 then max m (v.tPub s (tb.2 % 2 ^ 12)).1
    else if tb.1.kind = 3 then max m ((1500 + x.host) * qns) else m) 0

/-- B_calc of instance i, ns (R374). -/
def AdmView.bCalc (s : State) (v : AdmView) (i : Nat) (x : Inst) : Nat :=
  ceilNs (max (v.bOwn s x) (v.bOrd s i x) + 1000 * qns + v.tOut s x)

/-! ### Loads (R32, R197, R383) -/

/-- Admitted class 5–7 load of an egress port, bit/s; class 6 load of port 32. -/
def AdmView.load (s : State) (v : AdmView) (p : Nat) : Nat :=
  if p = 32 then (v.streams.map fun e => cdiv (8 * (v.frameLen e.2 + 20) * entRate e.2) (entAsdus e.2)).sum
  else ((v.pubs.filter fun e => (s.admEgressOf e.2.entry).contains p).map fun e =>
      if pubTransit e.2.entry then 8 * (e.2.wireBytes + 20) * le 14 2 e.2.entry
      else cdiv (8000 * (e.2.wireBytes + 20)) (pubTMin e.2.entry)).sum
    + (if s.pairFlows.contains p then 8 * 148 * 1000 + 8 * 1538 * 14400 * v.mirrorFrames else 0)

/-- The load of a port is above 95 % of its rate. -/
def AdmView.overload (s : State) (v : AdmView) (p : Nat) : Bool := decide (19 * s.admRate p * 1000000 < 20 * v.load s p)

/-- ADM_CELLS (R383). -/
def AdmView.cells (s : State) (v : AdmView) : Nat :=
  (v.streams.map fun e => v.inFlight e.2 * cellsOf (v.frameLen e.2)).sum
    + (v.pubs.map fun e => 2 * cellsOf e.2.wireBytes * (s.admEgressOf e.2.entry).length).sum
    + s.pairFlows.length * 2 * (cellsOf 128 + v.mirrorFrames * cellsOf 1518)

/-- Admitted DRAM traffic in bytes/s: records and values of every sample, far fixes every 64 frames, the 4 KiB signal
journal of each of their intervals, and 64 bytes for each store read (R343, R344, R383). -/
def AdmView.dram (v : AdmView) : Nat :=
  (v.streams.map fun e => entRate e.2 * (4 + 6 * entChannels e.2)).sum
    + (v.insts.map fun e =>
      225 * (64 + e.2.dataLen) + (if e.2.prog.ins.any fun t => t.kind = 3 then 225 * 4096 else 0)
        + cdiv unitsSec (v.period e.2) * 64 * ((e.2.prog.ins.filter fun t => t.kind = 4).map (·.hist)).sum).sum

/-- A port mask. -/
def maskOf (ps : List Nat) : Nat := ps.foldl (fun m p => setBit p m) 0

/-- A classification entry of the admission unit: DMAC (none any), EtherType, VID (none any), APPID (none any), ingress
and egress masks, class, association (R182). -/
def admEntry (dmac : Option Nat) (etype : Nat) (vid appid : Option Nat) (ingress egress cls : Nat) (sa : Option Nat) : Bytes :=
  let w := vid.getD 0 + (if vid.isNone then 2 ^ 12 else 0) + (if dmac.isNone then 2 ^ 13 else 0)
    + (if appid.isNone then 2 ^ 14 else 0) + 2 ^ 15
  beBytes 6 (dmac.getD 0) ++ leBytes 2 etype ++ leBytes 2 w ++ leBytes 2 (appid.getD 0) ++ leBytes 5 ingress
    ++ leBytes 1 cls ++ leBytes 5 egress ++ leBytes 1 0xFF ++ leBytes 2 (sa.getD 0) ++ List.replicate 6 0

/-- The entries of all admitted flows, each once: streams to port 32, publications from port 33, ring transit, pair
frames (R182, R229, R377, R383). -/
def AdmView.entries (s : State) (v : AdmView) : List Bytes :=
  let st := v.streams.map fun e =>
    admEntry none 0x88BA none (some (Tbl.look ({} : Peer) v.peers (entPeer e.2)).appid) (maskOf s.streamPorts) (2 ^ 32) 6 none
  let pb := v.pubs.map fun e =>
    let eg := maskOf (s.admEgressOf e.2.entry)
    if pubTransit e.2.entry then
      admEntry (some (be 0 6 e.2.tpl)) 0x88B8 none (some (be 12 2 e.2.tpl)) eg eg 6 none
    else
      let h := headersOf e.2.frame
      admEntry (some h.dst) h.etype (some ((h.tag.map (·.2)).getD 0)) (some (be h.payload 2 e.2.frame)) (2 ^ 33) eg 6
        (pubSa e.2.entry)
  let pr := match s.pairFlows with
    | [] => []
    | ps => [admEntry (some s.mgmtMac) 0x88B5 none none (maskOf ps) (2 ^ 35) 5 none]
  (pr ++ st ++ pb).eraseDups

/-- Checks of what all work shares, with `items` the new ones of a request: the first that fails (R197, R365, R383). -/
def AdmView.shared (s : State) (v : AdmView) (items : List Nat) : Except AdmRefusal Unit :=
  let item := items.headD 0
  let shares := ((List.range 128).map fun k => s.raw Reg.slc_BUF_SHARE k).sum
  match v.streams.find? fun e => decide (65535 < v.swRes s e.2) with
  | some e => .error { reason := adIngestLoad, item := e.1 }
  | none =>
    if v.streams ≠ [] && s.ingressRate = 0 then .error { reason := adIngestLoad, item := (v.streams.map (·.1)).headD 0 }
    else if (List.range 33).any fun p => v.overload s p then .error { reason := adPortRate, item := item }
    else if 46694 < v.cells s + shares then .error { reason := adBuffer, item := item }
    else if 1024 < (v.entries s).length then .error { reason := adClsEntries, item := item }
    else if 38400000000 * 95 / 100 < v.dram + s.capTraffic then .error { reason := adDramLoad, item := item }
    else .ok ()

/-- The class limit of an instance in ns: TRIP with a trip or GOOSE output, else OTHER (R375). -/
def State.classLimit (s : State) (p : Prog) : Nat :=
  (if p.outs.any fun o => o.trip || o.kind = 2 then s.rd Reg.adm_LIM_TRIP else s.rd Reg.adm_LIM_OTHER) * 1000

/-- Every bound is kept: an item new in the request passes its class limit or its deadline, one admitted before stops the
request (R365, R375). -/
def AdmView.bounds (s : State) (v : AdmView) (new : List Nat) : Except AdmRefusal Unit :=
  match (v.insts.filter fun e => !e.2.leaving).find? fun e => decide (e.2.bPub < v.bCalc s e.1 e.2) with
  | some e =>
    let r := if !new.contains e.1 then adBoundExisting
      else if s.classLimit e.2.prog < v.bCalc s e.1 e.2 then adClassLimit else adDeadlineUnmet
    .error { reason := r, item := e.1 }
  | none => .ok ()

/-! ### Placement (R364, R366–R371) -/

/-- The slots of the FIX. -/
def fixMask : Nat := (List.range 12).foldl (fun m f => setBit (70 * f + 69) m) 0

/-- Mask of blocks of n slots. -/
def blockMask (n : Nat) (blocks : List Nat) : Nat := blocks.foldl (fun m b => m ||| (2 ^ n - 1) * 2 ^ b) 0

/-- Instances that hold slots of a logical tile while instance i is placed: its own old version does not count (R364). -/
def AdmView.holders (v : AdmView) (l i : Nat) : List (Nat × Inst) :=
  (v.insts ++ v.extra).filter fun e => e.2.ltile = l && e.1 ≠ i

/-- A block of n slots may start at slot x: within one frame, on FREE slots. -/
def fitsAt (taken n x : Nat) : Bool := decide (x % 70 + n ≤ 69) && decide (x < 840) && taken &&& ((2 ^ n - 1) * 2 ^ x) = 0

/-- The nearest start at or before x, not before lo; then the nearest after it. -/
def startBefore (taken n lo : Nat) : Nat → Option Nat
  | 0 => if lo = 0 && fitsAt taken n 0 then some 0 else none
  | x + 1 => if x + 1 < lo then none else if fitsAt taken n (x + 1) then some (x + 1) else startBefore taken n lo x
def startAfter (taken n x : Nat) : Option Nat := (List.range (840 - x)).findSome? fun d => if fitsAt taken n (x + d) then some (x + d) else none

/-- `count` blocks of n slots as evenly as the FREE slots allow: block j has its ideal start at ⌊j × 840 / count⌋ and
takes the nearest earlier start that fits, else the nearest later (log entry 13). -/
def placeBlocks (taken n count : Nat) : Option (List Nat) :=
  ((List.range count).foldl (fun (z : Option (Nat × List Nat)) j =>
    z.bind fun (taken, bs) =>
      let ideal := j * 840 / count
      let lo := (bs.getLast?.map (· + 1)).getD 0
      ((startBefore taken n lo ideal).or (startAfter taken n (max lo ideal))).map fun x =>
        (taken ||| (2 ^ n - 1) * 2 ^ x, bs ++ [x])) (some (taken, []))).map fun z => sortBy (fun a b => decide (a ≤ b)) z.2

/-- One ROLLBACK block of n slots in every frame, at the first place that fits (R370). -/
def placeRollback (taken n : Nat) : Option (List Nat) :=
  (List.range 12).foldl (fun z f => z.bind fun bs =>
    ((List.range (70 - n)).find? fun m => fitsAt taken n (70 * f + m)).map fun m => bs ++ [70 * f + m]) (some [])

/-- Slots of a ROLLBACK block that an instance of cost c needs (R370). -/
def rollbackSlots (c ra : Nat) : Nat := cdiv ((2000 * qns + (ra + 1) * c) * 10) (9998 * qns)

/-- What becomes of an instance on a tile: the tile cannot hold it (R292), has no room (R371), misses its bound (the
lowest B_calc reached), or takes it. -/
inductive Try where
  | full
  | noRoom
  | late (b : Nat)
  | placed (b : Nat) (x : Inst) (t : AdmTile)
  deriving Repr

/-- Instance data and staging of an instance, bytes (R292, R315). -/
def Inst.memory (x : Inst) : Nat := x.dataLen + ((x.prog.ins.filter fun t => t.kind = 1).map fun t => 8 * t.hist).sum

/-- Program memory of a tile's distinct types, bytes (R292, R315). -/
def programBytes (xs : List Inst) : Nat :=
  (xs.foldl (fun (m : Tbl Nat) x => Tbl.ins x.prog.code.length m x.prog.typeId) []).foldl (fun n e => n + e.2) 0

/-- The fewest blocks that meet the bound (R369), from `n` blocks up. -/
def AdmView.fewest (s : State) (v : AdmView) (i : Nat) (x : Inst) (t : AdmTile) (taken used p : Nat) (best : Option Nat) (n : Nat) :
    Nat → Try
  | 0 => match best with
    | some b => .late b
    | none => .noRoom
  | fuel + 1 =>
    let stop : Try := match best with
      | some b => .late b
      | none => .noRoom
    if 708 < used + n * x.k then stop
    else match placeBlocks taken x.k n with
      | none => stop
      | some blocks =>
        let g := maxGap blocks * 10002
        if (if x.depth = 1 then p * 10000 else p * 5000) < g then AdmView.fewest s v i x t taken used p best (n + 1) fuel
        else
          let y := { x with blocks := blocks, gap := cdiv g 90000 }
          let b := v.bCalc s i y
          if b ≤ x.bPub then .placed b { y with bCalc := b } t
          else AdmView.fewest s v i x t taken used p (some (match best with
            | some c => min b c
            | none => b)) (n + 1) fuel

/-- Instance i tried on logical tile l, which opens in mode `deep` if it is vacant (R292, R331, R367–R371). -/
def AdmView.tryTile (s : State) (v : AdmView) (i : Nat) (x : Inst) (l : Nat) (deep : Bool) : Try :=
  let hs := v.holders l i
  let xs := hs.map (·.2)
  if 256 ≤ xs.length || 256 * 1024 < ((x :: xs).map Inst.memory).sum || 64 * 1024 < programBytes (x :: xs) then .full
  else
    let t : AdmTile := match v.tiles.find? fun e => e.1 = l with
      | some e => e.2
      | none => { deep := deep }
    let x := { x with ltile := l }
    let c := v.cost s x
    let k := cdiv (c * 10) (9998 * qns)
    let lines := x.lineCount
    let resv := (xs.map fun y => y.ra * y.lineCount).sum
    let raMax := if t.deep then min 6 (min (v.horizon x) (if lines = 0 then 6 else (640 - resv) / lines)) else 0
    let ra := ((List.range (raMax + 1)).reverse.find? fun r => decide (rollbackSlots c r ≤ 69)).getD 0
    let x := { x with k := k, ra := ra, depth := v.backlog x t.deep }
    let rho : Nat := if t.deep then (xs.map fun (y : Inst) => rollbackSlots (v.cost s y) y.ra).foldl max (rollbackSlots c ra) else 0
    let own := xs.foldl (fun m y => m ||| blockMask y.k y.blocks) fixMask
    match (if rho = t.rho then some t.rbs else placeRollback own rho) with
    | none => .noRoom
    | some rbs =>
      let t := { t with rho := rho, rbs := rbs }
      let v := { v with tiles := Tbl.ins t v.tiles l }
      let used := (xs.map fun y => y.k * y.blocks.length).sum + 12 * rho
      if k = 0 || 69 < k then .noRoom
      else v.fewest s i x t (own ||| blockMask rho rbs) used (v.period x) none 1 840

/-- The work with an instance placed. -/
def AdmView.put (v : AdmView) (i : Nat) (x : Inst) (t : AdmTile) : AdmView :=
  { v with insts := Tbl.ins x v.insts i, tiles := Tbl.ins t v.tiles x.ltile }

/-- The tile among some that gives the lowest B_calc, the lower number in a tie (R371). -/
def bestTry (ts : List Try) : Option (Nat × Inst × AdmTile) :=
  ts.foldl (fun m t => match t, m with
    | .placed b x t, none => some (b, x, t)
    | .placed b x t, some y => if b < y.1 then some (b, x, t) else some y
    | _, _ => m) none

/-- Vacant tiles that admission may open (R288). -/
def AdmView.vacant (s : State) (v : AdmView) : List Nat :=
  (List.range 64).filter fun l => s.raw Reg.tile_STATE l = 0 && (s.tileOf l).isNone && !v.tiles.any fun e => e.1 = l

/-- Instance i placed on the tile of the lowest B_calc: allocated tiles, then vacant ones; with DEEP the Deep ones first
(R360, R371). -/
def AdmView.place (s : State) (v : AdmView) (i : Nat) (x : Inst) (deep : Bool) : Except AdmRefusal AdmView :=
  let alloc := v.tiles.map (·.1)
  let groups := if deep then
      [v.tiles.filterMap fun e => if e.2.deep then some e.1 else none, v.vacant s, v.tiles.filterMap fun e => if e.2.deep then none else some e.1]
    else [alloc, v.vacant s]
  let tried := groups.map fun g => g.map fun l => v.tryTile s i x l deep
  match tried.findSome? bestTry with
  | some (_, y, t) => .ok (v.put i y t)
  | none =>
    let all := tried.flatten
    let late := all.filterMap fun t => match t with
      | .late b => some b
      | _ => none
    .error { item := i, reason :=
      if all.all fun t => match t with
        | .full => true
        | _ => false then adTorCapacity
      else match late with
        | [] => adTileUtil
        | b :: bs => if s.classLimit x.prog < bs.foldl min b then adClassLimit else adDeadlineUnmet }

/-- The instances of some logical tiles placed anew on their tiles, in the mode each tile then has (R24, R347, R364). -/
def AdmView.replace (s : State) (v : AdmView) (is : List (Nat × Inst)) : Except AdmRefusal AdmView :=
  let v0 := { v with insts := v.insts.filter fun e => !(is.any fun i => i.1 = e.1) }
  is.foldl (fun z e => z.bind fun (v : AdmView) =>
    match v.tryTile s e.1 e.2 e.2.ltile false with
    | .placed _ y t => .ok (v.put e.1 y t)
    | .late _ => .error { reason := adBoundExisting, item := e.1 }
    | .full => .error { reason := adTorCapacity, item := e.1 }
    | .noRoom => .error { reason := adTileUtil, item := e.1 }) (.ok v0)

/-- The slice's reserved slots are within its Torchon share (R371). -/
def AdmView.shareOk (s : State) (v : AdmView) (sl : Nat) : Bool :=
  decide (((v.insts.filter fun e => e.1 / 512 = sl).map fun e => e.2.k * e.2.blocks.length).sum * 1000 ≤ s.rd Reg.slc_TOR_SHARE sl * 50000)

end Sys2Proof.Machine
end

