-- ==== Sys2Proof/Machine/Isa.lean ====
section
/-!
DEFINITION. The function-block instruction set (FB-ISA) on tiles and scan cores: words, legality, the common course of an
instruction, and one meaning per instruction (R298–R309, R434–R437). A unit is a tile, 0–63, or 64 plus the slice of a scan
program. An instruction command acts when its word is the one at the pc of what its unit executes; else it changes
nothing.
-/

namespace Sys2Proof.Machine

/-! ### Words (R299) -/

def encR (op rd ra rb fn : Nat) : Nat := op * 2 ^ 26 + rd * 2 ^ 20 + ra * 2 ^ 14 + rb * 2 ^ 8 + fn
def encI (op rd ra imm : Nat) : Nat := op * 2 ^ 26 + rd * 2 ^ 20 + ra * 2 ^ 14 + imm
def encL (op rd imm : Nat) : Nat := op * 2 ^ 26 + rd * 2 ^ 20 + imm
def encV (op vd va vb rs fn : Nat) : Nat := op * 2 ^ 26 + vd * 2 ^ 22 + va * 2 ^ 18 + vb * 2 ^ 14 + rs * 2 ^ 8 + fn

/-- The reserved fields of a word, each by its lowest bit and length: none for an illegal opcode or a reserved code (R299,
R300, R305, R306, R434). -/
def reservedFields (scan : Bool) (w : Nat) : Option (List (Nat × Nat)) :=
  let op := w / 2 ^ 26
  let fn := w % 2 ^ 8
  if 0x01 ≤ op ∧ op ≤ 0x0A then some [(0, 8)]
  else if op = 0x0B ∨ op = 0x0C ∨ op = 0x0D then some []
  else if (0x10 ≤ op ∧ op ≤ 0x14) ∨ op = 0x1A then some [(1, 7)]
  else if op = 0x15 then some [(8, 6), (1, 7)]
  else if op = 0x16 then some [(2, 6)]
  else if op = 0x17 then
    (if fn / 2 % 4 = 3 then none else if fn / 2 % 4 = 2 then some [(3, 5)] else some [(8, 6), (3, 5)])
  else if op = 0x18 then some [(3, 5)]
  else if op = 0x19 then (if 5 < fn % 8 then none else some [(8, 6), (3, 5)])
  else if op = 0x1B then (if w / 2 ^ 20 % 64 = 0 ∨ w / 2 ^ 20 % 64 = 63 then none else some [(8, 6), (1, 7)])
  else if 0x20 ≤ op ∧ op ≤ 0x24 then some [(8, 6), (1, 7)]
  else if op = 0x25 then some [(22, 4), (14, 4), (1, 7)]
  else if op = 0x26 then some [(14, 8), (1, 7)]
  else if op = 0x27 then some [(22, 4), (14, 4), if fn % 2 = 1 then (2, 6) else (3, 5)]
  else if op = 0x28 ∨ op = 0x29 then some [(14, 8)]
  else if op = 0x30 ∨ op = 0x31 then some []
  else if op = 0x32 ∨ op = 0x33 ∨ op = 0x34 then (if scan then none else some [])
  else if op = 0x35 then some [(14, 6), if scan then (13, 1) else (7, 7)]
  else if op = 0x36 then (if scan then some [(5, 3)] else some [(5, 3), (20, 6)])
  else if op = 0x37 then (if 5 < fn % 8 then none else some [(3, 17)])
  else if 0x38 ≤ op ∧ op ≤ 0x3D then some []
  else if op = 0x3F then some [(0, 26)]
  else if op = 0x2A then (if scan then some [(11, 3)] else none)
  else none

/-- A legal word: a listed opcode with every reserved field 0 (R299, R314). -/
def legalWord (scan : Bool) (w : Nat) : Bool :=
  match reservedFields scan w with
  | none => false
  | some l => l.all fun f => w / 2 ^ f.1 % 2 ^ f.2 = 0

/-! ### Registers (R298) -/

def Ctx.s (c : Ctx) (r : Nat) : Nat := if r = 0 then 0 else Tbl.look 0 c.sreg r
def Ctx.setS (c : Ctx) (r v : Nat) : Ctx := if r = 0 then c else { c with sreg := Tbl.put 0 c.sreg r (v % 2 ^ 64) }
def Ctx.v (c : Ctx) (r : Nat) : Nat := Tbl.look 0 c.vreg r
def Ctx.setV (c : Ctx) (r v : Nat) : Ctx := { c with vreg := Tbl.put 0 c.vreg r (v % 2 ^ 128) }
/-- Flags are sticky (R302). -/
def Ctx.flag (c : Ctx) (f : Nat) : Ctx := { c with flags := c.flags ||| f }

/-- A 32-bit result sign-extended to 64 bits (R301). -/
def sext32 (v : Nat) : Nat := ofSigned 64 (toSigned 32 v)
/-- The operand of a floating-point operation: [31:0] in F32 (R302). -/
def Ctx.f (c : Ctx) (p : Bool) (r : Nat) : Nat := if p then c.s r else c.s r % 2 ^ 32

/-- Lanes of a vector: 4 of F32, or 2 of F64, lane 0 lowest (R298). -/
def lanesOf (p : Bool) (v : Nat) : List Nat :=
  if p then [v % 2 ^ 64, v / 2 ^ 64 % 2 ^ 64]
  else [v % 2 ^ 32, v / 2 ^ 32 % 2 ^ 32, v / 2 ^ 64 % 2 ^ 32, v / 2 ^ 96 % 2 ^ 32]
def packLanes (p : Bool) (l : List Nat) : Nat := l.foldr (fun x a => x + (if p then 2 ^ 64 else 2 ^ 32) * a) 0

/-! ### Units -/

def isScan (u : Nat) : Bool := 64 ≤ u

/-- The context of what a unit executes, if it executes something. -/
def State.unitCtx (s : State) (u : Nat) : Option Ctx :=
  if isScan u then (s.scanOf (u - 64)).cycle.map fun c => c.ctx
  else (s.curEval u).bind fun e => if e.wait = none then some e.ctx else none

/-- The code that a unit executes. -/
def State.unitCode (s : State) (u : Nat) : Bytes :=
  if isScan u then (s.scanOf (u - 64)).prog.code
  else match s.curEval u with
    | some e => (s.inst e.inst).prog.code
    | none => []

/-- The word at a pc inside the code (R299). -/
def wordAt (code : Bytes) (pc : Nat) : Option Nat := if pc + 4 ≤ code.length then some (le pc 4 code) else none

/-- The context written back. -/
def State.setCtx (s : State) (u : Nat) (c : Ctx) : State :=
  if isScan u then
    let x := s.scanOf (u - 64)
    s.setScan (u - 64) { x with cycle := x.cycle.map fun (y : Cycle) => { y with ctx := c } }
  else match s.curEval u with
    | some e => s.putEval u { e with ctx := c }
    | none => s

/-- A program fault of a unit (R309, R439). -/
def State.unitFault (s : State) (u cause : Nat) : State :=
  if isScan u then s.scanFault (u - 64) cause else s.evalFault u cause

/-- Charged cycles have passed what the program declares: STEP_MAX is a fault of a tile (R308); WC is noted once in a
cycle of a scan core (R441). Answers whether the tile faults. -/
def State.overrun (s : State) (u cycles : Nat) : State × Bool :=
  if isScan u then
    let x := s.scanOf (u - 64)
    match x.cycle with
    | none => (s, false)
    | some c =>
      if cycles ≤ x.prog.wc || c.wcOver then (s, false)
      else ((State.setScan s (u - 64) { x with cycle := some { c with wcOver := true } }).wr Reg.prog_WC_OVER (u - 64) 1 |>.count Reg.scn_SCN_WC_EXCEED, false)
  else match s.curEval u with
    | none => (s, false)
    | some e => (s, decide ((s.inst e.inst).prog.stepMax < cycles))

/-- The course of one instruction: its word stands at pc, its cycles are charged (R308), its effect follows with pc on
the next word, or its fault ends the evaluation (R309). -/
def State.runOp (s : State) (u word cost : Nat) (f : State → Ctx → Except Nat (Ctx × State)) : State :=
  match s.unitCtx u with
  | none => s
  | some c =>
    if wordAt (s.unitCode u) c.pc ≠ some word then s
    else
      let c := { c with cycles := c.cycles + cost }
      let (s, limit) := s.overrun u c.cycles
      if limit then s.unitFault u 6
      else match f s { c with pc := c.pc + 4 } with
        | .error cause => s.unitFault u cause
        | .ok (c, s) => s.setCtx u c

/-- An instruction that only changes the context. -/
def State.runCtx (s : State) (u word cost : Nat) (f : Ctx → Ctx) : State :=
  s.runOp u word cost fun s c => .ok (f c, s)

/-- A result of the integer operations: 32 bits, sign-extended (R301). -/
def intResult (rd : Nat) (v : Nat) (c : Ctx) : Ctx := c.setS rd (sext32 v)

/-- A floating-point result with its flags (R302). -/
def fpResult (rd : Nat) (r : Nat × Nat) (c : Ctx) : Ctx := (c.setS rd r.1).flag r.2

/-- The three-operand integer operations. -/
def State.intOp (s : State) (u op rd ra rb : Nat) (f : Nat → Nat → Nat) : State :=
  s.runCtx u (encR op rd ra rb 0) 1 fun c => intResult rd (f (c.s ra % 2 ^ 32) (c.s rb % 2 ^ 32)) c

/-- The floating-point operations of two operands. -/
def State.fpOp (s : State) (u op rd ra rb : Nat) (p : Bool) (c32 c64 : Nat) (f : Fmt → Nat → Nat → Nat × Nat) : State :=
  s.runCtx u (encR op rd ra rb (b2n p)) (if p then c64 else c32) fun c => fpResult rd (f (fmtOf p) (c.f p ra) (c.f p rb)) c

/-- A lane operation over the lanes of va, vb and vd, its flags together. -/
def vecMap (p : Bool) (f : Fmt → Nat → Nat → Nat → Nat × Nat) (a b d : Nat) : Nat × Nat :=
  let r := ((lanesOf p a).zip ((lanesOf p b).zip (lanesOf p d))).map fun x => f (fmtOf p) x.1 x.2.1 x.2.2
  (packLanes p (r.map fun x => x.1), r.foldl (fun m x => m ||| x.2) 0)

/-- The lane operations (R300). -/
def State.vecOp (s : State) (u op vd va vb : Nat) (p : Bool) (c32 c64 : Nat) (f : Nat → Nat → Nat → Nat × Nat) : State :=
  s.runCtx u (encV op vd va vb 0 (b2n p)) (if p then c64 else c32) fun c =>
    let r := f (c.v va) (c.v vb) (c.v vd)
    (c.setV vd r.1).flag r.2

/-- One complex pair of VCMAC (R303): lanes a and b, destination d. -/
def cmacPair (f : Fmt) (are aim bre bim dre dim : Nat) : Nat × Nat × Nat :=
  let neg := fun (x : Nat) => if bit (f.width - 1) x then clearBit (f.width - 1) x else setBit (f.width - 1) x
  let t := f.fma are bre dre
  let re := f.fma (neg aim) bim t.1
  let w := f.fma are bim dim
  let im := f.fma aim bre w.1
  (re.1, im.1, t.2 ||| re.2 ||| w.2 ||| im.2)

/-- VCMAC over all pairs of its lanes. -/
def cmac (p : Bool) (a b d : Nat) : Nat × Nat :=
  let f := fmtOf p
  let A := lanesOf p a
  let B := lanesOf p b
  let D := lanesOf p d
  let g := fun (k : Nat) => cmacPair f (A.getD k 0) (A.getD (k + 1) 0) (B.getD k 0) (B.getD (k + 1) 0) (D.getD k 0) (D.getD (k + 1) 0)
  let ks := if p then [0] else [0, 2]
  (packLanes p (ks.flatMap fun k => [(g k).1, (g k).2.1]), ks.foldl (fun m k => m ||| (g k).2.2) 0)

/-- VSUM (R303). -/
def vsum (p : Bool) (a : Nat) : Nat × Nat :=
  let f := fmtOf p
  let l := lanesOf p a
  let lo := f.add (l.getD 0 0) (l.getD 1 0)
  if p then lo
  else
    let hi := f.add (l.getD 2 0) (l.getD 3 0)
    let r := f.add lo.1 hi.1
    (r.1, lo.2 ||| hi.2 ||| r.2)

/-! ### Instance data (R304) -/

/-- DATA_LEN and the data a unit's loads read: the instance's, or the working half. -/
def State.unitData (s : State) (u : Nat) : Nat × List Host.Cell :=
  if isScan u then
    let x := s.scanOf (u - 64)
    (x.prog.dataLen, match x.cycle with
      | some c => c.work
      | none => [])
  else match s.curEval u with
    | some e => ((s.inst e.inst).dataLen, (s.inst e.inst).data)
    | none => (0, [])

/-- A store of a unit. -/
def State.unitStore (s : State) (u addr : Nat) (b : Bytes) : State :=
  if isScan u then
    let x := s.scanOf (u - 64)
    s.setScan (u - 64) { x with cycle := x.cycle.map fun (y : Cycle) => { y with work := Memory.writeBytes y.work addr b } }
  else match s.curEval u with
    | some e => s.storeData u e addr b
    | none => s

/-- The size that imm14[1:0] selects. -/
def memSize (imm : Nat) : Nat := match imm % 4 with
  | 0 => 4
  | 1 => 8
  | 2 => 2
  | _ => 1

/-- The address s[ra][31:0] + 4 × sext(imm14[13:2]), an exact sum (DEDUCED, log entry 11). -/
def memAddr (c : Ctx) (ra imm : Nat) : Int := (c.s ra % 2 ^ 32 : Nat) + 4 * toSigned 12 (imm / 4)

/-- The checks of an access: MEM_BOUNDS first, then ALIGN (R309). -/
def memCheck (a : Int) (size len : Nat) : Except Nat Nat :=
  if a < 0 || len < a.toNat + size then .error 2
  else if a.toNat % size ≠ 0 then .error 3
  else .ok a.toNat

/-- A loaded value: 32 bits sign-extended, 16 and 8 zero-extended (R304). -/
def loadValue (size : Nat) (b : Bytes) : Nat := if size = 4 then sext32 (ofLe b) else ofLe b

/-! ### Inputs (R305) -/

/-- The quality of LDSS beyond 256 samples, built from the record (R305). -/
def recordQuality (r : Nat) : Nat := (if bit 22 r then 1 else if bit 23 r then 3 else 0) + 4 * b2n (bit 24 r)

/-- The word of a channel input: value, quality and record bits. -/
def chanWord (val qual rec_ : Nat) : Nat := val % 2 ^ 32 + qual % 2 ^ 14 * 2 ^ 32 + rec_ / 2 ^ 16 % 2 ^ 16 * 2 ^ 48

/-- The word that LDIN or LDSS reads for channel slot c at an age, and whether the sample is reckoned without a verdict. -/
def State.channelWord (s : State) (c ta age : Nat) (store : Bool) : Nat × Bool :=
  match s.slotOwner c with
  | none => (0, false)
  | some (k, ch) =>
    let x := s.ringAt k (s.ageZero k ta - age)
    let q := if store && 256 ≤ age then recordQuality x.record else x.quals.getD ch 0
    (chanWord (x.vals.getD ch 0) q x.record, recOpen x.record)

/-- A signal value as LDSG returns it, by its type (R305). -/
def signalWord (vt v : Nat) : Nat :=
  if vt = 1 then b2n (v ≠ 0) else if vt = 4 then sext32 v else if vt = 0x0B then v % 2 ^ 64 else v % 2 ^ 32

/-- The running evaluation notes that it has loaded a reckoned sample or a provisional output (R231). -/
def State.noteReckoned (s : State) (u : Nat) (r : Bool) : State :=
  match s.curEval u with
  | some e => if r then s.putEval u { e with reckoned := true } else s
  | none => s

/-- The declared input n of what a tile executes, of a kind, with its binding. -/
def State.inputOf (s : State) (u n kind : Nat) : Option (Eval × InTpl × Nat) :=
  (s.curEval u).bind fun e => ((s.inst e.inst).inputs[n]?).bind fun tb => if tb.1.kind = kind then some (e, tb.1, tb.2) else none

/-! ### Outputs (R307, R434) -/

/-- A staged value converted to its type. -/
def outValue (kind vt v : Nat) : Nat :=
  if kind = 3 then v % 2 ^ 32 else if vt = 1 then b2n (v % 2 ^ 32 ≠ 0) else if vt = 0x0B then v % 2 ^ 64 else v % 2 ^ 32

/-- Output n of a unit staged: none when the unit has no such output. -/
def State.stage (s : State) (u n v q : Nat) : Option State :=
  if isScan u then
    let x := s.scanOf (u - 64)
    (x.prog.outs[n]?).map fun b =>
      s.setScan (u - 64) { x with cycle := x.cycle.map fun (y : Cycle) => { y with outs := Tbl.ins (outValue b.1 b.2.1 v, q % 2 ^ 16) y.outs n } }
  else (s.curEval u).bind fun e => ((s.inst e.inst).prog.outs[n]?).map fun tpl =>
    s.putEval u { e with outs := Tbl.ins (outValue tpl.kind tpl.vtype v, q % 2 ^ 16) e.outs n }

/-! ### LDTM (R306, R434) -/

/-- The datum of a code for what a unit executes. -/
def State.datum (s : State) (u code : Nat) (c : Ctx) : Nat :=
  if code = 5 then c.flags
  else if isScan u then
    let x := s.scanOf (u - 64)
    let y := x.cycle.getD {}
    match code with
    | 0 => (x.number - 1) % 2 ^ 32
    | 1 => y.tai / unitsSec % 2 ^ 32
    | 2 => y.tai % unitsSec / unitsNs
    | 3 => y.latch / unitsNs % 2 ^ 64
    | _ => x.prog.wc - c.cycles
  else match s.curEval u with
    | none => 0
    | some e =>
      let x := s.inst e.inst
      let f := entRate (s.strm x.trigger).entry
      let ta := s.trigTime x e.n
      match code with
      | 0 => e.a % f
      | 1 => ta / unitsSec % 2 ^ 32
      | 2 => ta % unitsSec / unitsNs
      | 3 => e.n % 2 ^ 32
      | _ => x.prog.stepMax - c.cycles

/-! ### Branches (R300) -/

/-- pc moved by a count of words from the branch itself; the context's pc already stands on the next word. -/
def Ctx.jump (c : Ctx) (words : Int) : Ctx := { c with pc := ofSigned 32 ((c.pc : Int) - 4 + 4 * words) }

/-- A conditional branch. -/
def State.branch (s : State) (u op ra rb off : Nat) (f : Nat → Nat → Bool) : State :=
  s.runCtx u (encI op ra rb off) 1 fun c =>
    if f (c.s ra % 2 ^ 32) (c.s rb % 2 ^ 32) then c.jump (toSigned 14 off) else c

/-- Signed order of two 32-bit operands. -/
def slt (a b : Nat) : Bool := decide (toSigned 32 a < toSigned 32 b)

/-! ### The instructions -/

/-- ADD (R300, R301): rd := ra + rb. -/
def execAdd (u rd ra rb : Nat) (s : State) : Host.Outcome State Fault Refusal :=
  .next (s.intOp u 0x01 rd ra rb fun a b => a + b)

/-- SUB (R300, R301): rd := ra − rb. -/
def execSub (u rd ra rb : Nat) (s : State) : Host.Outcome State Fault Refusal :=
  .next (s.intOp u 0x02 rd ra rb fun a b => a + 2 ^ 32 - b)

/-- MUL (R300, R301): rd := low 32 bits of ra × rb. -/
def execMul (u rd ra rb : Nat) (s : State) : Host.Outcome State Fault Refusal :=
  .next (s.intOp u 0x03 rd ra rb fun a b => a * b)

/-- AND (R300, R301): rd := ra and rb. -/
def execAnd (u rd ra rb : Nat) (s : State) : Host.Outcome State Fault Refusal :=
  .next (s.intOp u 0x04 rd ra rb fun a b => a &&& b)

/-- OR (R300, R301): rd := ra or rb. -/
def execOr (u rd ra rb : Nat) (s : State) : Host.Outcome State Fault Refusal :=
  .next (s.intOp u 0x05 rd ra rb fun a b => a ||| b)

/-- XOR (R300, R301): rd := ra xor rb. -/
def execXor (u rd ra rb : Nat) (s : State) : Host.Outcome State Fault Refusal :=
  .next (s.intOp u 0x06 rd ra rb fun a b => a ^^^ b)

/-- SHL (R300, R301): rd := ra shifted left by rb[4:0]. -/
def execShl (u rd ra rb : Nat) (s : State) : Host.Outcome State Fault Refusal :=
  .next (s.intOp u 0x07 rd ra rb fun a b => a * 2 ^ (b % 32))

/-- SHR (R300, R301): rd := ra shifted right by rb[4:0], logical. -/
def execShr (u rd ra rb : Nat) (s : State) : Host.Outcome State Fault Refusal :=
  .next (s.intOp u 0x08 rd ra rb fun a b => a / 2 ^ (b % 32))

/-- SRA (R300, R301): rd := ra shifted right by rb[4:0], arithmetic. -/
def execSra (u rd ra rb : Nat) (s : State) : Host.Outcome State Fault Refusal :=
  .next (s.intOp u 0x09 rd ra rb fun a b => ofSigned 32 (toSigned 32 a / 2 ^ (b % 32)))

/-- SLT (R300, R301): rd := 1 if ra < rb signed, else 0. -/
def execSlt (u rd ra rb : Nat) (s : State) : Host.Outcome State Fault Refusal :=
  .next (s.intOp u 0x0A rd ra rb fun a b => b2n (slt a b))

/-- ADDI (R300): rd := ra + sext(imm14). -/
def execAddi (u rd ra imm : Nat) (s : State) : Host.Outcome State Fault Refusal :=
  .next (s.runCtx u (encI 0x0B rd ra imm) 1 fun c =>
    intResult rd (ofSigned 32 ((c.s ra % 2 ^ 32 : Nat) + toSigned 14 imm)) c)

/-- ORI (R300): rd := ra or zext(imm14). -/
def execOri (u rd ra imm : Nat) (s : State) : Host.Outcome State Fault Refusal :=
  .next (s.runCtx u (encI 0x0C rd ra imm) 1 fun c => intResult rd (c.s ra % 2 ^ 32 ||| imm) c)

/-- LUI (R300): rd[31:12] := imm20, rd[11:0] := 0. -/
def execLui (u rd imm : Nat) (s : State) : Host.Outcome State Fault Refusal :=
  .next (s.runCtx u (encL 0x0D rd imm) 1 fun c => intResult rd (imm * 2 ^ 12) c)

/-- FADD (R300, R302): rd := ra + rb. -/
def execFadd (u rd ra rb : Nat) (p : Bool) (s : State) : Host.Outcome State Fault Refusal :=
  .next (s.fpOp u 0x10 rd ra rb p 1 2 Fmt.add)

/-- FSUB (R300, R302): rd := ra − rb. -/
def execFsub (u rd ra rb : Nat) (p : Bool) (s : State) : Host.Outcome State Fault Refusal :=
  .next (s.fpOp u 0x11 rd ra rb p 1 2 Fmt.sub)

/-- FMUL (R300, R302): rd := ra × rb. -/
def execFmul (u rd ra rb : Nat) (p : Bool) (s : State) : Host.Outcome State Fault Refusal :=
  .next (s.fpOp u 0x12 rd ra rb p 1 2 Fmt.mul)

/-- FDIV (R300, R302): rd := ra / rb. -/
def execFdiv (u rd ra rb : Nat) (p : Bool) (s : State) : Host.Outcome State Fault Refusal :=
  .next (s.fpOp u 0x13 rd ra rb p 8 16 Fmt.div)

/-- FATAN2 (R300, R302): rd := atan2(ra, rb). -/
def execFatan2 (u rd ra rb : Nat) (p : Bool) (s : State) : Host.Outcome State Fault Refusal :=
  .next (s.fpOp u 0x1A rd ra rb p 16 32 Fmt.atan2)

/-- FMA (R300, R302): rd := ra × rb + rd, one rounding. -/
def execFma (u rd ra rb : Nat) (p : Bool) (s : State) : Host.Outcome State Fault Refusal :=
  .next (s.runCtx u (encR 0x14 rd ra rb (b2n p)) (if p then 2 else 1) fun c =>
    fpResult rd ((fmtOf p).fma (c.f p ra) (c.f p rb) (c.f p rd)) c)

/-- FSQRT (R300, R302): rd := √ra. -/
def execFsqrt (u rd ra : Nat) (p : Bool) (s : State) : Host.Outcome State Fault Refusal :=
  .next (s.runCtx u (encR 0x15 rd ra 0 (b2n p)) (if p then 16 else 8) fun c => fpResult rd ((fmtOf p).sqrt (c.f p ra)) c)

/-- FMINMAX (R300, R302): the smaller or the larger operand, by fn[1]. -/
def execFminmax (u rd ra rb : Nat) (p mx : Bool) (s : State) : Host.Outcome State Fault Refusal :=
  .next (s.runCtx u (encR 0x16 rd ra rb (b2n p + 2 * b2n mx)) (if p then 2 else 1) fun c =>
    fpResult rd ((fmtOf p).minmax mx (c.f p ra) (c.f p rb)) c)

/-- FSGN (R300): |ra|, −ra, or ra with the sign of rb, by fn[2:1]. -/
def execFsgn (u rd ra rb : Nat) (p : Bool) (sel : Nat) (s : State) : Host.Outcome State Fault Refusal :=
  .next (s.runCtx u (encR 0x17 rd ra rb (b2n p + 2 * sel)) (if p then 2 else 1) fun c =>
    fpResult rd ((fmtOf p).sgn sel (c.f p ra) (c.f p rb)) c)

/-- FCMP (R300–R302): EQ, LT, LE or UNORD by fn[2:1]; rd := 1 if true, else 0. -/
def execFcmp (u rd ra rb : Nat) (p : Bool) (sel : Nat) (s : State) : Host.Outcome State Fault Refusal :=
  .next (s.runCtx u (encR 0x18 rd ra rb (b2n p + 2 * sel)) (if p then 2 else 1) fun c =>
    let r := (fmtOf p).cmp sel (c.f p ra) (c.f p rb)
    fpResult rd (b2n r.1, r.2) c)

/-- The conversion of a selector of FCVT (R300–R302). -/
def fcvtOf (sel a : Nat) : Nat × Nat :=
  match sel with
  | 0 => f32.ofI32 (a % 2 ^ 32)
  | 1 => let r := f32.toI32 (a % 2 ^ 32); (sext32 r.1, r.2)
  | 2 => f64.ofI32 (a % 2 ^ 32)
  | 3 => let r := f64.toI32 a; (sext32 r.1, r.2)
  | 4 => f32.convert f64 (a % 2 ^ 32)
  | _ => f64.convert f32 a

/-- FCVT (R300–R302): the conversion of fn[2:0]. -/
def execFcvt (u rd ra sel : Nat) (s : State) : Host.Outcome State Fault Refusal :=
  .next (s.runCtx u (encR 0x19 rd ra 0 sel) (if sel < 2 then 1 else 2) fun c => fpResult rd (fcvtOf sel (c.s ra)) c)

/-- FSINCOS (R300, R302): rd := sin ra, rd+1 := cos ra. -/
def execFsincos (u rd ra : Nat) (p : Bool) (s : State) : Host.Outcome State Fault Refusal :=
  .next (s.runCtx u (encR 0x1B rd ra 0 (b2n p)) (if p then 32 else 16) fun c =>
    let r := (fmtOf p).sincos (c.f p ra)
    ((c.setS rd r.1).setS (rd + 1) r.2.1).flag r.2.2)

/-- VADD (R300, R302): vd := va + vb, per lane. -/
def execVadd (u vd va vb : Nat) (p : Bool) (s : State) : Host.Outcome State Fault Refusal :=
  .next (s.vecOp u 0x20 vd va vb p 1 2 (vecMap p fun f x y _ => f.add x y))

/-- VSUB (R300, R302): vd := va − vb, per lane. -/
def execVsub (u vd va vb : Nat) (p : Bool) (s : State) : Host.Outcome State Fault Refusal :=
  .next (s.vecOp u 0x21 vd va vb p 1 2 (vecMap p fun f x y _ => f.sub x y))

/-- VMUL (R300, R302): vd := va × vb, per lane. -/
def execVmul (u vd va vb : Nat) (p : Bool) (s : State) : Host.Outcome State Fault Refusal :=
  .next (s.vecOp u 0x22 vd va vb p 1 2 (vecMap p fun f x y _ => f.mul x y))

/-- VFMA (R300, R302): vd := va × vb + vd, per lane. -/
def execVfma (u vd va vb : Nat) (p : Bool) (s : State) : Host.Outcome State Fault Refusal :=
  .next (s.vecOp u 0x23 vd va vb p 1 2 (vecMap p fun f x y d => f.fma x y d))

/-- VCMAC (R303): vd := vd + va × vb, as complex pairs. -/
def execVcmac (u vd va vb : Nat) (p : Bool) (s : State) : Host.Outcome State Fault Refusal :=
  .next (s.vecOp u 0x24 vd va vb p 2 4 (cmac p))

/-- VSUM (R303): s[rs] := sum of the lanes of va. -/
def execVsum (u va rs : Nat) (p : Bool) (s : State) : Host.Outcome State Fault Refusal :=
  .next (s.runCtx u (encV 0x25 0 va 0 rs (b2n p)) 2 fun c => fpResult rs (vsum p (c.v va)) c)

/-- VSPLAT (R300): every lane of vd := s[rs]. -/
def execVsplat (u vd rs : Nat) (p : Bool) (s : State) : Host.Outcome State Fault Refusal :=
  .next (s.runCtx u (encV 0x26 vd 0 0 rs (b2n p)) 1 fun c =>
    c.setV vd (packLanes p (List.replicate (if p then 2 else 4) (c.f p rs))))

/-- VEXT (R300): s[rs] := one lane of va. -/
def execVext (u va rs : Nat) (p : Bool) (lane : Nat) (s : State) : Host.Outcome State Fault Refusal :=
  .next (s.runCtx u (encV 0x27 0 va 0 rs (b2n p + 2 * lane)) 1 fun c => c.setS rs ((lanesOf p (c.v va)).getD lane 0))

/-- VLD (R300, R304): vd := 16 bytes at s[rs] + 16 × fn[7:0]. -/
def execVld (u vd rs fn : Nat) (s : State) : Host.Outcome State Fault Refusal :=
  .next (s.runOp u (encV 0x28 vd 0 0 rs fn) 1 fun s c =>
    let (len, data) := s.unitData u
    match memCheck (c.s rs % 2 ^ 32 + 16 * fn : Nat) 16 len with
    | .error e => .error e
    | .ok a => .ok (c.setV vd (ofLe (Memory.readBytes data a 16)), s))

/-- VST (R300, R304): 16 bytes at s[rs] + 16 × fn[7:0] := vd. -/
def execVst (u vd rs fn : Nat) (s : State) : Host.Outcome State Fault Refusal :=
  .next (s.runOp u (encV 0x29 vd 0 0 rs fn) 1 fun s c =>
    match memCheck (c.s rs % 2 ^ 32 + 16 * fn : Nat) 16 (s.unitData u).1 with
    | .error e => .error e
    | .ok a => .ok (c, s.unitStore u a (leBytes 16 (c.v vd))))

/-- A load of instance data meets an error of its memory (R290, R440): 1 corrected, 2 uncorrectable. `word` is its address
in the memory. Answers whether the instruction still completes. -/
def State.loadEcc (s : State) (u ecc word : Nat) : State × Bool :=
  if ecc = 0 then (s, true)
  else if ecc = 1 then
    (if isScan u then s.raise 80 0x0002 (4 * 2 ^ 24 + word % 2 ^ 24) else s.tileCorrected u 1 word, true)
  else if isScan u then (s.scanFault (u - 64) 1, false)
  else match s.curEval u with
    | none => (s, false)
    | some e => (s.tileUncorrected u 1 word (some e.inst), false)

/-- LD (R304): a load from the unit's data. `ecc` and `word` say what its memory gives: 0 a good word, 1 a corrected and 2
an uncorrectable one at a word address (R290, R440). -/
def execLd (u rd ra imm ecc word : Nat) (s : State) : Host.Outcome State Fault Refusal :=
  let access := s.runOp u (encI 0x30 rd ra imm) 1 fun s c =>
    let (len, data) := s.unitData u
    match memCheck (memAddr c ra imm) (memSize imm) len with
    | .error e => .error e
    | .ok a => .ok (c.setS rd (loadValue (memSize imm) (Memory.readBytes data a (memSize imm))), s)
  let ok := match s.unitCtx u with
    | none => false
    | some c => wordAt (s.unitCode u) c.pc = some (encI 0x30 rd ra imm)
        && (memCheck (memAddr c ra imm) (memSize imm) (s.unitData u).1).isOk && !(s.overrun u (c.cycles + 1)).2
  .next (if ecc = 0 || !ok then access
    else if ecc = 1 then (access.loadEcc u 1 word).1
    else (s.loadEcc u 2 word).1)

/-- ST (R304): a store to the unit's data. -/
def execSt (u rd ra imm : Nat) (s : State) : Host.Outcome State Fault Refusal :=
  .next (s.runOp u (encI 0x31 rd ra imm) 1 fun s c =>
    match memCheck (memAddr c ra imm) (memSize imm) (s.unitData u).1 with
    | .error e => .error e
    | .ok a => .ok (c, s.unitStore u a (leBytes (memSize imm) (c.s rd))))

/-- The age of a channel input: s[ra][31:0] + imm14[13:6] (R305). -/
def inputAge (c : Ctx) (ra imm : Nat) : Nat := c.s ra % 2 ^ 32 + imm / 64

/-- LDIN (R305): a raw channel input at an age. -/
def execLdin (u rd ra imm : Nat) (s : State) : Host.Outcome State Fault Refusal :=
  .next (s.runOp u (encI 0x32 rd ra imm) 1 fun s c =>
    match s.inputOf u (imm % 64) 1 with
    | none => .error 4
    | some (e, tpl, b) =>
      if tpl.hist ≤ inputAge c ra imm then .error 4
      else
        let (w, r) := s.channelWord (b % 2 ^ 13) (s.trigTime (s.inst e.inst) e.n) (inputAge c ra imm) false
        .ok (c.setS rd w, s.noteReckoned u r))

/-- LDSS (R305): a store channel input is asked for; the evaluation waits for its data, and a Wide tile executes
another meanwhile (R328). -/
def execLdss (u rd ra imm : Nat) (s : State) : Host.Outcome State Fault Refusal :=
  .next (
    let s' := s.runOp u (encI 0x33 rd ra imm) 4 fun s c =>
      match s.inputOf u (imm % 64) 4 with
      | none => .error 4
      | some (e, tpl, _) =>
        if tpl.maxAge < inputAge c ra imm then .error 4
        else if tpl.hist ≤ Tbl.look 0 e.reads (imm % 64) then .error 5
        else .ok (c, s.putEval u { e with reads := Tbl.upd 0 e.reads (imm % 64) (· + 1), wait := some (rd, imm % 64, inputAge c ra imm) })
    match s'.curEval u with
    | some e => if e.wait.isSome && !s'.deep u then s'.freeTile u else s'
    | none => s')

/-- LDSS_DATA_ARRIVE (R305): the data of the LDSS that evaluation n of instance i waits for arrives on tile u. -/
def execLdssDataArrive (u i n : Nat) (s : State) : Host.Outcome State Fault Refusal :=
  .next (match (s.tile u).eval? i n with
    | none => s
    | some e => match e.wait with
      | none => s
      | some (rd, k, age) =>
        let x := s.inst i
        let b := x.inB.getD k 0
        let (w, r) := s.channelWord (b % 2 ^ 13) (s.trigTime x n) age true
        State.resume (s.putEval u { e with wait := none, ctx := e.ctx.setS rd w, reckoned := e.reckoned || r }) u)

/-- LDFL (R305): a filtered input at an age, with its flags. An age for which the slot keeps no output reads a free value
(log entry 3). -/
def execLdfl (u rd ra imm : Nat) (s : State) : Host.Outcome State Fault Refusal :=
  .next (s.runOp u (encI 0x34 rd ra imm) 1 fun s c =>
    match s.inputOf u (imm % 64) 2 with
    | none => .error 4
    | some (e, tpl, b) =>
      if tpl.hist ≤ inputAge c ra imm then .error 4
      else match (s.filtered (b % 2 ^ 13) (s.trigTime (s.inst e.inst) e.n))[inputAge c ra imm]? with
        | some o => .ok (c.setS rd (o.val % 2 ^ 32 + o.qual % 2 ^ 14 * 2 ^ 32 + o.flags % 16 * 2 ^ 48), s.noteReckoned u (bit 3 o.flags))
        | none =>
          let (lo, s) := s.free (2 ^ 46)
          let (hi, s) := s.free 16
          .ok (c.setS rd (lo + hi * 2 ^ 48), s))

/-- LDSG (R305, R434): the latched value or quality of a signal input. -/
def execLdsg (u rd imm : Nat) (s : State) : Host.Outcome State Fault Refusal :=
  .next (s.runOp u (encI 0x35 rd 0 imm) 2 fun s c =>
    if isScan u then
      let x := s.scanOf (u - 64)
      match x.prog.ins[imm % 2 ^ 12]?, x.cycle with
      | some b, some y =>
        let v := Tbl.look (0, 0) y.image (imm % 2 ^ 12)
        .ok (c.setS rd (if bit 12 imm then v.2 % 2 ^ 16 else signalWord b.2.1 v.1), s)
      | _, _ => .error 4
    else match s.inputOf u (imm % 64) 3 with
      | none => .error 4
      | some (e, tpl, _) =>
        let v := Tbl.look (0, 0) e.sigs (imm % 64)
        .ok (c.setS rd (if bit 6 imm then v.2 % 2 ^ 16 else signalWord tpl.vtype v.1), s))

/-- OUT (R307, R434): stages output fn[4:0], on a scan core rd × 32 + fn[4:0]: value ra, quality rb[15:0]. -/
def execOut (u rd ra rb fn : Nat) (s : State) : Host.Outcome State Fault Refusal :=
  .next (s.runOp u (encR 0x36 rd ra rb fn) 1 fun s c =>
    match s.stage u (rd * 32 + fn) (c.s ra) (c.s rb) with
    | none => .error 7
    | some s => .ok (c, s))

/-- LDTM (R306, R434): rd := evaluation datum fn[2:0]. -/
def execLdtm (u rd fn : Nat) (s : State) : Host.Outcome State Fault Refusal :=
  .next (s.runOp u (encR 0x37 rd 0 0 fn) 1 fun s c => .ok (c.setS rd (s.datum u fn c), s))

/-- BEQ (R300): if ra = rb, pc := pc + 4 × off14. -/
def execBeq (u ra rb off : Nat) (s : State) : Host.Outcome State Fault Refusal :=
  .next (s.branch u 0x38 ra rb off (fun a b => a = b))

/-- BNE (R300): if ra ≠ rb, pc := pc + 4 × off14. -/
def execBne (u ra rb off : Nat) (s : State) : Host.Outcome State Fault Refusal :=
  .next (s.branch u 0x39 ra rb off (fun a b => a ≠ b))

/-- BLT (R300): if ra < rb signed, pc := pc + 4 × off14. -/
def execBlt (u ra rb off : Nat) (s : State) : Host.Outcome State Fault Refusal :=
  .next (s.branch u 0x3A ra rb off slt)

/-- BGE (R300): if ra ≥ rb signed, pc := pc + 4 × off14. -/
def execBge (u ra rb off : Nat) (s : State) : Host.Outcome State Fault Refusal :=
  .next (s.branch u 0x3B ra rb off (fun a b => !slt a b))

/-- JAL (R300): rd := pc + 4; pc := pc + 4 × off20. -/
def execJal (u rd off : Nat) (s : State) : Host.Outcome State Fault Refusal :=
  .next (s.runCtx u (encL 0x3C rd off) 1 fun c => (c.setS rd c.pc).jump (toSigned 20 off))

/-- JALR (R300): rd := pc + 4; pc := (ra + sext(imm14)) with [1:0] cleared. The target is of ra before rd is written. -/
def execJalr (u rd ra imm : Nat) (s : State) : Host.Outcome State Fault Refusal :=
  .next (s.runCtx u (encI 0x3D rd ra imm) 1 fun c =>
    { c.setS rd c.pc with pc := ofSigned 32 ((c.s ra % 2 ^ 32 : Nat) + toSigned 14 imm) / 4 * 4 })

/-- END (R302, R307, R308, R429): ends the evaluation or cycle; its staged outputs pass to the commit gate. -/
def execEndEval (u : Nat) (s : State) : Host.Outcome State Fault Refusal :=
  .next (match s.unitCtx u with
    | none => s
    | some c =>
      if wordAt (s.unitCode u) c.pc ≠ some (0x3F * 2 ^ 26) then s
      else
        let c := { c with cycles := c.cycles + 1 }
        let (s, limit) := s.overrun u c.cycles
        if limit then s.unitFault u 6
        else
          let s := s.setCtx u c
          if isScan u then s.scanCommit (u - 64)
          else match s.curEval u with
            | some e => s.evalEnd u e
            | none => s)

/-- SFB (R434–R437): on a scan core, calls standard function block imm14[10:0]. -/
def execSfb (u rd ra imm : Nat) (s : State) : Host.Outcome State Fault Refusal :=
  .next (if !isScan u then s
    else s.runOp u (encI 0x2A rd ra imm) 4 fun s c =>
      let x := s.scanOf (u - 64)
      match x.prog.sfbs[imm]?, x.cycle with
      | some b, some y =>
        let r := sfbCall b.type (c.s ra) (y.latch / unitsNs) (sfbRead y.work b.off)
        .ok (c.setS rd (sfbResult b.type r), s.setScan (u - 64) { x with cycle := some { y with work := sfbWrite y.work b.off b.type r } })
      | _, _ => .error 1)

/-- ILLEGAL (R309): an illegal word at pc, or a pc outside the code, ends the evaluation or cycle with cause 1. -/
def execIllegal (u : Nat) (s : State) : Host.Outcome State Fault Refusal :=
  .next (match s.unitCtx u with
    | none => s
    | some c => match wordAt (s.unitCode u) c.pc with
      | some w => if legalWord (isScan u) w then s else s.unitFault u 1
      | none => s.unitFault u 1)

end Sys2Proof.Machine
end

