-- ==== Sys2Proof/Machine/AdmCheck.lean ====
section
/-!
DEFINITION. The checks of images before admission: program images, instance sets, migration maps, scan programs and
GOOSE templates, with the clamps each makes (R311–R314, R353, R377, R446, R447, R451).
-/

namespace Sys2Proof.Machine

/-- A clamp of an image field: byte offset, value written, value applied, reason (R53, R314). -/
structure ImgClamp where
  off : Nat
  written : Nat
  applied : Nat
  reason : Nat
  deriving DecidableEq, Repr

/-- The image in a domain: the bytes it holds. -/
def State.image (s : State) (dom : Nat) : Bytes := s.domBytes dom 0 (s.domain dom 0).len

/-- IMG_CRC at `off` agrees with the first `len` bytes, taken with the field as 0 (R311). -/
def crcHolds (b : Bytes) (off len : Nat) : Bool :=
  crc32c (b.take off ++ List.replicate 4 0 ++ slice (off + 4) (len - off - 4) b) = le off 4 b

/-- A value held in a range, with the clamp made (reasons 1 and 2 of R53). -/
def clampTo (off lo hi v : Nat) : Nat × List ImgClamp :=
  if v < lo then (lo, [{ off := off, written := v, applied := lo, reason := 1 }])
  else if hi < v then (hi, [{ off := off, written := v, applied := hi, reason := 2 }]) else (v, [])

/-! ### Code (R314) -/

/-- Code is legal: every word an operation with its unused bits 0, every static branch inside the code. -/
def codeOk (scan : Bool) (code : Bytes) (check : Nat → Bool) : Bool :=
  (List.range (code.length / 4)).all fun i =>
    let w := le (4 * i) 4 code
    let op := w / 2 ^ 26
    let dest : Int := if 0x38 ≤ op ∧ op ≤ 0x3B then 4 * (i : Int) + 4 * toSigned 14 w
      else if op = 0x3C then 4 * (i : Int) + 4 * toSigned 20 w else 0
    legalWord scan w && decide (0 ≤ dest) && decide (dest < (code.length : Int)) && check w

/-! ### Program images (R312) -/

/-- The range of HIST by the kind of an input (R312). -/
def histRange (kind : Nat) : Nat × Nat := match kind with
  | 1 => (1, 256) | 2 => (1, 8) | 4 => (1, 64) | _ => (0, 0)

/-- Value types of signals and members (R14). -/
def sigType (vt : Nat) : Bool := vt = 1 || vt = 4 || vt = 8 || vt = 0x0A || vt = 0x0B

/-- An input template with its clamps, none where KIND or VTYPE is not defined. -/
def readInTpl (b : Bytes) (off : Nat) : Option (InTpl × List ImgClamp) :=
  let kind := le off 1 b
  let vt := le (off + 1) 1 b
  let ok := kind = 3 && sigType vt || (kind = 1 || kind = 2 || kind = 4) && vt = 4
  if !ok then none
  else
    let (h, c1) := clampTo (off + 2) (histRange kind).1 (histRange kind).2 (le (off + 2) 2 b)
    let age := le (off + 4) 4 b
    let c2 : List ImgClamp := if kind ≠ 4 && age ≠ 0 then [{ off := off + 4, written := age, applied := 0, reason := 2 }] else []
    some ({ kind := kind, vtype := vt, hist := h, maxAge := if kind = 4 then age else 0 }, c1 ++ c2)

/-- An output template with its clamps. -/
def readOutTpl (b : Bytes) (off : Nat) : Option (OutTpl × List ImgClamp) :=
  let kind := le off 1 b
  let vt := le (off + 1) 1 b
  let ok := (kind = 1 || kind = 2) && sigType vt || kind = 3 && vt = 8
  let trip := bit 0 (le (off + 2) 1 b)
  let can := vt = 1 || vt = 4 || vt = 8
  if !ok then none
  else some ({ kind := kind, vtype := vt, trip := trip && can, safe := le (off + 4) 4 b % 2 ^ (8 * vtSize vt) },
    if trip && !can then [{ off := off + 2, written := le (off + 2) 1 b, applied := le (off + 2) 1 b - 1, reason := 7 }] else [])

/-- Items read at rising offsets, none when one fails. -/
def readAll {α : Type} (f : Nat → Option (α × List ImgClamp)) (offs : List Nat) : Option (List α × List ImgClamp) :=
  offs.foldr (fun o z => match f o, z with
    | some (a, c), some (as, cs) => some (a :: as, c ++ cs)
    | _, _ => none) (some ([], []))

/-- A program image (R312, R314): the program with its clamps and DATA_MIN, or the reason of its refusal. -/
def readProg (dom : Nat) (b : Bytes) : Except Nat (Prog × Nat × List ImgClamp) :=
  let nIn := le 32 1 b
  let nOut := le 33 1 b
  let codeLen := le 16 4 b
  let tpl := 64 + 8 * nIn + 8 * nOut
  let c := cdiv tpl 64 * 64
  let len := c + codeLen
  let shape := 64 ≤ b.length && slice 0 4 b = [0x46, 0x42, 0x50, 0x31] && le 4 2 b = 1 && 4 ≤ codeLen && codeLen ≤ 65536
    && codeLen % 4 = 0 && nIn ≤ 64 && 1 ≤ nOut && nOut ≤ 32 && len ≤ b.length
  match readAll (readInTpl b) ((List.range nIn).map fun n => 64 + 8 * n),
      readAll (readOutTpl b) ((List.range nOut).map fun n => 64 + 8 * nIn + 8 * n) with
  | some (ins, c1), some (outs, c2) =>
    let code := slice c codeLen b
    let (step, c3) := clampTo 24 1 16777215 (le 24 4 b)
    if !shape then .error adImageFormat
    else if !crcHolds b 60 len then .error adImageCrc
    else if le 6 2 b ≠ 1 then .error adIsaRev
    else if codeLen ≤ le 20 4 b || !codeOk false code (fun _ => true) then .error adImageCode
    else .ok ({ dom := dom, typeId := le 8 4 b, typeVer := le 12 4 b, entry := le 20 4 b, stepMax := step, ins := ins,
                outs := outs, code := code }, le 28 4 b, c3 ++ c1 ++ c2)
  | _, _ => .error adImageFormat

/-! ### Instance sets (R313) -/

/-- A record of an instance set: its offset and fields. -/
structure SetRec where
  off : Nat
  inst : Nat
  prog : Nat
  policy : Nat
  trigger : Nat
  div : Nat
  dataLen : Nat
  deadline : Nat
  nIn : Nat
  nOut : Nat
  typeId : Nat
  inB : List Nat
  outB : List Nat
  init : Bytes
  deriving DecidableEq, Repr

/-- `n` records from an offset, and where the last one ends; the failing instance where one is badly formed. -/
def readRecs (b : Bytes) (total : Nat) : Nat → Nat → List Nat → Except Nat (List SetRec × Nat)
  | 0, off, _ => .ok ([], off)
  | n + 1, off0, seen =>
    let off := cdiv off0 8 * 8
    let nIn := le (off + 14) 1 b
    let nOut := le (off + 15) 1 b
    let dl := le (off + 8) 4 b
    let len := 32 + 4 * nIn + 8 * nOut + dl
    let i := le off 2 b
    if total < off + 32 || le (off + 20) 4 b ≠ len || total < off + len || 511 < i || seen.contains i || 31 < le (off + 2) 1 b then .error i
    else
      let r : SetRec := {
        off := off, inst := i, prog := le (off + 2) 1 b, policy := le (off + 3) 1 b, trigger := le (off + 4) 2 b,
        div := le (off + 6) 2 b, dataLen := dl, deadline := le (off + 12) 2 b, nIn := nIn, nOut := nOut,
        typeId := le (off + 16) 4 b,
        inB := (List.range nIn).map fun k => le (off + 32 + 4 * k) 4 b,
        outB := (List.range nOut).map fun k => le (off + 32 + 4 * nIn + 8 * k) 4 b,
        init := slice (off + 32 + 4 * nIn + 8 * nOut) dl b }
      match readRecs b total n (off + len) (i :: seen) with
      | .ok (rs, e) => .ok (r :: rs, e)
      | .error j => .error j

/-- An instance-set image (R313): its records, or the reason with the failing instance, if it is one record's. -/
def readSet (b : Bytes) : Except (Nat × Option Nat) (List SetRec) :=
  let total := le 8 4 b
  let n := le 6 2 b
  if b.length < 32 || slice 0 4 b ≠ [0x46, 0x42, 0x49, 0x31] || le 4 2 b ≠ 1 || n = 0 || 512 < n || b.length < total || total < 32 then
    .error (adImageFormat, none)
  else match readRecs b total n 32 [] with
    | .error i => .error (adImageFormat, some (i % 512))
    | .ok (rs, e) =>
      if e ≠ total && cdiv e 8 * 8 ≠ total then .error (adImageFormat, none)
      else if !crcHolds b 12 total then .error (adImageCrc, none)
      else .ok rs

/-- The largest divisor of f that is not above d (R314). -/
def divisorBelow (f : Nat) : Nat → Nat
  | 0 => 1
  | d + 1 => if f % (d + 1) = 0 then d + 1 else divisorBelow f d

/-- DIV as it is applied to a trigger stream of rate f. -/
def clampDiv (off f d : Nat) : Nat × List ImgClamp :=
  let v := divisorBelow f (clampN 1 288 d)
  (v, if v = d then [] else [{ off := off, written := d, applied := v, reason := if d = 0 then 1 else if 288 < d then 2 else 7 }])

/-- DATA_LEN as it is applied: a multiple of 8, not below DATA_MIN. -/
def clampData (off least d : Nat) : Nat × List ImgClamp :=
  let up := cdiv d 8 * 8
  let v := max up (cdiv least 8 * 8)
  (v, if v = d then [] else [{ off := off, written := d, applied := v, reason := if d < least then 1 else 7 }])

/-! ### Migration maps (R353, R451) -/

/-- A map of a given magic: TYPE_ID (or PROG_ID), OLD_VER, NEW_VER and its entries of 16 bytes. -/
def readMap (magic : Bytes) (b : Bytes) : Except Nat (Nat × Nat × Nat × List Bytes) :=
  let n := le 6 2 b
  let total := le 8 4 b
  if b.length < 32 || slice 0 4 b ≠ magic || le 4 2 b ≠ 1 || total ≠ 32 + 16 * n || b.length < total then .error adImageFormat
  else if !crcHolds b 12 total then .error adImageCrc
  else .ok (le 16 4 b, le 20 4 b, le 24 4 b, (List.range n).map fun k => slice (32 + 16 * k) 16 b)

/-! ### Scan programs (R446, R447) -/

/-- A binding of a scan program. -/
def readScanBind (b : Bytes) (off : Nat) : Nat × Nat × Nat := (le off 1 b, le (off + 1) 1 b, le (off + 4) 4 b)

/-- Two state records of 32 bytes overlap. -/
def sfbOverlap (sfbs : List SfbEntry) : Bool :=
  (sfbs.zip (List.range sfbs.length)).any fun a => (sfbs.zip (List.range sfbs.length)).any fun b =>
    a.2 ≠ b.2 && a.1.off < b.1.off + 32 && b.1.off < a.1.off + 32

/-- A scan program image (R446, R447): the program with its clamps but that of PERIOD by CT, or the reason. -/
def readScan (dom : Nat) (b : Bytes) : Except Nat (ScanProg × List ImgClamp) :=
  let nIn := le 32 2 b
  let nOut := le 34 2 b
  let nSfb := le 36 2 b
  let codeLen := le 16 4 b
  let dataLen := le 28 4 b
  let o := 64 + 8 * nIn
  let q := o + 8 * nOut
  let c := cdiv (q + 8 * nSfb) 64 * 64
  let len := c + codeLen + dataLen
  let shape := 64 ≤ b.length && slice 0 4 b = [0x53, 0x43, 0x50, 0x31] && le 4 2 b = 1 && 4 ≤ codeLen && codeLen ≤ 65536
    && codeLen % 4 = 0 && 8 ≤ dataLen && dataLen ≤ 32768 && dataLen % 8 = 0 && nIn ≤ 4096 && 1 ≤ nOut && nOut ≤ 2048
    && nSfb ≤ 2048 && len ≤ b.length
  if !shape then .error adImageFormat
  else if !crcHolds b 60 len then .error adImageCrc
  else if le 6 2 b ≠ 1 then .error adIsaRev
  else
    let code := slice c codeLen b
    let static := fun (w : Nat) =>
      let op := w / 2 ^ 26
      !(op = 0x2A && nSfb ≤ w % 2 ^ 11) && !(op = 0x36 && nOut ≤ w / 2 ^ 20 % 64 * 32 + w % 32)
    let sfbs := (List.range nSfb).map fun k => ({ id := le (q + 8 * k) 4 b, type := le (q + 8 * k + 4) 1 b, off := le (q + 8 * k + 6) 2 b } : SfbEntry)
    let ins := (List.range nIn).map fun k => readScanBind b (64 + 8 * k)
    let outs := (List.range nOut).map fun k => readScanBind b (o + 8 * k)
    let bad := (ins.any fun i => i.1 ≠ 1 || !sigType i.2.1) || (outs.any fun i => (i.1 ≠ 1 && i.1 ≠ 2) || !sigType i.2.1)
      || (sfbs.any fun f => f.type = 0 || 8 < f.type || f.off % 8 ≠ 0 || dataLen < f.off + 32)
      || sfbOverlap sfbs || (sfbs.map (·.id)).eraseDups.length ≠ nSfb
    let (wc, c1) := clampTo 24 1 16777215 (le 24 4 b)
    let (ovr, c2) := clampTo 40 200 1000000 (le 40 4 b)
    let p := le 44 4 b
    let p1 := if p = 0 then 0 else min 1000000 (cdiv p 125 * 125)
    let c3 : List ImgClamp := if p1 = p then []
      else [{ off := 44, written := p, applied := p1, reason := if p < 125 then 1 else if 1000000 < p then 2 else 7 }]
    if codeLen ≤ le 20 4 b || !codeOk true code static then .error adImageCode
    else if bad then .error adBinding
    else .ok ({ dom := dom, progId := le 8 4 b, progVer := le 12 4 b, entry := le 20 4 b, wc := wc, dataLen := dataLen,
                ovr := ovr, period := p1, ins := ins, outs := outs, sfbs := sfbs, code := code,
                init := slice (c + codeLen) dataLen b }, c1 ++ c2 ++ c3)

/-! ### GOOSE templates (R376, R377) -/

/-- Value type of a member by its tag and content length: MMS encodings of fixed length; 0 for any other element. -/
def memberType (tag len : Nat) (first : Nat) : Nat :=
  if tag = 0x83 ∧ len = 1 then 1 else if tag = 0x85 ∧ len = 4 then 4 else if tag = 0x86 ∧ len = 5 then 8
  else if tag = 0x87 ∧ len = 5 ∧ first = 8 then 0x0A else if tag = 0x87 ∧ len = 9 ∧ first = 11 then 0x0B else 0

/-- A descriptor agrees with its template: inside it, one-byte tag and length before it, the fixed encoding of its kind. -/
def descOk (t : Bytes) (d : Nat) : Bool :=
  let o := dscOff d
  let n := dscLen d
  let tag := be (o - 2) 1 t
  2 ≤ o && o + n ≤ t.length && be (o - 1) 1 t = n &&
    match dscKind d with
    | 1 => tag = 0x85 && n = 5
    | 2 => tag = 0x86 && n = 5
    | 3 => tag = 0x84 && n = 8
    | 4 => tag = 0x81 && n = 5
    | 5 => !(tag = 0x83 && n ≠ 1) && !(tag = 0x85 && n ≠ 4) && !(tag = 0x86 && n ≠ 5) && !(tag = 0x87 && n ≠ 5 && n ≠ 9)
    | _ => false

/-- Descriptors in rising order without overlap. -/
def descsRise : List Nat → Bool
  | d :: e :: rest => dscOff d + dscLen d ≤ dscOff e && descsRise (e :: rest)
  | _ => true

/-- Offset of the tag of the element after which an element of a BER list follows: the first element with a tag between
`o` and `stop`, its tag's offset. -/
def findTag (t : Bytes) (tag stop : Nat) : Nat → Nat → Option Nat
  | 0, _ => none
  | fuel + 1, o =>
    if stop ≤ o then none
    else if be o 1 t = tag then some o
    else
      let l := be (o + 1) 1 t
      let (h, n) := if l < 0x80 then (2, l) else if l = 0x81 then (3, be (o + 2) 1 t) else (4, be (o + 2) 2 t)
      findTag t tag stop fuel (o + h + n)

/-- Header length of the element at an offset, and its content length. -/
def berHead (t : Bytes) (o : Nat) : Nat × Nat :=
  let l := be (o + 1) 1 t
  if l < 0x80 then (2, l) else if l = 0x81 then (3, be (o + 2) 1 t) else (4, be (o + 2) 2 t)

/-- The length of the element at an offset grown by n in its own form, none when it cannot (R377). -/
def growLen (t : Bytes) (o n : Nat) : Option Bytes :=
  let l := be (o + 1) 1 t
  if l < 0x80 then (if l + n < 0x80 then some (putAt t (o + 1) (beBytes 1 (l + n))) else none)
  else if l = 0x81 then (if be (o + 2) 1 t + n < 256 then some (putAt t (o + 2) (beBytes 1 (be (o + 2) 1 t + n))) else none)
  else if l = 0x82 then (if be (o + 2) 2 t + n < 65536 then some (putAt t (o + 2) (beBytes 2 (be (o + 2) 2 t + n))) else none)
  else none

/-- ClaimNo appended to a command publication's frame: numDatSetEntries + 1 and every enclosing length + 7 (R222, R377). -/
def addClaim (t : Bytes) (claim : Nat) : Option Bytes :=
  let p := (headersOf t).payload
  let pdu := p + 8
  let (h, n) := berHead t pdu
  match findTag t 0x8A (pdu + h + n) 40 (pdu + h), findTag t 0xAB (pdu + h + n) 40 (pdu + h) with
  | some a, some b =>
    let k := be (a + 1) 1 t
    let cnt := be (a + 2) k t + 1
    if be pdu 1 t ≠ 0x61 || k = 0 || 4 < k || 2 ^ (8 * k - 1) ≤ cnt || 65535 < be (p + 2) 2 t + 7 then none
    else
      let t := putAt t (a + 2) (beBytes k cnt)
      let t := putAt t (p + 2) (beBytes 2 (be (p + 2) 2 t + 7))
      ((growLen t pdu 7).bind fun t => growLen t b 7).map fun t => t ++ [0x86, 5] ++ beBytes 5 claim
  | _, _ => none

/-- A staged publication with its template (R376, R377), or none for PUB_TEMPLATE. -/
def readPub (e tpl : Bytes) (ds : List Nat) (claim : Nat) : Option Pub :=
  let n := pubTplLen e
  if pubTransit e then (if tpl.length < 14 then none else some { entry := e, tpl := tpl })
  else if n < 64 || 1514 < n || tpl.length ≠ n || ds.isEmpty || 68 < ds.length || !(ds.all (descOk tpl)) || !descsRise ds
      || [1, 2, 3, 4].any fun k => (ds.filter fun d => dscKind d = k).length ≠ 1 then none
  else if pubCommand e then
    (addClaim tpl claim).bind fun f => if 1514 < f.length then none
      else some { entry := e, tpl := tpl, frame := f, descs := ds ++ [5 * 2 ^ 24 + 5 * 2 ^ 16 + (n + 2)] }
  else some { entry := e, tpl := tpl, frame := tpl, descs := ds }

/-- Value type of member m of a publication; the ClaimNo that admission appends is no member to bind. -/
def Pub.memberVt (p : Pub) (m : Nat) : Option Nat :=
  let ms := p.descs.filter fun d => dscKind d = 5
  let ms := if pubCommand p.entry then ms.dropLast else ms
  ms[m]?.map fun d => memberType (be (dscOff d - 2) 1 p.tpl) (dscLen d) (be (dscOff d) 1 p.tpl)

end Sys2Proof.Machine
end

