-- ==== Sys2Proof/Machine/Samples.lean ====
section
/-!
DEFINITION. The commands of sample ingest, the sample store and the filter chain (chapters 08 and 09, R573).
-/

namespace Sys2Proof.Machine

/-! ### BER (R238) -/

/-- One element: tag, content, rest. Definite lengths in short form, or in long form of one or two bytes. -/
def berNext (b : Bytes) : Option (Nat × Bytes × Bytes) :=
  match b with
  | t :: l :: r =>
    let (len, r) : Nat × Bytes := if l.toNat < 128 then (l.toNat, r)
      else if l.toNat = 0x81 then (be 0 1 r, r.drop 1)
      else if l.toNat = 0x82 then (be 0 2 r, r.drop 2)
      else (r.length + 1, r)
    if r.length < len then none else some (t.toNat, r.take len, r.drop len)
  | _ => none

/-- Every element of a content; `fuel` is at least its number of bytes. -/
def berAll : Nat → Bytes → Option (List (Nat × Bytes))
  | _, [] => some []
  | 0, _ => none
  | fuel + 1, b => match berNext b with
    | none => none
    | some (t, c, r) => (berAll fuel r).map ((t, c) :: ·)

def berList (b : Bytes) : Option (List (Nat × Bytes)) := berAll b.length b

/-- The content of the first element with a tag. -/
def berFind (l : List (Nat × Bytes)) (tag : Nat) : Option Bytes := (l.find? fun e => e.1 = tag).map fun e => e.2

/-- The ASDUs of a savPdu: none when it cannot be parsed or noASDU is not their number (R240). The element tags are
those of IEC 61850-9-2 (PRESUMED, log entry 8). -/
def asdusOf (apdu : Bytes) : Option (List (List (Nat × Bytes))) :=
  match berNext apdu with
  | some (0x60, c, _) =>
    match berList c with
    | some l =>
      match berFind l 0x80, berFind l 0xA2 with
      | some n, some q =>
        match berList q with
        | some es =>
          let as := es.filterMap fun e => if e.1 = 0x30 then berList e.2 else none
          if as.length = es.length && ofBe n = es.length && 1 ≤ es.length && es.length ≤ 8 then some as else none
        | none => none
      | _, _ => none
    | none => none
  | _ => none

/-! ### SV_FRAME_INGEST (R240, R243–R245, R254, R255) -/

/-- FORMAT_ERROR (R265). -/
def State.formatError (s : State) (k cause : Nat) : State := s.raise 50 0x0103 (k + cause * 2 ^ 16)

/-- A real sample has been stored: it counts towards RUNNING, and it is the last real one if no newer is (R253, R256). -/
def State.tookReal (s : State) (k a : Nat) (vals quals : List Nat) : State :=
  let x := s.strm k
  let newer := match x.lastReal with
    | some n => decide (n ≤ a)
    | none => true
  let x := { x with real := x.real + 1, lastRealAt := s.mono }
  let s := s.setStrm k (if newer then { x with lastReal := some a, lastVals := vals, lastQuals := quals } else x)
  if s.raw Reg.str_STATE k = 1 && 2 * entN x.entry ≤ x.real then s.strState k 2 else s

/-- The quality of a channel as it is stored (R255). -/
def storedQual (word : Nat) (localQ tagFail : Bool) : Nat :=
  let q := word % 2 ^ 14
  let q := if q % 4 = 2 then q / 4 * 4 + 1 else q
  let q := if localQ then setBit 9 (toQuest q) else q
  if tagFail then toQuest q else q

/-- A sample whose headers are good is classed and stored, compared or dropped (R245, R254). `t` is the frame's ingress
timestamp in TAI. -/
def State.classSample (s : State) (k smpCnt t arrived : Nat) (synced tagFail : Bool) (chans : List (Nat × Nat)) : State :=
  let e0 := (s.strm k).entry
  let p := entPeriod e0
  let d0 : Int := ((t % unitsSec / unitsNs * unitsNs : Nat) : Int) - (smpCnt * p : Nat)
  let (sec, d) : Nat × Int := if 4500000000 ≤ d0 then (t / unitsSec + 1, d0 - 9000000000)
    else if d0 < -4500000000 then (t / unitsSec - 1, d0 + 9000000000) else (t / unitsSec, d0)
  let a := sec * entRate e0 + smpCnt
  let e := s.entryAt k a
  let w : Int := entWindow e * unitsUs
  let h : Int := w + (entHorizon e * p : Nat)
  let localQ := !synced && entSyncReq e
  let vals := chans.map fun c => c.1
  let quals := chans.map fun c => storedQual c.2 localQ tagFail
  let flags := (if synced then 0 else recSyncLocal) + (if tagFail then recTagfail else 0) + (if w < d then recLate else 0)
  let old := s.sampleOf k a
  let real := match old with
    | some x => recReal x.record
    | none => false
  let gone := match old with
    | some x => bit 19 x.record
    | none => false
  if real then s.count Reg.str_SVI_DUP k
  else if d < -((min 1000 (s.rd Reg.svi_EARLY_TOL) * unitsUs : Nat) : Int) then s.count Reg.str_SVI_EARLY k
  else if h < d || gone then s.count Reg.str_SVI_LATE_DROP k
  else
    let s := s.count Reg.str_SVI_RX k
    let s := if w < d then s.count Reg.str_SVI_LATE k else s
    let s := if s.raw Reg.str_STATE k = 3 then s.startStream k a else s
    let rec_ := fun f => recordOf smpCnt sec f quals
    match old with
    | none => (s.newSample k { a := a, record := rec_ flags, vals := vals, quals := quals, ref := arrived }).tookReal k a vals quals
    | some x =>
      let mags := (((s.strm k).opens.find? fun o => o.a = a).map fun o => o.mag).getD []
      let ok := (List.range vals.length).all fun c =>
        inTolerance (entTolAbs e) (entTolRel e) (mags.getD c 0) (vals.getD c 0) (x.vals.getD c 0)
          && quals.getD c 0 % 4 ≠ 1
      let f := flags + recReckoned + (if ok then recConfirmed else recMismatch)
      let s := s.putSample k { a := a, record := rec_ f, vals := vals, quals := quals, ref := arrived }
      let y := s.strm k
      let s := s.setStrm k { y with opens := y.opens.filter fun o => o.a ≠ a }
      let s := if ok then s.count Reg.str_SVI_CONFIRM k
        else (s.count Reg.str_SVI_MISMATCH k).raise 49 0x0101 (k + smpCnt % 2 ^ 16 * 2 ^ 16)
      (s.tookReal k a vals quals).passVerdict k a (if ok then 1 else 2)

/-- One ASDU of a frame: its checks in the order of R240, then its class. -/
def State.ingestAsdu (s : State) (f : SwFrame) (h : Headers) (as : List (Nat × Bytes)) : State :=
  let ep := (s.net.epochs.find? fun x => x.num = f.epoch).getD s.epoch
  match berFind as 0x80, berFind as 0x82, berFind as 0x83, berFind as 0x85, berFind as 0x87 with
  | some svid, some cnt, some rev, some synch, some seq =>
    if svid.length < 1 || 129 < svid.length then (s.count Reg.svi_SVI_BER_ERR).formatError 0x3FF 1
    else
      let pub := ep.streams.filter fun x =>
        let p := Tbl.look ({} : Peer) ep.peers (entPeer x.2)
        decide (p.kind = 1) && decide (p.mac = h.src) && decide (p.appid = be h.payload 2 f.bytes) && decide (p.reference = svid)
      match pub with
      | [] => s.count Reg.svi_SVI_NOMATCH
      | (k0, _) :: _ =>
        match pub.find? fun x => entConfRev x.2 = ofBe rev with
        | none => (s.count Reg.svi_SVI_CONFREV).formatError k0 5
        | some (k, e) =>
          let pe := entPeer e
          let s := { s with wh := { s.wh with peers := Tbl.upd ({} : Peer) s.wh.peers pe fun (p : Peer) =>
            { p with state := 1, lastSeen := s.tai, frames := p.frames + 1 } } }
          let smpMod := (berFind as 0x88).map ofBe
          let rate := (berFind as 0x86).map ofBe
          if seq.length ≠ 8 * entChannels e then (s.count Reg.str_SVI_FMT_ERR k).formatError k 2
          else if 2 ≤ smpMod.getD 0 || (match rate with
              | none => false
              | some r => r ≠ if smpMod = some 1 then entRate e else entN e) then (s.count Reg.str_SVI_FMT_ERR k).formatError k 3
          else if entRate e ≤ ofBe cnt then (s.count Reg.str_SVI_BAD_SMPCNT k).formatError k 4
          else if !keepsRing e (s.strm k).entry || (s.strm k).gone then s
          else
            let tagFail := f.tagMode = 1 && f.verdict = 3
            let s := if tagFail then s.count Reg.str_SVI_TAGFAIL k else s
            let chans := (List.range (entChannels e)).map fun c => (be (8 * c) 4 seq, be (8 * c + 4) 4 seq)
            s.classSample k (ofBe cnt) (s.taiOf f.arrived) f.arrived (decide (ofBe synch = 2)) tagFail chans
  | _, _, _, _, _ => (s.count Reg.svi_SVI_BER_ERR).formatError 0x3FF 1

/-- SV_FRAME_INGEST (R240, R243): the oldest frame delivered to port 32. -/
def execSvFrameIngest (s : State) : Host.Outcome State Fault Refusal :=
  .next (match s.net.toIngest with
    | [] => s
    | f :: rest =>
      let s := { s with net := { s.net with toIngest := rest } }
      let h := headersOf f.bytes
      if h.etype ≠ 0x88BA then s
      else match asdusOf (f.bytes.drop (h.payload + 8)) with
        | none => (s.count Reg.svi_SVI_BER_ERR).formatError 0x3FF 1
        | some as => as.foldl (fun s a => s.ingestAsdu f h a) s)

/-! ### Checks, declarations, losses -/

/-- RECKON_CHECK (R248): the next sample of stream k, at its nominal time plus W plus SW_RES. -/
def execReckonCheck (k : Nat) (s : State) : Host.Outcome State Fault Refusal :=
  .next (if !s.live k then s
    else
      let x := s.strm k
      let e := s.entryAt k x.next
      let s := s.advance (s.monoOf (x.next * entPeriod e + entWindow e * unitsUs + entSwRes e * unitsNs))
      State.reckon (s.setStrm k { x with next := x.next + 1 }) k x.next)

/-- SUBSTITUTE_DECLARE (R249): the oldest open sample of stream k reaches the end of its horizon. -/
def execSubstituteDeclare (k : Nat) (s : State) : Host.Outcome State Fault Refusal :=
  .next (match (s.strm k).opens with
    | [] => s
    | o :: _ => (s.advance (s.monoOf o.declare)).declare k o.a)

/-- STREAM_LOST_TIMEOUT (R256): LOST_MS without a real sample. -/
def execStreamLostTimeout (k : Nat) (s : State) : Host.Outcome State Fault Refusal :=
  .next (if !s.live k || s.raw Reg.str_STATE k = 3 then s
    else
      let x := s.strm k
      let s := s.advance (x.lastRealAt + s.rd Reg.svi_LOST_MS * unitsMs)
      let s := { s with wh := { s.wh with peers := Tbl.upd ({} : Peer) s.wh.peers (entPeer x.entry) fun (p : Peer) =>
        { p with state := 2 } } }
      s.strState k 3)

/-! ### Errors of the sample store (R573) -/

/-- The values, details or record of sample `a` are struck at a word of DRAM (R260, R573): the sample is rewritten. -/
def State.strikeSample (s : State) (k a word : Nat) : State :=
    let s := (s.count Reg.svi_SVI_STORE_ECC).raise 51 0x0003 (6 * 2 ^ 24 + word % 2 ^ 24)
    match s.sampleOf k a with
    | none => s
    | some x =>
      let e := (s.strm k).entry
      let n := entChannels e
      let quals := List.replicate n (qualNorec 0)
      let r := recordOf (a % entRate e) (a / entRate e) (recSubst + recNorec) quals
      let s := s.putSample k { a := a, record := r, vals := List.replicate n 0, quals := quals, ref := s.mono }
      let s := { s with sv := { s.sv with struck := s.sv.struck ++ [(k, a)] } }
      let y := s.strm k
      let s := s.setStrm k { y with opens := y.opens.filter fun o => o.a ≠ a }
      let s := if recOpen x.record then s.passVerdict k a 3 else s.filterAgain k a
      s.recoveryRecord 2 1 0x3F 0x3F 0xFFFF k a a 0 s.tai

/-- SAMPLE_STORE_ECC (R260, R573). -/
def execSampleStoreEcc (k a word : Nat) (s : State) : Host.Outcome State Fault Refusal := .next (s.strikeSample k a word)

/-! ### The aperture (R258, R261, R262) -/

def roundUp64 (n : Nat) : Nat := cdiv n 64 * 64

/-- Starts of the values and details, and the size, of the ring of an entry (R258). -/
def ringV (e : Bytes) : Nat := roundUp64 (4 * entDepth e)
def ringQ (e : Bytes) : Nat := roundUp64 (ringV e + 4 * entChannels e * entDepth e)
def ringSize (e : Bytes) : Nat := ringQ e + 512 * entChannels e

/-- One byte of the ring of stream k. -/
def State.ringByte (s : State) (k o : Nat) : Byte :=
  let e := (s.strm k).entry
  let n := entChannels e
  let smp := fun i => Tbl.look ({} : Sample) s.sv.store (storeKey k i)
  let of := fun (w b : Nat) => BitVec.ofNat 8 (w / 2 ^ (8 * b))
  if o < 4 * entDepth e then of (smp (o / 4)).record (o % 4)
  else if o < ringV e then 0
  else if o < ringV e + 4 * n * entDepth e then
    let j := (o - ringV e) / 4
    of ((smp (j / n)).vals.getD (j % n) 0) ((o - ringV e) % 4)
  else if o < ringQ e then 0
  else
    let j := (o - ringQ e) / 2
    of ((Tbl.look [] s.sv.details (k * 256 + j % 256)).getD (j / 256) 0) ((o - ringQ e) % 2)

/-- APERTURE_READ (R261): a read of BAR4 at `off`, its data shown at address 0x2000000 + off. -/
def execApertureRead (link off size : Nat) (s : State) : Host.Outcome State Fault Refusal :=
  .next (if !s.linkUp link then s
    else
      let okSize := (size = 4 || size = 8 || size = 16 || size = 32 || size = 64 || size = 128 || size = 256)
        && off % size = 0
      if !okSize then
        (s.badAccess { link := link, bar := 4, off := off, size := size }).emit (.readData link (0x2000000 + off) 0)
      else
        let sl := off / 0x80000
        let p := off / 0x10000 % 8
        let k := s.raw Reg.apt_APT_STREAM (sl * 8 + p)
        let o := s.raw Reg.apt_APT_PAGE (sl * 8 + p) * 65536 + off % 0x10000
        if s.bound sl && s.sliceLink sl = link && s.flag Reg.apt_APT_EN (sl * 8 + p) && s.granted sl 1 k 0 && s.live k
            && o + size ≤ ringSize (s.strm k).entry then
          s.emit (.readData link (0x2000000 + off) (ofLe ((List.range size).map fun b => s.ringByte k (o + b))))
        else
          ((s.count Reg.svi_SVI_APT_DENY).raise 51 0x0104 (sl * 2 ^ 24 + p)).emit (.readData link (0x2000000 + off) 0))

/-! ### Filter chains (R271, R279, R280) -/

/-- An admitted instance declares the slot as an input (R280). -/
def State.slotRead (s : State) (c : Nat) : Bool :=
  s.tor.insts.any fun i => (i.2.prog.ins.zip i.2.inB).any fun tb => tb.1.kind ≠ 3 && tb.2 % 8192 = c

/-- FILTER_CHAIN_WRITE (R280, R282). -/
def execFilterChainWrite (c s1 s2 : Nat) (s : State) : Host.Outcome State Fault Refusal :=
  .next (if s.slotRead c then s.count Reg.flt_FLT_CFG_HELD
    else
      let info := 0x390000 + 8 * c
      let s := if s1 < 8 then s.buffer Reg.slot_S1_SEL c s1 info else s
      if s2 < 8 then s.buffer Reg.slot_S2_SEL c s2 info else s)

/-- The slots with a write of their chain in the shadow that a boundary applies: those of stream `k`, or those that no
stream owns. -/
def State.chainDue (s : State) (k : Option Nat) : List Nat :=
  if s.held Reg.slot_S1_SEL.blk then []
  else ((s.hif.shadow.filterMap fun b =>
      if decide (b.bnd = .sample) && b.blk = Reg.slot_S1_SEL.blk then some b.owner else none).eraseDups).filter fun c =>
    (s.slotOwner c).map (fun kc => kc.1) = k

/-- The Sample-boundary writes of some slots apply, and their chains with them (R93, R94, R279). -/
def State.applyChains (s : State) (cs : List Nat) (a : Nat) : State :=
  let s := s.applyBoundary fun b => decide (b.bnd = .sample) && cs.contains b.owner
  cs.foldl (fun s c => s.chainApply c a) s

/-- SAMPLE_BOUNDARY (R93): the next nominal sample time of stream k passes. -/
def execSampleBoundary (k : Nat) (s : State) : Host.Outcome State Fault Refusal :=
  .next (if !s.live k then s
    else
      let x := s.strm k
      let p := entPeriod x.entry
      let n := max (x.bound + 1) (s.tai / p)
      let s := State.advance (s.setStrm k { x with bound := n }) (s.monoOf (n * p))
      s.applyChains (s.chainDue (some k)) n)

/-! ### A step of Sextant time (R140, R256) -/

/-- One stream at a step of Sextant time from `t0` to `t1`; the next pricking frame starts at `g`. Samples due before the
step and not yet checked are lost. After a step back the numbers from `t1` on are free again, and the samples open there
are declared. The stream enters STARTING, and the samples of the gap up to `g` are stored as substituted (R140, R256). -/
def State.streamStep (s : State) (k t0 t1 g : Nat) : State :=
  let p := entPeriod (s.strm k).entry
  let lose := fun (s : State) (a n : Nat) => (List.range n).foldl (fun (s : State) i =>
    match s.sampleOf k (a + i) with
    | some _ => s
    | none => s.storeNorec k (a + i)) s
  let a1 := cdiv t1 p
  let s := lose s (s.strm k).next (cdiv t0 p - (s.strm k).next)
  let s := if t1 < t0 then
      let s := (s.strm k).opens.foldl (fun (s : State) o => s.declare k o.a) s
      { s with sv := { s.sv with store := s.sv.store.filter fun c => c.1 / 2 ^ 18 ≠ k || c.2.a < a1 } }
    else
      let x := s.strm k
      s.setStrm k { x with opens := x.opens.map fun (o : OpenSample) => { o with declare := o.declare + (t1 - t0) } }
  let x := s.strm k
  let s := State.startStream (s.setStrm k { x with next := cdiv g p, front := a1, bound := 0, prev := [] }) k a1
  lose s a1 (cdiv g p - a1)

/-- A step of Sextant time at every admitted stream. -/
def State.streamsStep (s : State) (t0 t1 g : Nat) : State :=
  ((s.sv.streams.filter fun e => !e.2.now.isEmpty).map (·.1)).foldl (fun (s : State) k => s.streamStep k t0 t1 g) s

end Sys2Proof.Machine
end

