-- ==== Sys2Proof/Machine/Admission.lean ====
section
/-!
DEFINITION. Requests to the admission unit: how each kind is computed against the admitted work, when it applies, and what
its application changes (chapter 12; R239–R242, R257, R280, R292–R294, R314, R347, R381, R446, R447 as they are checked
here).
-/

namespace Sys2Proof.Machine

/-- What an admitted request changes, with the clamps it makes: object, written, applied, reason; and the domains it
consumes (R79). -/
structure AdmResult where
  plan : AdmPlan
  view : AdmView
  clamps : List (Nat × Nat × Nat × Nat) := []
  doms : List Nat := []
  /-- the instances that are new in the request, and its other new items -/
  new : List Nat := []
  others : List Nat := []
  deriving Repr

/-- Clamps of an image as the clamp report has them (R314). -/
def imgClamps (dom : Nat) (cs : List ImgClamp) : List (Nat × Nat × Nat × Nat) :=
  cs.map fun c => (dom * 256, c.off * 2 ^ 32 + c.written, c.applied, c.reason)

/-! ### Streams (KIND 1: R239, R241, R242, R257, R380) -/

/-- A staged entry with its fields clamped and the admission unit's fields cleared, and the clamps: written value, applied
value, reason (R241). -/
def clampStream (e : Bytes) : Bytes × List (Nat × Nat × Nat) :=
  let w := entFlags e
  let c := bits 12 8 w
  let h := bits 15 13 w
  let win := le 8 2 e
  let o := le 14 1 e
  let w' := w % 2 ^ 8 + entChannels e * 2 ^ 8 + entHorizon e * 2 ^ 13
  (e.take 2 ++ leBytes 2 w' ++ slice 4 4 e ++ leBytes 2 (entWindow e) ++ slice 10 4 e ++ leBytes 1 (entOwner e) ++ List.replicate 17 0,
   (if c = 0 then [(0, 1, 1)] else if 24 < c then [(c, 24, 2)] else []) ++ (if h = 7 then [(7, 6, 2)] else [])
     ++ (if win < 40 then [(win, 40, 1)] else if 400 < win then [(win, 400, 2)] else [])
     ++ (if 128 ≤ o && o < 255 then [(o, 255, 2)] else []))

/-- Two entries name the same ring: all that the Engineer writes to it agrees (R257). -/
def sameRing (e f : Bytes) : Bool :=
  entPeer e = entPeer f && entRate e = entRate f && entFnom e = entFnom f && entAsdus e = entAsdus f
    && entChannels e = entChannels f && entConfRev e = entConfRev f

/-- A rate and frequency that go together (R239). -/
def rateOk (e : Bytes) : Bool := (bits 1 0 (entFlags e) = 1 || bits 1 0 (entFlags e) = 3) || !bit 2 (entFlags e)

/-- The first place for n units among used ranges (start, end), within a limit. -/
def firstFit (used : List (Nat × Nat)) (n limit : Nat) : Option Nat :=
  let z := (sortBy (fun a b => decide (a.1 ≤ b.1)) used).foldl (fun (z : Nat × Bool) r =>
    if z.2 then z else if z.1 + n ≤ r.1 then (z.1, true) else (max z.1 r.2, false)) (0, false)
  if z.2 || z.1 + n ≤ limit then some z.1 else none

/-- The entries that are charged, each ring once (R242, R257). -/
def AdmView.rings (v : AdmView) : List (Nat × Bytes) :=
  v.charged.foldl (fun l e => if l.any fun x => x.1 = e.1 && keepsRing x.2 e.2 then l else l ++ [e]) []

/-- An admitted instance or its exchange reads or follows stream k. -/
def AdmView.bindsStream (v : AdmView) (k : Nat) : Bool :=
  (v.insts ++ v.extra).any fun e => !e.2.leaving && (v.inputsOf e.2).any fun i => i.2 = k

/-- Entry k of the stream table becomes `e`, [] none. -/
def AdmView.stream (v : AdmView) (k : Nat) (e : Bytes) : Except AdmRefusal AdmView :=
  let old := Tbl.look [] v.streams k
  let keeps := !old.isEmpty && !e.isEmpty && sameRing old e
  let no := fun r => Except.error ({ reason := r, item := k } : AdmRefusal)
  if !old.isEmpty && !keeps && v.bindsStream k then no adInUse
  else if e.isEmpty then .ok { v with streams := Tbl.drop v.streams k }
  else if !rateOk e then no adRateFreq
  else
    let rings := v.rings
    let cs := rings.map (·.2)
    let rest := v.streams.filter fun x => x.1 ≠ k
    let peer := (Tbl.look ({} : Peer) v.peers (entPeer e)).kind
    let dup := rest.any fun x => entPeer x.2 = entPeer e && entConfRev x.2 = entConfRev e
    if keeps then
      if peer ≠ 1 then no adPeerKind else if dup then no adDuplicateStream
      else .ok { v with streams := Tbl.ins (putLe (putLe e 16 2 (entSlotBase old)) 20 4 (entRing old)) v.streams k }
    else if 4915200 < (cs.map entRate).sum + entRate e then no adAsduBudget
    else if 39321600 < (cs.map fun c => entRate c * entChannels c).sum + entRate e * entChannels e then no adChsampleBudget
    else if 8192 < (cs.map entChannels).sum + entChannels e then no adSlotBudget
    else if peer ≠ 1 then no adPeerKind
    else if dup then no adDuplicateStream
    else match firstFit (cs.map fun c => (entSlotBase c, entSlotBase c + entChannels c)) (entChannels e) 8192,
        firstFit (cs.map fun c => (entRing c, entRing c + cdiv (ringSize c) 64)) (cdiv (ringSize e) 64) (2 ^ 31 / 64) with
      | some b, some r =>
        let e := putLe (putLe e 16 2 b) 20 4 r
        .ok { v with streams := Tbl.ins e v.streams k, charged := v.charged ++ [(k, e)] }
      | none, _ => no adSlotBudget
      | _, none => no adChsampleBudget

/-- Entries of a table that differ between two versions; [] where one is gone. -/
def tableDiff (old new : Tbl Bytes) : List (Nat × Bytes) :=
  ((old.map (·.1) ++ new.map (·.1)).eraseDups).filterMap fun k =>
    if Tbl.look [] old k = Tbl.look [] new k then none else some (k, Tbl.look [] new k)

/-- KIND 1: the changed entries of the staged stream table, removals first. -/
def State.admStreams (s : State) (v : AdmView) (p : AdmPlan) : Except AdmRefusal AdmResult :=
  let staged := (List.range 1024).map fun k => (k, clampStream (s.domBytes 0x040300 (32 * k) 32))
  let changed := staged.filter fun e =>
    let old := Tbl.look [] v.streams e.1
    if entValid e.2.1 then old.take 15 ≠ e.2.1.take 15 else !old.isEmpty
  let order := (changed.filter fun e => !entValid e.2.1) ++ changed.filter fun e => entValid e.2.1
  (order.foldl (fun (z : Except AdmRefusal AdmView) e => z.bind fun (w : AdmView) => w.stream e.1 (if entValid e.2.1 then e.2.1 else []))
    (Except.ok v)).map fun w =>
    let w := w.settled s
    { plan := { p with items := changed.length, streams := tableDiff v.streams w.streams }, view := w,
      clamps := (changed.filter fun e => entValid e.2.1).flatMap fun e =>
        e.2.2.map fun c => (0x04030000, e.1 * 2 ^ 32 + c.1, c.2.1, c.2.2),
      doms := [0x040300], others := changed.map (·.1) }

/-! ### Publications (KIND 3: R376–R379) -/

/-- A staged publication entry with its fields clamped. -/
def clampPub (e : Bytes) : Bytes × List (Nat × Nat × Nat) :=
  let o := le 6 1 e
  let a := le 14 2 e
  let b := le 16 2 e
  let rg : Nat → Nat → Nat → List (Nat × Nat × Nat) := fun v lo hi => if v < lo then [(v, lo, 1)] else if hi < v then [(v, hi, 2)] else []
  let a' := if pubTransit e then a else pubTMin e
  (e.take 6 ++ leBytes 1 (pubOwner e) ++ slice 7 7 e ++ leBytes 2 a' ++ leBytes 2 (pubTMax e) ++ slice 18 1 e ++ List.replicate 13 0,
   (if 128 ≤ o && o < 255 then [(o, 255, 2)] else []) ++ (if pubTransit e then [] else rg a 1 100) ++ rg b 100 60000)

/-- An admitted instance or scan program writes publication g. -/
def AdmView.bindsPub (v : AdmView) (g : Nat) : Bool :=
  ((v.insts ++ v.extra).any fun e => !e.2.leaving && (e.2.prog.outs.zip e.2.outB).any fun tb => tb.1.kind = 2 && tb.2 % 2 ^ 12 = g)
    || v.scan.any fun e => e.2.outs.any fun o => o.1 = 2 && o.2.2 % 2 ^ 12 = g

/-- KIND 3: the changed entries of the staged publication table, removals first. -/
def State.admPubs (s : State) (v : AdmView) (p : AdmPlan) : Except AdmRefusal AdmResult :=
  let staged := (List.range 4096).map fun g =>
    let (e, cs) := clampPub (s.domBytes 0x040500 (32 * g) 32)
    let tpl := s.domBytes 0x040501 (le 0 4 e) (pubTplLen e)
    let ds := (List.range (pubNDesc e)).map fun k => le 0 4 (s.domBytes 0x040501 (le 0 4 e + pubTplLen e + 4 * k) 4)
    (g, e, cs, if bit 0 (pubFlags e) then readPub e tpl ds (s.raw Reg.unit_RED_CLAIM_OWN) else none)
  let changed := staged.filter fun x =>
    let old := (v.pubs.find? fun y => y.1 = x.1).map (·.2)
    if bit 0 (pubFlags x.2.1) then match x.2.2.2, old with
      | some a, some b => a.entry ≠ b.entry || a.tpl ≠ b.tpl || a.descs ≠ b.descs
      | _, _ => true
    else old.isSome
  let order := (changed.filter fun x => !bit 0 (pubFlags x.2.1)) ++ changed.filter fun x => bit 0 (pubFlags x.2.1)
  (order.foldl (fun (z : Except AdmRefusal AdmView) x => z.bind fun (w : AdmView) =>
    let no := fun r => Except.error ({ reason := r, item := x.1 } : AdmRefusal)
    if (w.pubs.any fun y => y.1 = x.1) && w.bindsPub x.1 then no adInUse
    else if !bit 0 (pubFlags x.2.1) then .ok { w with pubs := Tbl.drop w.pubs x.1 }
    else match x.2.2.2 with
      | none => no adPubTemplate
      | some b =>
        if s.admEgressOf b.entry = [] then no adNoEgress
        else
          let w := { w with pubs := Tbl.ins b w.pubs x.1 }
          (w.shared s [x.1]).map fun _ => w) (Except.ok v)).map fun w =>
    { plan := { p with items := changed.length, pubs := changed.map fun x => (x.1, if bit 0 (pubFlags x.2.1) then x.2.2.2 else none) },
      view := w,
      clamps := (changed.filter fun x => bit 0 (pubFlags x.2.1)).flatMap fun x =>
        x.2.2.1.map fun c => (0x04050000, x.1 * 2 ^ 32 + c.1, c.2.1, c.2.2),
      doms := [0x040500, 0x040501], others := changed.map (·.1) }

/-! ### Instance sets (KIND 2: R292, R294, R311–R315, R367–R375, R400) -/

/-- Value type of a signal slot once the work is admitted: its writer's, or the type it has. -/
def AdmView.slotType (s : State) (v : AdmView) (own : List (Nat × Nat)) (n : Nat) : Nat :=
  match own.find? fun o => o.1 = n with
  | some o => o.2
  | none =>
    match v.insts.findSome? fun e => if e.2.leaving then none else
        ((e.2.prog.outs.zip e.2.outB).find? fun tb => tb.1.kind = 1 && tb.2 % 2 ^ 18 = n).map (·.1.vtype) with
    | some t => t
    | none => match v.scan.findSome? fun e => (e.2.outs.find? fun o => o.1 = 1 && o.2.2 % 2 ^ 18 = n).map (·.2.1) with
      | some t => t
      | none => (s.signal n).vtype

/-- An admitted instance or program writes a slot (R294). -/
def AdmView.hasWriter (v : AdmView) (n : Nat) : Bool :=
  (v.insts.any fun e => !e.2.leaving && (e.2.prog.outs.zip e.2.outB).any fun tb => tb.1.kind = 1 && tb.2 % 2 ^ 18 = n)
    || v.scan.any fun e => e.2.slots.contains n

/-- A GOOSE member may be bound with a value type. -/
def AdmView.memberOk (v : AdmView) (target vt : Nat) : Bool :=
  match v.pubs.find? fun y => y.1 = target % 2 ^ 12 with
  | none => false
  | some y => !pubTransit y.2.entry && y.2.memberVt (target / 2 ^ 16 % 2 ^ 8) = some vt

/-- Signal slots that a program writes through some bindings, with their value types. -/
def slotsOf (outs : List OutTpl) (bs : List Nat) : List (Nat × Nat) :=
  (outs.zip bs).filterMap fun tb => if tb.1.kind = 1 then some (tb.2 % 2 ^ 18, tb.1.vtype) else none

/-- A record bound: the instance it makes with the clamps of its record and its program's templates (R313, R314, R375).
`own` are the slots its set writes, `before` those that earlier records of it write. -/
def State.bindRec (s : State) (v : AdmView) (sl e : Nat) (own before : List (Nat × Nat)) (r : SetRec) (pr : Prog) (least : Nat) :
    Except Nat (Inst × List ImgClamp × List ImgClamp) :=
  let tr := Tbl.look [] v.streams r.trigger
  let (div, c1) := clampDiv (r.off + 6) (entRate tr) r.div
  let (dl, c2) := clampData (r.off + 8) least r.dataLen
  let (dead, c3) := clampTo (r.off + 12) 38 65535 r.deadline
  let lim := s.classLimit pr
  let c4 : List ImgClamp := if lim < dead * 1000 then [{ off := r.off + 12, written := dead, applied := lim / 1000, reason := 7 }] else []
  let c5 : List ImgClamp := if r.policy % 4 = 3 then [{ off := r.off + 3, written := r.policy, applied := r.policy - 1, reason := 2 }] else []
  let ins := (pr.ins.zip r.inB).zip (List.range 64)
  let ages := ins.map fun tbn =>
    let t := tbn.1.1
    let top := 11 * entRate (Tbl.look [] v.streams ((v.owner (tbn.1.2 % 2 ^ 13)).getD 1024))
    if t.kind = 4 && top < t.maxAge then
      ({ t with maxAge := top }, ([{ off := 64 + 8 * tbn.2 + 4, written := t.maxAge, applied := top, reason := 2 }] : List ImgClamp))
    else (t, [])
  let badIn : Option Nat := ins.findSome? fun tbn =>
    let t := tbn.1.1
    let b := tbn.1.2
    if t.kind = 3 then
      if v.slotType s own (b % 2 ^ 18) ≠ t.vtype then some adBinding
      else if !s.granted sl 2 (b % 2 ^ 18) 0 then some adNoGrant else none
    else match v.owner (b % 2 ^ 13) with
      | none => some adBinding
      | some k => if s.granted sl 1 k 0 then none else some adNoGrant
  let badOut : Option Nat := (pr.outs.zip r.outB).findSome? fun tb =>
    if tb.1.kind = 1 then
      let n := tb.2 % 2 ^ 18
      if !s.granted sl 2 n 1 then some adNoGrant
      else if v.hasWriter n || before.any fun o => o.1 = n then some adWriterConflict else none
    else if tb.1.kind = 2 && !v.memberOk tb.2 tb.1.vtype then some adBinding else none
  let twice := ((slotsOf pr.outs r.outB).map (·.1)).eraseDups.length ≠ (slotsOf pr.outs r.outB).length
  if r.typeId ≠ pr.typeId || r.nIn ≠ pr.ins.length || r.nOut ≠ pr.outs.length then .error adTypeIdMismatch
  else if tr.isEmpty then .error adBinding
  else if !s.granted sl 1 r.trigger 0 then .error adNoGrant
  else match badIn, badOut with
    | some x, _ => .error x
    | _, some x => .error x
    | none, none =>
      if twice then .error adWriterConflict
      else .ok ({ prog := { pr with ins := ages.map (·.1) }, set := e, policy := min 2 (r.policy % 4), test := bit 2 r.policy,
                  trigger := r.trigger, div := div, dataLen := dl, deadline := dead, inB := r.inB, outB := r.outB,
                  init := padTo dl r.init, bPub := min (dead * 1000) lim, host := s.rd Reg.adm_HOST_PATH_NS },
                c1 ++ c2 ++ c3 ++ c4 ++ c5, (ages.map (·.2)).flatten)

/-- The programs of some records by domain, or the refusal with the first record that names a bad one (R314). -/
def State.setProgs (s : State) (sl : Nat) (rs : List SetRec) : Except AdmRefusal (List (Nat × Prog × Nat × List ImgClamp)) :=
  rs.foldl (fun z r => z.bind fun ps =>
    if ps.any fun p => p.1 = r.prog then .ok ps
    else match readProg r.prog (s.image (sliceDom sl r.prog)) with
      | .ok p => .ok (ps ++ [(r.prog, p)])
      | .error x => .error { reason := x, item := sl * 512 + r.inst }) (.ok [])

/-- An instance set checked, bound, placed and bounded: the instances with their places, clamps and domains. -/
def State.admSet (s : State) (v : AdmView) (sl e : Nat) (deep : Bool) : Except AdmRefusal (AdmView × List Nat × List (Nat × Nat × Nat × Nat) × List Nat) := do
  let dom := sliceDom sl (32 + e)
  let rs ← match readSet (s.image dom) with
    | .ok rs => Except.ok rs
    | .error (x, i) => Except.error { reason := x, item := match i with
      | some n => sl * 512 + n
      | none => 0 }
  let ps ← s.setProgs sl rs
  let prog := fun (r : SetRec) => ((ps.find? fun p => p.1 = r.prog).map (·.2)).getD ({}, 0, [])
  let own := rs.flatMap fun r => slotsOf (prog r).1.outs r.outB
  let clash := rs.find? fun r => (v.insts ++ v.extra).any fun x => x.1 = sl * 512 + r.inst && (x.2.leaving || v.insts.any fun y => y.1 = x.1)
  match clash with
  | some r => Except.error { reason := adBinding, item := sl * 512 + r.inst }
  | none =>
    if 8192 < v.insts.length + rs.length then Except.error { reason := adTorCapacity, item := sl * 512 + (rs.map (·.inst)).headD 0 }
    else
      let bound ← rs.foldl (fun z r => z.bind fun (l : List (Nat × Inst × List ImgClamp × List ImgClamp) × List (Nat × Nat)) =>
        match s.bindRec v sl e own l.2 r (prog r).1 (prog r).2.1 with
        | .ok (x, c, pc) => Except.ok (l.1 ++ [(sl * 512 + r.inst, x, c, pc)], l.2 ++ slotsOf (prog r).1.outs r.outB)
        | .error n => Except.error ({ reason := n, item := sl * 512 + r.inst } : AdmRefusal)) (Except.ok ([], []))
      let w ← bound.1.foldl (fun z x => z.bind fun (w : AdmView) =>
        (w.place s x.1 x.2.1 deep).bind fun w =>
          if w.shareOk s sl then Except.ok w else Except.error { reason := adShareTorchon, item := x.1 }) (Except.ok v)
      let progClamps := ps.flatMap fun p => imgClamps (sliceDom sl p.1) p.2.2.2
      let recClamps := bound.1.flatMap fun x => imgClamps dom x.2.2.1 ++ imgClamps (sliceDom sl x.2.1.prog.dom) x.2.2.2
      Except.ok (w, bound.1.map (·.1), progClamps ++ recClamps, dom :: ps.map fun p => sliceDom sl p.1)

/-- What a placement adds to a plan: the new instances, tiles opened, and ROLLBACK blocks. -/
def AdmPlan.placing (p : AdmPlan) (v w : AdmView) (is : List Nat) : AdmPlan :=
  { p with
    insts := p.insts ++ w.insts.filter fun e => is.contains e.1,
    opened := (w.tiles.filter fun t => !v.tiles.any fun u => u.1 = t.1).map fun t => (t.1, t.2.deep),
    rbs := (w.tiles.filter fun t => !v.tiles.any fun u => u.1 = t.1 && u.2.rho = t.2.rho && u.2.rbs = t.2.rbs).map
      fun t => (t.1, t.2.rho, t.2.rbs) }

/-- KIND 2. -/
def State.admInstances (s : State) (v : AdmView) (p : AdmPlan) : Except AdmRefusal AdmResult :=
  let sl := p.req.slice
  let e := p.req.obj
  if 127 < sl || 31 < e then .error { reason := adBadRequest }
  else if v.insts.any fun i => i.1 / 512 = sl && i.2.set = e && !i.2.leaving then .error { reason := adBinding }
  else (s.admSet v sl e p.req.deep).map fun (w, is, cs, ds) =>
    { plan := ({ p with items := is.length }).placing v w is, view := w, clamps := cs, doms := ds, new := is }

/-! ### Scan programs (KIND 4: R381, R446, R447) -/

/-- CT in windows of 125 µs (R381). -/
def scanWindows (p : ScanProg) (share : Nat) : Nat := cdiv (p.wc + 2 * (p.ins.length + p.outs.length) + 400) (100 * share) + 1

/-- A scan program of slice sl in domain d, checked and placed; `exch` replaces the one it has (R448). -/
def State.admScan (s : State) (v : AdmView) (sl d : Nat) (exch : Bool) : Except AdmRefusal (ScanProg × List ImgClamp) :=
  let no := fun r => Except.error ({ reason := r } : AdmRefusal)
  let old := (v.scan.find? fun e => e.1 = sl).isSome
  let share := s.rd Reg.slc_SCAN_SHARE sl
  if 127 < sl || d < 0x50 || 0x53 < d then no adBadRequest
  else if old && !exch then no adScanExists
  else if share = 0 then no adScanShare
  else match readScan d (s.image (sliceDom sl d)) with
    | .error r => no r
    | .ok (p, cs) =>
      let v := { v with scan := v.scan.filter fun e => e.1 ≠ sl }
      let own := p.outs.filterMap fun o => if o.1 = 1 then some (o.2.2 % 2 ^ 18, o.2.1) else none
      let bad : Option Nat := (p.ins.findSome? fun (i : Nat × Nat × Nat) =>
          if v.slotType s own (i.2.2 % 2 ^ 18) ≠ i.2.1 then some adBinding
          else if !s.granted sl 2 (i.2.2 % 2 ^ 18) 0 then some adNoGrant else none).or
        (p.outs.findSome? fun (o : Nat × Nat × Nat) =>
          if o.1 = 2 then (if v.memberOk o.2.2 o.2.1 then none else some adBinding)
          else if !s.granted sl 2 (o.2.2 % 2 ^ 18) 1 then some adNoGrant
          else if v.hasWriter (o.2.2 % 2 ^ 18) then some adWriterConflict else none)
      let ct := scanWindows p share * 125
      let per := if p.period ≠ 0 && p.period < ct then ct else p.period
      let c : List ImgClamp := if per = p.period then [] else [{ off := 44, written := p.period, applied := per, reason := 7 }]
      match bad with
      | some r => no r
      | none =>
        if p.slots.eraseDups.length ≠ p.slots.length then no adWriterConflict
        else if p.ovr < ct then no adScanOverrun
        else match (List.range 8).find? fun k => !s.isFenced (.scanCore k) && decide (((v.scan.filter fun e => e.2.core = k).map fun e => e.2.share).sum + share ≤ 950) with
          | none => no adScanCore
          | some k => .ok ({ p with period := per, share := share, ct := ct * 1000, core := k }, cs ++ c)

/-- KIND 4. -/
def State.admScanProgram (s : State) (v : AdmView) (p : AdmPlan) : Except AdmRefusal AdmResult :=
  (s.admScan v p.req.slice p.req.obj false).map fun (x, cs) =>
    let dom := sliceDom p.req.slice p.req.obj
    { plan := { p with items := 1, scan := [(p.req.slice, x)] }, view := { v with scan := Tbl.ins x v.scan p.req.slice },
      clamps := imgClamps dom cs, doms := [dom] }

/-- RESTORE (R424): the sets and the scan program of a blob, admitted as one request, which is no KIND of R360. -/
def State.admRestore (s : State) (v : AdmView) (p : AdmPlan) : Except AdmRefusal AdmResult :=
  let sl := p.req.slice
  let parts := ((s.sli sl).cmd).elim [] fun c => c.waitAdm
  let zero : AdmResult := { plan := p, view := v }
  ((parts.filter fun e => e < 0x20).foldl (fun (z : Except AdmRefusal AdmResult) e => z.bind fun x =>
      (s.admSet x.view sl e false).map fun (w, is, cs, ds) =>
        { x with plan := ({ x.plan with items := x.plan.items + is.length }).placing x.view w is, view := w,
                 clamps := x.clamps ++ cs, doms := x.doms ++ ds, new := x.new ++ is }) (.ok zero)).bind fun x =>
    (parts.filter fun e => 0x20 ≤ e).foldl (fun (z : Except AdmRefusal AdmResult) d => z.bind fun x =>
      (s.admScan x.view sl d false).map fun (y, cs) =>
        { x with plan := { x.plan with items := x.plan.items + 1, scan := [(sl, y)] },
                 view := { x.view with scan := Tbl.ins y x.view.scan sl },
                 clamps := x.clamps ++ imgClamps (sliceDom sl d) cs, doms := x.doms ++ [sliceDom sl d] }) (.ok x)

/-! ### Withdrawals, clocks, chains (KINDS 5–8) -/

/-- KIND 5 (R363): a set that is not admitted has no items. -/
def State.admWithdraw (_ : State) (v : AdmView) (p : AdmPlan) : Except AdmRefusal AdmResult :=
  if 127 < p.req.slice || 31 < p.req.obj then .error { reason := adBadRequest }
  else
    let is := (v.insts.filter fun e => e.1 / 512 = p.req.slice && e.2.set = p.req.obj && !e.2.leaving).map (·.1)
    .ok { plan := { p with items := is.length, leave := is }, view := v }

/-- KIND 6. -/
def State.admWithdrawScan (_ : State) (v : AdmView) (p : AdmPlan) : Except AdmRefusal AdmResult :=
  if 127 < p.req.slice then .error { reason := adBadRequest }
  else
    let has := v.scan.any fun e => e.1 = p.req.slice
    .ok { plan := { p with items := b2n has, scanLeave := if has then [p.req.slice] else [] }, view := v }

/-- The instances of some logical tiles placed anew, as a plan says it. -/
def State.admReplace (s : State) (v0 v : AdmView) (p : AdmPlan) (ls : List Nat) : Except AdmRefusal AdmResult :=
  let is := v.insts.filter fun e => ls.contains e.2.ltile && !e.2.leaving
  (v.replace s is).map fun w =>
    let q := p.placing v0 w []
    { plan := { q with items := is.length, moved := w.insts.filter fun e => is.any fun i => i.1 = e.1, opened := [] }, view := w }

/-- KIND 7 (R24, R286, R626): a new clock for a quad, with every instance on its tiles placed anew. -/
def State.admClock (s : State) (v : AdmView) (p : AdmPlan) : Except AdmRefusal AdmResult :=
  let q := p.req.obj
  let c := min (min 12 p.req.slice) (s.raw Reg.pwr_QCLK_CEIL)
  if 15 < q then .error { reason := adBadRequest }
  else
    let ls := (v.tiles.map (·.1)).filter fun l => ((s.tileOf l).getD l) / 4 = q
    let w := { v with mhz := Tbl.ins (600 + 50 * c) v.mhz q,
                      tiles := v.tiles.map fun t => if ls.contains t.1 then (t.1, { t.2 with rho := 0, rbs := [] }) else t }
    s.admReplace v w { p with quad := some (q, c) } ls

/-- KIND 8 (R271, R280): the chains of the staged table that differ from the applied ones. No bound depends on D, so every
instance that reads such a slot keeps its place. -/
def State.admChains (s : State) (v : AdmView) (p : AdmPlan) : Except AdmRefusal AdmResult :=
  let staged := (List.range 8192).filterMap fun c =>
    let w := le 0 1 (s.domBytes 0x040401 (4 * c) 4)
    let (o1, o2) := s.chain c
    let w1 := if w % 16 < 8 then w % 16 else o1
    let w2 := if w / 16 < 8 then w / 16 else o2
    let f := match s.slotOwner c with
      | some (k, _) => entRate (s.strm k).entry
      | none => 0
    let (s1, s2, _) := clampChain f w1 w2
    if (s1, s2) = (o1, o2) then none else some (c, w1, w2)
  .ok { plan := { p with items := staged.length, chains := staged }, view := v, doms := [0x040401] }

/-! ### Computing a request (R361, R362, R365) -/

/-- A request computed: what it changes, or why it is refused. -/
def State.compute (s : State) (r : AdmReq) (at_ : Nat) : Except AdmRefusal AdmResult :=
  let v := s.admView
  let p : AdmPlan := { req := r, at_ := at_ }
  let res := match r.kind with
    | 1 => s.admStreams v p
    | 2 => s.admInstances v p
    | 3 => s.admPubs v p
    | 4 => s.admScanProgram v p
    | 5 => s.admWithdraw v p
    | 6 => s.admWithdrawScan v p
    | 7 => s.admClock v p
    | 8 => s.admChains v p
    | 17 => s.admRestore v p
    | _ => .error { reason := adBadRequest }
  if r.kind = 5 || r.kind = 6 then res
  else res.bind fun x => (x.view.shared s (if x.new.isEmpty then x.others else x.new)).bind fun _ =>
    (x.view.bounds s x.new).map fun _ => x

/-- Counters and registers of a refusal (R383): `pub` says that the request named publications. -/
def State.admRefused (s : State) (x : AdmRefusal) (pub : Bool) : State :=
  let s := s.count Reg.adm_ADM_REFUSE
  let r := x.reason
  let s := if r < 8 then s.count Reg.svi_SVI_ADM_REFUSE
    else if r = adInUse then (if pub then s.count Reg.adm_ADM_PUB_REFUSE else s.count Reg.svi_SVI_ADM_REFUSE)
    else if r < 0x20 then s.count Reg.tor_TOR_ADM_REFUSE
    else if r < 0x30 then s.count Reg.adm_ADM_PUB_REFUSE
    else if r < 0x40 then s.count Reg.adm_ADM_SCAN_REFUSE else s
  (s.wr Reg.adm_LAST_REASON 0 r).wr Reg.adm_LAST_ITEM 0 x.item

/-- QUEUED and COMPUTING follow the queue, whose first request is being computed (R386). -/
def State.syncQueue (s : State) : State :=
  (s.wr Reg.adm_QUEUED 0 (s.tor.queue.length - 1)).wr Reg.adm_COMPUTING 0 (b2n (!s.tor.queue.isEmpty))

/-- The apply instant of R363: the first multiple of 2.5 ms of TAI at least 2 ms after this moment. -/
def State.admInstant (s : State) : Nat := cdiv (s.tai + 2 * unitsMs) 22500000 * 22500000

/-! ### The published tables (R372, R382, R386) -/

/-- The records of the bound table: KIND, ID, B_PUB, B_CALC, AUX, and the slice they belong to (R382). -/
def AdmView.records (s : State) (v : AdmView) : List (Nat × Nat × Nat × Nat × Nat × Nat) :=
  (v.streams.map fun e =>
    let w := entWindow e.2 * 1000
    (1, e.1, w, w + cdiv (entHorizon e.2 * entPeriod e.2) unitsNs, entSwRes e.2, entOwner e.2))
  ++ ((v.insts.filter fun e => !e.2.leaving).map fun e =>
    (2, e.1, e.2.bPub, v.bCalc s e.1 e.2, e.2.ltile + e.2.depth % 16 * 2 ^ 8 + e.2.ra * 2 ^ 12, e.1 / 512))
  ++ (v.pubs.map fun e =>
    let t := v.tPub s e.1
    (3, e.1, ceilNs t.1, ceilNs t.1, t.2, pubOwner e.2.entry))
  ++ v.scan.map fun e => (4, e.1, e.2.ovr * 1000, e.2.ct, e.2.core + e.2.share * 2 ^ 16, e.1)

/-- A bound table (R382). -/
def boundTable (seq : Nat) (rs : List (Nat × Nat × Nat × Nat × Nat × Nat)) : Bytes :=
  [0x42, 0x4E, 0x44, 0x31] ++ leBytes 4 rs.length ++ leBytes 4 seq ++ List.replicate 4 0
    ++ rs.flatMap fun r => leBytes 1 r.1 ++ [0] ++ leBytes 2 r.2.1 ++ leBytes 4 r.2.2.1 ++ leBytes 4 r.2.2.2.1 ++ leBytes 4 r.2.2.2.2.1

/-- The pricking of logical tile l, applied now (R372). -/
def State.pricking (s : State) (l : Nat) (t : AdmTile) : Bytes :=
  let is := s.instsOn l
  let code := fun (x : Nat) =>
    if x % 70 = 69 then 0x1FD
    else match (is.zip (List.range 256)).findSome? fun e =>
        (e.1.2.blocks.find? fun b => b ≤ x && x < b + e.1.2.k).map fun b => e.2 + (if b = x then 2 ^ 15 else 0) with
      | some c => c
      | none => match t.rbs.find? fun b => b ≤ x && x < b + t.rho with
        | some b => 0x1FC + (if b = x then 2 ^ 15 else 0)
        | none => 0x1FF
  let resv := (is.map fun e => e.2.k * e.2.blocks.length).sum + 12 * t.rho
  let head := [0x50, 0x52, 0x4B, 0x31] ++ leBytes 2 1 ++ leBytes 1 l ++ leBytes 1 (b2n t.deep) ++ leBytes 2 is.length
    ++ leBytes 2 resv ++ leBytes 4 (s.raw Reg.adm_ADM_SEQ) ++ time96le s.tai
  let rest := (is.flatMap fun e => leBytes 2 e.1 ++ leBytes 1 e.2.depth ++ leBytes 1 e.2.k ++ leBytes 4 e.2.gap)
    ++ (List.range 840).flatMap fun x => leBytes 2 (code x)
  head ++ leBytes 4 (crc32c (head ++ List.replicate 4 0 ++ rest)) ++ rest

/-- A read-only domain emptied. -/
def State.emptyDomain (s : State) (index : Nat) : State := s.setDomain index 0 {}

/-- Registers and pricking of logical tile l follow what is placed on it (R320, R357, R372, R386). -/
def State.syncLtile (s : State) (l : Nat) : State :=
  match s.tileOf l with
  | none =>
    (((s.wr Reg.ltile_RESV_SLOTS l 0).wr Reg.ltile_UTIL l 0).wr Reg.ltile_RB_SLOTS l 0).emptyDomain (0x040600 + l)
  | some t =>
    let is := s.instsOn l
    let a : AdmTile := { deep := s.deep t, rho := s.raw Reg.ltile_RB_SLOTS l, rbs := Tbl.look [] s.tor.rbs l }
    let used := (is.map fun e => e.2.k * e.2.blocks.length).sum + 12 * a.rho
    let s := (s.wr Reg.ltile_RESV_SLOTS l used).wr Reg.ltile_UTIL l (used * 9000 * 1000 / unitsHyper)
    let s := (((s.wr Reg.tile_INST_COUNT t is.length).wr Reg.tile_DATA_KIB t (cdiv ((is.map fun e => e.2.memory).sum) 1024)).wr
      Reg.tile_PROG_KIB t (cdiv (programBytes (is.map fun e => e.2)) 1024)).wr Reg.tspec_JNL_RESV t (s.jnlReserved t)
    s.fillDomain (0x040600 + l) (s.pricking l a)

/-- Bounds, loads and tables published after a change (R382, R386, R399). -/
def State.publish (s : State) : State :=
  let v := s.admNow
  let s := { s with tor := { s.tor with insts := s.tor.insts.map fun (e : Nat × Inst) => (e.1, { e.2 with bCalc := v.bCalc s e.1 e.2 }) } }
  let s := s.wr Reg.tor_INSTANCES 0 s.tor.insts.length
  let s := (s.wr Reg.adm_Q32_NS 0 (min 65535 (ceilNs v.q32))).wr Reg.swc_ADM_CELLS 0 (v.cells s)
  let s := (List.range 33).foldl (fun s p => s.wr Reg.admport_PORT_LOAD p
    (if p < 32 && !s.admPort p then 0 else min 1023 (v.load s p * 1000 / (s.admRate p * 1000000)))) s
  let rs := v.records s
  let seq := s.raw Reg.adm_ADM_SEQ
  let s := s.fillDomain 0x040700 (boundTable seq rs)
  let s := (List.range 128).foldl (fun s sl =>
    let mine := rs.filter fun r => r.2.2.2.2.2 = sl
    let d := 0x010000 + sl * 0x200 + 0x1F0
    if mine.isEmpty && (s.domain d 0).len = 0 then s else s.fillDomain d (boundTable seq mine)) s
  s.syncFull 128

/-! ### Applying a request (R363, R387) -/

/-- The physical tile that logical tile l opens on: its own number, or a spare that qualifies when that tile has failed
(R317, R387). -/
def State.openAt (s : State) (l : Nat) : Option Nat :=
  let st := s.raw Reg.tile_STATE l
  if st = 0 || st = 2 || st = 3 then some l
  else s.spares.find? fun sp => decide (s.raw Reg.quad_QCLK_MHZ (l / 4) ≤ s.raw Reg.quad_QCLK_MHZ (sp / 4))

/-- Logical tile l is allocated in a mode (R288, R317, R347). -/
def State.openTile (s : State) (l : Nat) (deep : Bool) : State :=
  match s.tileOf l, s.openAt l with
  | none, some t =>
    let s : State := { s with tor := { s.tor with phys := Tbl.put 0 s.tor.phys l (t + 1) } }
    let s := (s.setTile t {}).tileState t 1
    let s := ((s.wr Reg.tile_LTILE t l).wrFlag Reg.tile_MODE t deep).syncTiles
    if t = l then s
    else (s.count Reg.tor_TOR_SPARE_USED).raise (quadSource t) 0x0102 (l + t * 2 ^ 8 + l * 2 ^ 16)
  | _, _ => s

/-- A signal slot takes its writer and value type (R64, R294). -/
def State.takeSlots (s : State) (sl : Nat) (slots : List (Nat × Nat)) : State :=
  slots.foldl (fun s o => s.setSignal o.1 { s.signal o.1 with writer := sl, vtype := o.2 }) s

/-- A new instance takes its place: its first evaluation is the first with trigger time at or after now, and its initial
data goes into the tile's fix. -/
def State.install (s : State) (i : Nat) (x : Inst) : State :=
  let n := cdiv s.tai (x.div * entPeriod (s.strm x.trigger).entry)
  let d := Memory.writeBytes [] 0 x.init
  let s := s.setInst i { x with next := n, data := d }
  let s := s.takeSlots (i / 512) (slotsOf x.prog.outs x.outB)
  match s.tileOf x.ltile with
  | none => s
  | some t => s.setTile t { s.tile t with fixes := (s.tile t).fixes.map fun (f : TileFix) =>
      { f with insts := (f.insts.filter fun y => y.1 ≠ i) ++ [(i, n - 1, d)] } }

/-- A waiting plan or exchange places an instance on logical tile l. -/
def State.awaited (s : State) (l : Nat) : Bool :=
  (s.tor.plans.any fun p => !p.req.check && (p.insts ++ p.moved).any fun e => e.2.ltile = l)
    || s.tor.exchanges.any fun x => x.news.any fun e => x.waiting.contains e.1 && e.2.ltile = l

/-- A tile that no longer holds an instance, nor will, is vacant (R288). -/
def State.vacate (s : State) (l : Nat) : State :=
  match s.tileOf l with
  | none => s
  | some t =>
    if !(s.instsOn l).isEmpty || s.awaited l then s
    else
      let s := { s with tor := { s.tor with phys := Tbl.put 0 s.tor.phys l 0, rbs := Tbl.put [] s.tor.rbs l [] } }
      ((((s.setTile t {}).tileState t 0).clearTileRegs t).wr Reg.ltile_RB_SLOTS l 0).syncTiles

/-- Instance i leaves the tile of logical tile l. -/
def State.unfix (s : State) (l i : Nat) : State :=
  match s.tileOf l with
  | none => s
  | some t => s.setTile t { s.tile t with
      evals := (s.tile t).evals.filter fun e => e.inst ≠ i, replay := (s.tile t).replay.filter fun r => r.inst ≠ i,
      fixes := (s.tile t).fixes.map fun (f : TileFix) => { f with insts := f.insts.filter fun y => y.1 ≠ i },
      changed := (s.tile t).changed.filter fun c => c.1 ≠ i }

/-- An instance is removed: its slots become FREE (R363). -/
def State.removeInst (s : State) (i : Nat) : State :=
  let x := s.inst i
  let s := { s with tor := { s.tor with
    insts := Tbl.drop s.tor.insts i, recoveries := s.tor.recoveries.filter fun r => r.inst ≠ i } }
  let s := s.unfix x.ltile i
  let s := (slotsOf x.prog.outs x.outB).foldl (fun s o => s.dropWriter o.1) s
  (s.vacate x.ltile).syncLtile x.ltile

/-- A withdrawn instance starts no further evaluation; its handle waits for its last commit (R348, R363). -/
def State.leaveInst (s : State) (i h items : Nat) : State :=
  let x := s.inst i
  let s := s.setInst i { x with
    leaving := true, stops := x.stops ++ [(h, some items)],
    stopAt := some (match x.stopAt with
      | some e => min e x.next
      | none => x.next) }
  (slotsOf x.prog.outs x.outB).foldl (fun s o => s.dropWriter o.1) s

/-- At a Hyper boundary the withdrawn instances that have committed their last evaluation are removed (R363). -/
def State.sweepLeaving (s : State) : State :=
  let gone := s.tor.insts.filter fun e => e.2.leaving && e.2.stops.isEmpty && match s.tileOf e.2.ltile with
    | none => true
    | some t => !((s.tile t).evals.any fun v => v.inst = e.1) && !((s.tile t).replay.any fun r => r.inst = e.1)
  if gone.isEmpty then s else (gone.foldl (fun s e => s.removeInst e.1) s).publish

/-- A scan program is admitted (R381, R428, R436). -/
def State.installScan (s : State) (sl : Nat) (p : ScanProg) : State :=
  let s := s.setScan sl { prog := p, data := p.initData, ready := s.mono }
  let s := s.takeSlots sl (p.outs.filterMap fun o => if o.1 = 1 then some (o.2.2 % 2 ^ 18, o.2.1) else none)
  let s := (s.wr Reg.prog_CORE sl p.core).wr Reg.prog_CT_US sl (p.ct / 1000)
  (s.scanState sl 1).syncScan

/-- A scan program is withdrawn after the cycle in progress (R363, R439). -/
def State.withdrawScan (s : State) (sl h : Nat) : State :=
  let x := s.scanOf sl
  let s := s.setScan sl { x with leaving := true, handle := some h }
  if x.cycle.isNone then s.removeScan sl else s

/-- A publication takes its entry and starts, or is removed. A publication already running goes on with its numbers. -/
def State.applyPub (s : State) (g : Nat) (p : Option Pub) : State :=
  match p with
  | none => { s with tor := { s.tor with pubs := Tbl.drop s.tor.pubs g } }
  | some x =>
    let old := s.pub g
    let x := { x with stNum := old.stNum, sqNum := old.sqNum }
    if pubTransit x.entry then s.setPub g x else (s.setPub g x).newPubState g x.frame

/-- Table versions that have been loaded become current in their order (R186). -/
def State.activateAll (s : State) : State :=
  ((s.net.epochs.dropWhile fun e => e.num ≠ s.raw Reg.swc_CLS_EPOCH).drop 1).foldl State.activateEpoch s

/-- The stream entries and the admission unit's classification entries become current as one epoch (R186, R363). -/
def State.applyTables (s : State) (streams : List (Nat × Bytes)) : State :=
  let v := s.admNow
  let es := ({ v with streams := streams.foldl (fun (m : Tbl Bytes) (e : Nat × Bytes) => Tbl.put ([] : Bytes) m e.1 e.2) v.streams }).entries s
  let adm : Tbl Bytes := (List.range es.length).zip es
  if streams.isEmpty && adm = (s.newestEpoch.cls.filter fun e => e.1 < 1024) then s
  else (s.submitChange { adm := some adm, streams := streams }).activateAll

/-- A quad runs at a new clock (R24, R286, R321). -/
def State.setClock (s : State) (q c : Nat) : State :=
  ((s.wr Reg.quad_QCLK q c).wr Reg.quad_QCLK_MHZ q (600 + 50 * c)).raise (64 + q) 0x0104 (600 + 50 * c)

/-- ROLLBACK blocks of logical tiles (R370). -/
def State.setRollback (s : State) (rbs : List (Nat × Nat × List Nat)) : State :=
  rbs.foldl (fun s r => State.wr { s with tor := { s.tor with rbs := Tbl.put [] s.tor.rbs r.1 r.2.2 } } Reg.ltile_RB_SLOTS r.1 r.2.1) s

/-- The first instance of a pending placement whose tile has failed and no spare takes it (R387). -/
def State.planLost (s : State) (p : AdmPlan) : Option Nat :=
  ((p.insts ++ p.moved).find? fun e =>
    (s.tileOf e.2.ltile).isNone && !((p.opened.any fun o => o.1 = e.2.ltile) && (s.openAt e.2.ltile).isSome)).map (·.1)

/-- The logical tiles that a plan touches. -/
def AdmPlan.ltiles (p : AdmPlan) (s : State) : List Nat :=
  (((p.insts ++ p.moved).map fun e => e.2.ltile) ++ (p.leave.map fun i => (s.inst i).ltile) ++ p.rbs.map (·.1)).eraseDups

/-- The four arguments of an ADMIT as the settings store keeps them (R360, R563). -/
def admitArgs (kind slice obj : Nat) (deep : Bool) : Bytes :=
  [BitVec.ofNat 8 kind, BitVec.ofNat 8 slice, BitVec.ofNat 8 obj, BitVec.ofNat 8 (2 * b2n deep)]

/-- Two stored ADMITs are of one function: a table, an instance set, or the scan program of a slice. -/
def sameAdmit (a b : Bytes) : Bool :=
  let k := le 0 1 a
  k = le 0 1 b && (k = 1 || k = 3 || le 1 1 a = le 1 1 b && (k = 4 || le 2 1 a = le 2 1 b))

/-- A stored ADMIT put in its place: where one of the same function stands, else at the end (log entry 26). -/
def State.storeAdmit (s : State) (a : Bytes) : State :=
  let l := s.upd.admits
  { s with upd := { s.upd with admits := if l.any (sameAdmit a) then l.map (fun b => if sameAdmit a b then a else b) else l ++ [a] } }

/-- Stored ADMITs taken out. -/
def State.dropAdmits (s : State) (p : Bytes → Bool) : State :=
  { s with upd := { s.upd with admits := s.upd.admits.filter fun b => !p b } }

/-- The store follows an applied ADMIT, a withdrawal, a restore and a slice reset (R536, R562). -/
def State.noteAdmit (s : State) (p : AdmPlan) : State :=
  let r := p.req
  let ofSlice := fun (k : Nat) (b : Bytes) => le 0 1 b = k && le 1 1 b = r.slice
  let s := match r.kind with
    | 1 => s.storeAdmit (admitArgs 1 r.slice r.obj r.deep)
    | 2 => s.storeAdmit (admitArgs 2 r.slice r.obj r.deep)
    | 3 => s.storeAdmit (admitArgs 3 r.slice r.obj r.deep)
    | 4 => s.storeAdmit (admitArgs 4 r.slice r.obj r.deep)
    | 5 => if r.handle < 2 ^ 32 then s.dropAdmits fun b => ofSlice 2 b && le 2 1 b = r.obj
           else (s.dropAdmits (ofSlice 2)).dropAdmits (ofSlice 4)
    | 6 => s.dropAdmits (ofSlice 4)
    | 17 =>
      let s := ((p.insts.map fun (e : Nat × Inst) => e.2.set).eraseDups).foldl (fun (s : State) e => s.storeAdmit (admitArgs 2 r.slice e false)) s
      p.scan.foldl (fun (s : State) (e : Nat × ScanProg) => s.storeAdmit (admitArgs 4 e.1 e.2.dom false)) s
    | _ => s
  s.changed

/-- An exchange makes a stored ADMIT name the new set or domain (DEDUCED, log entry 26). -/
def State.renameAdmit (s : State) (kind sl old new : Nat) : State :=
  State.changed { s with upd := { s.upd with admits := s.upd.admits.map fun (b : Bytes) =>
    if (le 0 1 b = kind && le 1 1 b = sl && (kind = 4 || le 2 1 b = old)) then putLe b 2 1 new else b } }

/-- Everything a plan changes, at its instant. -/
def State.applyPlan (s : State) (p : AdmPlan) : State :=
  let h := p.req.handle
  let s := p.pubs.foldl (fun s e => s.applyPub e.1 e.2) s
  let s := s.applyTables p.streams
  let s := p.opened.foldl (fun s o => s.openTile o.1 o.2) s
  let s := match p.quad with
    | some (q, c) => s.setClock q c
    | none => s
  let s := s.setRollback p.rbs
  let s := p.moved.foldl (fun s e => s.setInst e.1 ((s.inst e.1).placedAs e.2)) s
  let s := p.insts.foldl (fun s e => s.install e.1 e.2) s
  let s := p.chains.foldl (fun s c =>
    let a := match s.slotOwner c.1 with
      | some (k, _) => cdiv s.tai (entPeriod (s.strm k).entry)
      | none => 0
    ((s.wr Reg.slot_S1_SEL c.1 c.2.1).wr Reg.slot_S2_SEL c.1 c.2.2).chainApply c.1 a) s
  let s := p.leave.foldl (fun s i => s.leaveInst i h p.items) s
  let s := p.leave.foldl State.checkStop s
  let s := p.scanLeave.foldl (fun s sl => s.withdrawScan sl h) s
  let s := p.scan.foldl (fun s e => s.installScan e.1 e.2) s
  let s := s.count Reg.adm_ADM_SEQ
  let s := (p.ltiles s).foldl State.syncLtile s
  let s := s.publish.noteAdmit p
  if p.req.kind ≤ 8 && p.leave.isEmpty && p.scanLeave.isEmpty then s.complete h stOK p.items else s

/-! ### The commands -/

/-- The module is DEGRADED: a block that all work needs is fenced (R534). -/
def State.degraded (s : State) : Bool :=
  [Blk.switchCore, .packetBuffer, .dram, .ingest, .sextant, .binnacle].any s.isFenced

/-- A request joins the queue, or completes with BUSY beyond the 16th that waits (R360, R362). -/
def State.requestAdmission (s : State) (src : Requester) (kind slice obj : Nat) (check deep : Bool) : State :=
  let (h, s) := s.newHandle src
  if s.degraded then (s.count Reg.adm_ADM_REFUSE).complete h stREFUSED 0xF3
  else if 17 ≤ s.tor.queue.length then s.complete h stBUSY
  else State.syncQueue { s with tor := { s.tor with queue := s.tor.queue ++
    [{ kind := kind, slice := slice, obj := obj, check := check, deep := deep, src := src, handle := h }] } }

/-! ### Re-admission at start-up (R536) -/

/-- A stored function that is refused at start-up is recorded in the Logbook (R536, R588). -/
def State.noteRefused (s : State) (r : AdmReq) (result : Nat) : State :=
  if (s.pwr.boot.getD []).contains r.handle then s.logNote 2 result (ofBe (admitArgs r.kind r.slice r.obj r.deep)) else s

/-- Stored functions are submitted in order while the queue has room. -/
def State.feedBoot (s : State) : Nat → State
  | 0 => s
  | n + 1 => match s.pwr.bootLeft with
    | [] => s
    | a :: rest =>
      if 17 ≤ s.tor.queue.length then s
      else
        let (h, _) := s.newHandle .wheelhouse
        let off := s.degraded
        let s := s.requestAdmission .wheelhouse (le 0 1 a) (le 1 1 a) (le 2 1 a) false (bit 1 (le 3 1 a))
        let s : State := { s with pwr := { s.pwr with boot := some (s.pwr.boot.getD [] ++ [h]), bootLeft := rest } }
        State.feedBoot (if off then s.logNote 2 0xF3 (ofBe a) else s) n

/-- MOD_STATE leaves BOOT when the last stored request is over (R536); in HOLDUP it shows this afterwards. -/
def State.checkBoot (s : State) : State :=
  let s := s.feedBoot s.pwr.bootLeft.length
  match s.pwr.boot with
  | none => s
  | some hs =>
    if !s.pwr.bootLeft.isEmpty || s.wh.handles.any (fun o => hs.contains o.handle) then s
    else
      let m := if s.degraded then 2 else 1
      let s : State := { s with pwr := { s.pwr with boot := none, started := true } }
      let s : State := if s.pwr.holdAt.isSome then { s with pwr := { s.pwr with before := m } }
        else { s.wr Reg.pwr_MOD_STATE 0 m with pwr := { s.pwr with runSince := if m = 1 then some s.mono else none } }
      s.raise 108 0x0100 (s.raw Reg.pwr_LAST_CAUSE + m * 16)

/-- ADMIT KIND 1 (R360). -/
def execAdmitStreams (src : Requester) (check : Bool) (s : State) : Host.Outcome State Fault Refusal :=
  .next (s.requestAdmission src 1 0 0 check false)

/-- ADMIT KIND 2 (R360): set e of slice sl. -/
def execAdmitInstanceSet (src : Requester) (sl e : Nat) (check deep : Bool) (s : State) : Host.Outcome State Fault Refusal :=
  .next (s.requestAdmission src 2 sl e check deep)

/-- ADMIT KIND 3 (R360). -/
def execAdmitPublications (src : Requester) (check : Bool) (s : State) : Host.Outcome State Fault Refusal :=
  .next (s.requestAdmission src 3 0 0 check false)

/-- ADMIT KIND 4 (R360, R381): the scan program in domain d of slice sl. -/
def execAdmitScanProgram (src : Requester) (sl d : Nat) (check : Bool) (s : State) : Host.Outcome State Fault Refusal :=
  .next (s.requestAdmission src 4 sl d check false)

/-- ADMIT KIND 5 (R360, R363): set e of slice sl. -/
def execAdmitWithdrawSet (src : Requester) (sl e : Nat) (check : Bool) (s : State) : Host.Outcome State Fault Refusal :=
  .next (s.requestAdmission src 5 sl e check false)

/-- ADMIT KIND 6 (R360): the scan program of slice sl. -/
def execAdmitWithdrawScan (src : Requester) (sl : Nat) (check : Bool) (s : State) : Host.Outcome State Fault Refusal :=
  .next (s.requestAdmission src 6 sl 0 check false)

/-- ADMIT KIND 7 (R24, R360): clock c for quad q. -/
def execAdmitQuadClock (src : Requester) (c q : Nat) (check : Bool) (s : State) : Host.Outcome State Fault Refusal :=
  .next (s.requestAdmission src 7 c q check false)

/-- ADMIT KIND 8 (R280, R360). -/
def execAdmitFilterChains (src : Requester) (check : Bool) (s : State) : Host.Outcome State Fault Refusal :=
  .next (s.requestAdmission src 8 0 0 check false)

/-! ### Tile modes and clocks (R24, R286, R347) -/

/-- TILE_MODE (R347): the bounds of every instance of logical tile l in the new mode are computed; the change waits for
its Hyper boundary. -/
def execTileMode (src : Requester) (l : Nat) (deep : Bool) (s : State) : Host.Outcome State Fault Refusal :=
  .next (match s.tileOf l with
    | none => s
    | some t =>
      let (h, s) := s.newHandle src
      if ((s.tile t).modeNext).isSome then s.complete h stBUSY
      else
        let v := s.admView
        let w := { v with tiles := Tbl.ins ({ deep := deep } : AdmTile) v.tiles l }
        let r : AdmReq := { kind := 16, slice := l, obj := b2n deep, check := false, deep := deep, src := src, handle := h }
        let at_ := s.hyperAfter
        match (s.admReplace v w { req := r, at_ := at_ } [l]).bind fun x => (x.view.bounds s []).map fun _ => x with
        | .error x =>
          let s := s.admRefused x false
          let s := if x.reason < 0x10 ∨ 0x1F < x.reason then s.count Reg.tor_TOR_ADM_REFUSE else s
          s.complete h stREFUSED (x.reason + x.item * 2 ^ 16)
        | .ok x =>
          let s := { s with tor := { s.tor with plans := s.tor.plans ++ [x.plan] } }
          let s := (s.wr Reg.tspec_MODE_PEND t 1).wrFlag Reg.tspec_MODE_NEXT t deep
          s.setTile t { s.tile t with modeNext := some (deep, at_, h) })

/-- TILE_MODE_APPLY (R347): the change of tile t takes effect at its boundary. The handle completes when the evaluations
of the old mode have committed. -/
def execTileModeApply (t : Nat) (s : State) : Host.Outcome State Fault Refusal :=
  .next (match (s.tile t).modeNext with
    | none => s
    | some (deep, at_, h) =>
      let s := s.advance (s.monoOf at_)
      let l := s.raw Reg.tile_LTILE t
      let plan := s.tor.plans.find? fun p => p.req.kind = 16 && p.req.handle = h
      let s := { s with tor := { s.tor with plans := s.tor.plans.filter fun p => !(p.req.kind = 16 && p.req.handle = h) } }
      let s := ((s.wr Reg.tspec_MODE_PEND t 0).wr Reg.tspec_MODE_NEXT t 0).wrFlag Reg.tile_MODE t deep
      let s := match plan with
        | some p =>
          let s := s.setRollback p.rbs
          p.moved.foldl (fun (s : State) (e : Nat × Inst) => if s.hasInst e.1 then s.setInst e.1 ((s.inst e.1).placedAs e.2) else s) s
        | none => s
      let first := match (s.instsOn l).map fun e => e.2.next with
        | [] => 0
        | n :: ns => ns.foldl min n
      let s := s.setTile t { s.tile t with modeNext := none, modeDone := some (h, first % 2 ^ 32) }
      let s := (s.raise (quadSource t) 0x0108 (t + b2n deep * 2 ^ 8)).syncLtile l
      (s.publish.settle t).checkMode t)

/-- A quad holds admitted instances (R286). -/
def State.quadUsed (s : State) (q : Nat) : Bool := (List.range 4).any fun k => s.raw Reg.tile_STATE (4 * q + k) = 1

/-- QCLK written: held on a quad with admitted instances, else buffered for its Hyper boundary (R286, R626). The value in
force changes nothing. -/
def State.writeQclk (s : State) (q v info : Nat) : State :=
  let w := min (min 12 (v % 16)) (s.raw Reg.pwr_QCLK_CEIL)
  if s.quadUsed q then (if w = s.lastWritten Reg.quad_QCLK q then s else s.count Reg.tor_TOR_CLK_HELD)
  else s.buffer Reg.quad_QCLK q w info

/-- QCLK_WRITE (R286, R626). -/
def execQclkWrite (q v : Nat) (s : State) : Host.Outcome State Fault Refusal := .next (s.writeQclk q v (Reg.quad_QCLK.addr q))

/-- QUAD_CLOCK_APPLY (R24, R286): at a Hyper boundary the buffered QCLK of a quad takes effect. -/
def execQuadClockApply (q : Nat) (s : State) : Host.Outcome State Fault Refusal :=
  .next (
    let due := fun (b : Buffered) => b.key = Reg.quad_QCLK.key q
    if !(s.hif.shadow.any due) || s.held Reg.quad_QCLK.blk then s
    else
      let s := s.advance (s.monoOf (cdiv s.tai unitsHyper * unitsHyper))
      if s.quadUsed q then
        let s := { s with hif := { s.hif with shadow := s.hif.shadow.filter fun b => !due b } }
        s.syncPend.count Reg.tor_TOR_CLK_HELD
      else
        let s := s.applyBoundary due
        s.setClock q (min (s.raw Reg.quad_QCLK q) (s.raw Reg.pwr_QCLK_CEIL)))

/-! ### Holding bounds at run time (R384) -/

/-- Every admitted bound holds with other values of its terms. -/
def State.boundsHold (s : State) (f : AdmView → AdmView) : Bool :=
  let v := f s.admView
  match v.bounds s [] with
  | .ok _ => true
  | .error _ => false

/-- The largest value from `lo` up to `hi` that keeps every bound; a rise of the term never lowers a bound. -/
def largestOk (ok : Nat → Bool) : Nat → Nat → Nat → Nat
  | 0, lo, _ => lo
  | fuel + 1, lo, hi =>
    if hi ≤ lo then lo
    else
      let mid := (lo + hi + 1) / 2
      if ok mid then largestOk ok fuel mid hi else largestOk ok fuel lo (mid - 1)

/-- EARLY_TOL as it is applied (R384). -/
def State.heldEarly (s : State) (v : Nat) : Nat :=
  let cur := s.rd Reg.svi_EARLY_TOL
  let v := min v 1000
  let ok := fun x => s.boundsHold fun w => { w with early := x }
  if v ≤ cur || ok v then v else largestOk ok 11 cur v

/-- MAX_FRAME written: on a port with admitted egress only up to the value that keeps the bounds (R384). -/
def State.writeMaxFrame (s : State) (p v info : Nat) : State :=
  let w := clampN 1518 9216 (v % 2 ^ 14)
  let cur := s.rd Reg.prt_MAX_FRAME p
  let ok := fun x => s.boundsHold fun y => { y with mtu := Tbl.ins x y.mtu p }
  let held := if w ≤ cur || !s.admEgress p (fun _ => true) || ok w then w else largestOk ok 14 cur w
  if held = w then s.buffer Reg.prt_MAX_FRAME p v info
  else (s.buffer Reg.prt_MAX_FRAME p held info).count Reg.adm_ADM_HELD

/-- MAX_FRAME_WRITE (R384). -/
def execMaxFrameWrite (p v : Nat) (s : State) : Host.Outcome State Fault Refusal :=
  .next (s.writeMaxFrame p v (Reg.prt_MAX_FRAME.addr p))

end Sys2Proof.Machine
end

