-- ==== Sys2Proof/Machine/Binnacle.lean ====
section
/-!
DEFINITION. The Binnacle (chapter 17): measurement and derivation, genesis, import, deletion, invalidation, users,
attestation, the key journal, tamper, and the operations other blocks ask for.
-/

namespace Sys2Proof.Machine

/-! ### State of the Lodestone and the journal (R496, R514–R518) -/

/-- LS_STATE changes; source 84 reports it (R525). -/
def State.setLsState (s : State) (v : Nat) : State :=
  let old := s.raw Reg.bnc_LS_STATE
  if old = v then s else State.raise (s.wr Reg.bnc_LS_STATE 0 v) 84 0x0100 (v + 16 * old)

/-- The selected journal slot: the valid one with the higher COUNTER, with its number (R515). -/
def State.selected (s : State) : Option (Nat × Journal) :=
  match s.bnc.j0, s.bnc.j1 with
  | none, none => none
  | some a, none => some (0, a)
  | none, some b => some (1, b)
  | some a, some b => if a.counter < b.counter then some (1, b) else some (0, a)

/-- What LS_STATE reports (R496). A Lodestone without a journal, which a genesis cut short leaves, counts as EMPTY
(DEDUCED, log entry 24). -/
def State.lsState (s : State) : Nat :=
  if s.flag Reg.bnc_TAMP_LATCH then 3
  else match s.selected, s.bnc.lodestone with
    | none, _ => 0
    | some _, none => 2
    | some (_, j), some l => if lsCheck l = j.lsCheck then 1 else 2

/-- JNL_COUNT follows the selected journal (R524). -/
def State.syncJournal (s : State) : State :=
  let c := (s.selected).elim 0 fun p => p.2.counter
  ((s.wr Reg.bnc_JNL_COUNT_LO 0 (c % 2 ^ 32)).wr Reg.bnc_JNL_COUNT_HI 0 (c / 2 ^ 32)).wrFlag Reg.bnc_RESEAL_PEND 0
    s.bnc.reseal.isSome

/-- The next leaf (R521, R524). -/
def State.setLeaf (s : State) (n : Nat) : State :=
  State.wr (State.wr { s with bnc := { s.bnc with leaf := n } } Reg.bnc_LMS_LEAF_LO 0 (n % 2 ^ 32)) Reg.bnc_LMS_LEAF_HI 0
    (n / 2 ^ 32)

/-- A USER slot of an applied user entry (R502, R513). -/
def userSlot (e : Bytes) (version : Nat) : KeySlot :=
  if e.isEmpty || le 35 1 e = 0 || le 0 1 e = 0 then {}
  else { state := 1, kind := 8, usage := 64, parent := 4, owner := 0xFF, version := version }

/-- The derived slots: chain root, session root and slice roots (R500, R502). -/
def State.deriveSlots (s : State) : State :=
  let cr := s.chainRoot
  let s := (s.setSlot 0 (rootSlot 0xFFFF 0xFF cr)).setSlot 4 (rootSlot 0 0xFF (Config.hkdf cr s.bnc.bootNonce infoSess 48))
  (List.range 128).foldl (fun (s : State) sl => s.setSlot (8 + sl) (rootSlot 0 sl (s.slrKey sl))) s

/-- The slots of the applied user table. -/
def State.deriveUsers (s : State) : State :=
  (List.range 64).foldl (fun (s : State) u =>
    let v := (s.slot (0x90 + u)).version
    s.setSlot (0x90 + u) (userSlot (Tbl.look [] s.bnc.users u) v)) s

/-- The stored slots that a journal lists (R514). -/
def State.loadEntries (s : State) (j : Journal) (readable : Bool) : State :=
  j.entries.foldl (fun (s : State) e => s.setSlot e.1 (if readable then e.2 else { e.2 with key := [] })) s

/-- The Binnacle starts after the fifth extend (R499–R502, R515, R518, R519): LS_STATE, the journal's choice, the slots,
and the end of a reseal that a fall-back discards. -/
def State.bncStart (s : State) : State :=
  let (nonce, s) := s.random 32
  let s : State := { s with bnc := { s.bnc with bootNonce := nonce, slots := [], commits := [], writing := false } }
  let one := s.bnc.j0.isSome != s.bnc.j1.isSome
  let s := if one then s.raise 86 0x0103 (b2n s.bnc.j0.isSome) else s
  let ls := s.lsState
  let s := s.setLsState ls
  let tag := chainTag s.bnc.chain
  let s := match s.selected with
    | none => s.wr Reg.bnc_JSEL 0 3
    | some (k, j) =>
      let s : State := { s with bnc := { s.bnc with slrEpoch := j.slrEpoch, lmsNext := j.lmsNext } }
      if j.chainTag = tag then
        let s := (s.wr Reg.bnc_JSEL 0 k).setLeaf j.lmsNext
        let s := s.loadEntries j true
        if s.upd.fallen ≠ 0 && s.bnc.reseal.isSome then
          State.raise { s with bnc := { s.bnc with reseal := none } } 90 0x0106 2
        else s
      else match s.bnc.reseal with
        | some r =>
          if r.chainTag = tag ∧ r.base = j.counter then
            let s := ((s.wr Reg.bnc_JSEL 0 2).wr Reg.bnc_TRIAL 0 1).setLeaf r.lmsNext
            let s : State := { s with bnc := { s.bnc with slrEpoch := r.slrEpoch, lmsNext := r.lmsNext + 1024 } }
            s.loadEntries r true
          else (s.wr Reg.bnc_JSEL 0 3).loadEntries j false
        | none => (s.wr Reg.bnc_JSEL 0 3).loadEntries j false
  let s := s.syncJournal
  if ls = 0 then s
  else
    let s := (s.deriveSlots).deriveUsers
    if ls = 1 then s else s.orphan fun _ _ => true

/-- MEASUREMENT_EXTEND (R499, R501): Pilot extends the chain; the Binnacle takes exactly five extends. -/
def execMeasurementExtend (d : Bytes) (s : State) : Host.Outcome State Fault Refusal :=
  .next (
    let n := s.raw Reg.bnc_MEAS_COUNT
    if 5 ≤ n then s
    else
      let s : State := { s with bnc := { s.bnc with
        chain := Config.sha384 (s.bnc.chain ++ d), digests := s.bnc.digests ++ [d] } }
      let s := s.wr Reg.bnc_MEAS_COUNT 0 (n + 1)
      if n = 4 then s.bncStart else s)

/-! ### Commands: how they end (R507) -/

/-- A command refused: counted, and its handle completed with the reason. -/
def State.bncRefused (s : State) (h reason : Nat) : State := (s.bncRefuse reason).complete h stREFUSED reason

/-- What bars a key change that needs the journal. -/
def State.changeBar (s : State) : Option Nat :=
  (s.keyChangeBar).or (if s.journalOpen then none else some rsLocked)

/-! ### Genesis (R498) -/

/-- BNC_GENESIS: a new Lodestone, identity keys and import key; both journal slots and the reseal area are erased. -/
def execBncGenesis (src : Requester) (s : State) : Host.Outcome State Fault Refusal :=
  .next (
    let (h, s) := s.newHandle src
    match s.keyChangeBar with
    | some r => s.bncRefused h r
    | none =>
      if s.raw Reg.bnc_LS_STATE = 1 || s.bnc.commits.any (fun c => c.what = 4) then s.bncRefused h rsSlotInUse
      else
        let (l, s) := s.random 48
        let (sign, s) := s.random 48
        let (hss, s) := s.random 48
        let (kik, s) := s.random 48
        let s : State := { s with bnc := { s.bnc with
          lodestone := some l, j0 := none, j1 := none, reseal := none, slots := [], slrEpoch := [], users := [],
          pairRolled := false, lmsNext := 0 } }
        let s := (((State.syncSlots s).setLeaf 0).wr Reg.bnc_JSEL 0 3).syncJournal
        s.queueCommit { what := 4, data := [sign, hss, kik], handle := some h })

/-! ### Import and deletion (R508–R510) -/

/-- The magic "KIM1" of an import record, also the info string of its wrapping key (R508, R509). -/
def kim1 : Bytes := ascii [0x4B, 0x49, 0x4D, 0x31]

/-- The slot of an import record, its kind, usage, parent and owner are allowed (R508, R509). -/
def importFormOk (r : Bytes) : Bool :=
  let slot := le 6 2 r
  let parent := le 12 2 r
  let owner := le 14 1 r
  r.take 4 = kim1 && le 4 2 r = 1 && (slot = 5 || slot = 6 || decide (0x100 ≤ slot) && decide (slot ≤ 0xFFF))
    && (le 8 1 r = 2 || le 8 1 r = 3) && le 132 2 r = 32
    && (parent = 0 && owner = 0xFF || decide (8 ≤ parent) && decide (parent < 0x88) && owner = parent - 8)

/-- Usage bits that a kind allows at import: AES-256 bits 0–4, HMAC-SHA-256 bits 3 and 4 (R509). -/
def importUsages (kind : Nat) : Nat := if kind = 2 then 0x1F else 0x18

/-- The key of an import record unwrapped with KIK (R509). -/
def importKey (kik serial r : Bytes) : Option Bytes :=
  let kek := Config.hkdf (Config.ecdh kik (slice 32 97 r)) serial kim1 32
  Config.gcmOpen kek (List.replicate 12 0) (r.take 136 ++ slice 184 4 r) (slice 136 48 r)

/-- Why an import fails, or the key. Two imports to one slot are served in order: the second finds it taken (R526). -/
def State.importCheck (s : State) (r : Bytes) : Except Nat Bytes :=
  match s.changeBar with
  | some x => .error x
  | none =>
    if !importFormOk r then .error rsImportFormat
    else if (s.slot (le 6 2 r)).state = 1 || s.bnc.commits.any (fun c => c.what = 1 && c.slot = le 6 2 r) then
      .error rsSlotInUse
    else match s.keyFor (le 12 2 r) useWrap with
      | .error x => .error x
      | .ok _ => match s.keyFor 3 useAgree with
        | .error x => .error x
        | .ok kik => match importKey kik s.ident.serial r with
          | none => .error rsImportAuth
          | some k => .ok k

/-- BNC_IMPORT (R508, R509): one import record is unwrapped; the slot takes the key when the journal is committed. -/
def execBncImport (src : Requester) (s : State) : Host.Outcome State Fault Refusal :=
  .next (
    let (h, s) := s.newHandle src
    let r := s.domBytes 0x040902 0 188
    let s := s.releaseDomain 0x040902
    match s.importCheck r with
    | .error x => (s.bncRefused h x).raise 87 0x0104 (le 6 2 r + x * 2 ^ 16)
    | .ok k =>
      let slot := le 6 2 r
      let use := le 10 2 r
      let keep := use &&& importUsages (le 8 1 r)
      let s := if keep = use then s else s.clampReport h 0x04090200 use keep 4
      s.queueCommit { what := 1, slot := slot, handle := some h, clamped := decide (keep ≠ use), key :=
        { state := 1, kind := le 8 1 r, usage := keep, parent := le 12 2 r, owner := le 14 1 r, keyId := le 184 4 r,
          version := (s.slot slot).version + 1, key := k } })

/-- A slot that only an import fills (R502). -/
def State.imported (s : State) (n : Nat) : Bool :=
  n = 5 || n = 6 || decide (0x100 ≤ n) && decide (n ≤ 0xFFF) && (s.slot n).kind != 7

/-- BNC_DELETE (R510): an imported slot is emptied when the journal is committed. -/
def execBncDelete (src : Requester) (n : Nat) (s : State) : Host.Outcome State Fault Refusal :=
  .next (
    let (h, s) := s.newHandle src
    match s.changeBar with
    | some r => s.bncRefused h r
    | none =>
      if !s.imported n then s.bncRefused h rsNotPermitted
      else if (s.slot n).state = 0 then s.bncRefused h rsAbsent
      else s.queueCommit { what := 2, slot := n, handle := some h })

/-! ### Invalidation and users (R511–R513) -/

/-- `x` descends from slot `n`. The tree is three deep below the chain root: session root, user entry, session (R502). -/
def State.descends (s : State) (n : Nat) (k : KeySlot) : Bool :=
  k.parent = n || (decide (0x90 ≤ k.parent) && decide (k.parent < 0xD0) && (s.slot k.parent).parent = n)

/-- The session root renewed: a new BOOT_NONCE, every descendant ORPHANED (R511). -/
def State.renewSession (s : State) : State :=
  let (nonce, s) := s.random 32
  let s := s.orphan fun _ k => s.descends 4 k
  let s : State := { s with bnc := { s.bnc with bootNonce := nonce } }
  s.setSlot 4 { rootSlot 0 0xFF (Config.hkdf s.chainRoot nonce infoSess 48) with version := (s.slot 4).version + 1 }

/-- A user entry renewed: its sessions' slots become ORPHANED (R511). -/
def State.renewUser (s : State) (u : Nat) : State :=
  let s := s.orphan fun _ k => k.parent = 0x90 + u
  s.setSlot (0x90 + u) (userSlot (Tbl.look [] s.bnc.users u) ((s.slot (0x90 + u)).version + 1))

/-- BNC_INVALIDATE (R511): a slice root, the session root or a user entry. -/
def execBncInvalidate (src : Requester) (n : Nat) (s : State) : Host.Outcome State Fault Refusal :=
  .next (
    let (h, s) := s.newHandle src
    match s.keyChangeBar with
    | some r => s.bncRefused h r
    | none =>
      if 8 ≤ n ∧ n < 0x88 then
        if (s.slot n).state = 2 then s.bncRefused h rsOrphaned
        else if !s.journalOpen then s.bncRefused h rsLocked
        else s.renewRoot (n - 8) (some h)
      else if n = 4 then
        if (s.slot 4).state = 1 then (s.renewSession).complete h stOK
        else s.bncRefused h (if (s.slot 4).state = 2 then rsOrphaned else rsAbsent)
      else if 0x90 ≤ n ∧ n < 0xD0 then
        if (s.slot n).state = 1 then (s.renewUser (n - 0x90)).complete h stOK
        else s.bncRefused h (if (s.slot n).state = 2 then rsOrphaned else rsAbsent)
      else s.bncRefused h rsNotPermitted)

/-- A staged user entry as applied, with its clamps (R513). -/
def clampUser (e : Bytes) : Bytes × List (Nat × Nat × Nat) :=
  let n := le 0 1 e
  let (e, a) : Bytes × List (Nat × Nat × Nat) := if 32 < n then (BitVec.ofNat 8 32 :: e.drop 1, [(n, 32, 2)]) else (e, [])
  let st := le 35 1 e
  if 2 < st then (e.take 35 ++ [2] ++ e.drop 36, a ++ [(st, 2, 3)]) else (e, a)

/-- An entry that is used (R513). -/
def userUsed (e : Bytes) : Bool := !e.isEmpty && le 0 1 e != 0 && le 35 1 e != 0

/-- An active entry that permits the Security Officer role (R49, R513). -/
def userOfficer (e : Bytes) : Bool := userUsed e && le 35 1 e = 1 && bit 3 (le 33 1 e)

/-- What a change invalidates: public key, roles or state (R513). -/
def userSame (a b : Bytes) : Bool :=
  !userUsed a && !userUsed b || userUsed a && userUsed b && slice 40 97 a = slice 40 97 b && le 33 1 a = le 33 1 b
    && le 34 1 a = le 34 1 b && le 35 1 a = le 35 1 b

/-- The staged table applies; the last entry that permits the Security Officer role stays (R513). Answers whether a value
was clamped. -/
def State.applyUsers (s : State) (who : Nat) : Bool × State :=
  let staged := (List.range 64).map fun u => (u, clampUser (s.domBytes 0x040900 (160 * u) 160))
  let old := fun u => Tbl.look ([] : Bytes) s.bnc.users u
  let lastOfficer := ((List.range 64).filter fun u => userOfficer (old u)).getLast?
  let keep : Option Nat := if staged.any (fun p => userOfficer p.2.1) then none else lastOfficer
  let clamps := (staged.flatMap fun p => p.2.2.map fun c => (p.1, c)) ++
    (keep.elim [] fun u => [(u, ofLe ((s.domBytes 0x040900 (160 * u) 8)), ofLe ((old u).take 8), 7)])
  let s := clamps.foldl (fun (s : State) c => s.clampReport who 0x04090000 c.2.1 c.2.2.1 c.2.2.2) (s.releaseDomain 0x040900)
  let s := staged.foldl (fun (s : State) p =>
    let u := p.1
    if keep = some u then s
    else
      let new := if userUsed p.2.1 then p.2.1 else []
      let was := old u
      let s : State := { s with bnc := { s.bnc with users := Tbl.put ([] : Bytes) s.bnc.users u new } }
      if userSame was new then s else s.renewUser u) s
  (!clamps.isEmpty, if s.raw Reg.bnc_LS_STATE = 1 then s.deriveUsers else s)

/-- BNC_USER (R513). -/
def execBncUser (src : Requester) (s : State) : Host.Outcome State Fault Refusal :=
  .next (
    let (h, s) := s.newHandle src
    match s.keyChangeBar with
    | some r => s.bncRefused h r
    | none =>
      let (c, s) := s.applyUsers h
      (s.changed).complete h (if c then stCLAMPED else stOK))

/-- BNC_PAIR_ROLL (R506): the sender of pair frames uses slot 0x0006 from now on. -/
def execBncPairRoll (src : Requester) (s : State) : Host.Outcome State Fault Refusal :=
  .next (
    let (h, s) := s.newHandle src
    match s.keyFor 6 useTagGen with
    | .error r => s.bncRefused h r
    | .ok _ => State.complete { s with bnc := { s.bnc with pairRolled := true } } h stOK)

/-! ### Attestation and identity signatures (R520–R522) -/

/-- Leaves of the HSS key, and the number that starts the warning (R521). -/
def lmsLeaves : Nat := 2 ^ 40
def lmsLow : Nat := 2 ^ 20

/-- A signature with the HSS key and the next leaf, which the reservation covers. -/
def State.signHss (s : State) (key msg : Bytes) : Bytes × State :=
  let n := s.bnc.leaf
  let s := s.setLeaf (n + 1)
  (Config.hssSign key n msg,
    if lmsLeaves - (n + 1) < lmsLow ∧ lmsLow ≤ lmsLeaves - n then s.raise 89 0x0105 (min (2 ^ 32 - 1) (lmsLeaves - (n + 1)))
    else s)

/-- Bytes 0 to 383 of an attestation report (R522). -/
def State.reportHead (s : State) (nonce : Bytes) : Bytes :=
  ascii [0x41, 0x54, 0x54, 0x31] ++ beBytes 2 1
    ++ beBytes 2 (s.raw Reg.bnc_TRIAL + 2 * s.raw Reg.bnc_TAMP_LATCH + 4 * s.raw Reg.bnc_RESEAL_PEND)
    ++ padTo 12 s.ident.serial ++ beBytes 4 (s.wh.fleet % 2 ^ 20) ++ beBytes 2 0x4201 ++ beBytes 2 0 ++ time96 s.tai
    ++ padTo 32 (nonce.take 32) ++ s.bnc.chain ++ s.bnc.digests.flatten
    ++ beBytes 8 ((s.selected).elim 0 fun p => p.2.counter) ++ beBytes 8 s.bnc.leaf ++ beBytes 8 0

/-- The report is signed and written; the handle completes with its length (R522). -/
def State.attest (s : State) (h : Nat) (nonce : Bytes) : State :=
  match s.useKey 1 useSign 6 with
  | (none, s) => s.complete h stREFUSED (match s.keyFor 1 useSign with | .error r => r | .ok _ => rsAbsent)
  | (some ec, s) => match s.useKey 2 useSign 6 with
    | (none, s) => s.complete h stREFUSED (match s.keyFor 2 useSign with | .error r => r | .ok _ => rsAbsent)
    | (some hss, s) =>
      let head := s.reportHead nonce
      let (sig, s) := s.signHss hss head
      State.complete (s.fillDomain 0x040905 (head ++ Config.ecSign ec (Config.sha384 head) ++ sig)) h stOK 6196

/-- A signature by the HSS key alone: the answer of the operation. -/
def State.answerHss (s : State) (msg : Bytes) : State :=
  match s.useKey 2 useSign 6 with
  | (none, s) => { s with bnc := { s.bnc with lastAnswer := [] } }
  | (some hss, s) =>
    let (sig, s) := s.signHss hss msg
    { s with bnc := { s.bnc with lastAnswer := sig } }

/-- Why no leaf can be used at all (R521): all are used, or a trial has used those reserved in R. -/
def State.leafBar (s : State) : Bool :=
  decide (lmsLeaves ≤ s.bnc.leaf) || (s.flag Reg.bnc_TRIAL && decide (s.bnc.lmsNext ≤ s.bnc.leaf))

/-- A signer waits for a reservation of leaves: it joins the one that is under way, or starts one (R521, R526). A waiter is
its kind (0 attestation, 1 signature), its handle and its data. -/
def State.awaitLeaves (s : State) (w : Bytes) : State :=
  if s.bnc.commits.any fun c => c.what = 5 then
    { s with bnc := { s.bnc with commits := s.bnc.commits.map fun (c : Commit) =>
        if c.what = 5 then { c with data := c.data ++ [w] } else c } }
  else s.queueCommit { what := 5, data := [w] }

/-- What a waiter does once leaves are there. -/
def State.serveWaiter (s : State) (w : Bytes) : State :=
  if le 0 1 w = 0 then s.attest (le 1 4 w) (w.drop 5) else s.answerHss (w.drop 5)

/-- BNC_ATTEST (R522). -/
def execBncAttest (src : Requester) (nonce : Bytes) (s : State) : Host.Outcome State Fault Refusal :=
  .next (
    let (h, s) := s.newHandle src
    match s.keyFor 1 useSign, s.keyFor 2 useSign with
    | .error r, _ => State.complete (s.bncFail r 1 6) h stREFUSED r
    | _, .error r => State.complete (s.bncFail r 2 6) h stREFUSED r
    | .ok _, .ok _ =>
      if s.leafBar then s.bncRefused h rsLmsExhausted
      else if s.bnc.lmsNext ≤ s.bnc.leaf ∨ s.bnc.commits.any (fun c => c.what = 5) then
        s.awaitLeaves (leBytes 1 0 ++ leBytes 4 h ++ nonce)
      else s.attest h nonce)

/-! ### The journal (R514–R519) -/

/-- The entries a journal of the present slots lists: stored and not orphaned (R511, R514). -/
def State.journalEntries (s : State) : Tbl KeySlot :=
  s.bnc.slots.filter fun e => storedSlot e.1 e.2 && e.2.state = 1

/-- What a commit changes before the journal is built: the state it leaves when its read-back is good (R516). -/
def State.applyCommit (s : State) (c : Commit) : State :=
  match c.what with
  | 1 => s.setSlot c.slot { c.key with version := (s.slot c.slot).version + 1 }
  | 2 => s.setSlot c.slot { version := (s.slot c.slot).version + 1 }
  | 4 =>
    let key := fun i => c.data.getD i []
    let s := (s.setSlot 1 { state := 1, kind := 4, usage := 0x20, parent := 0, owner := 0xFF, version := 1, key := key 0 }).setSlot 2
      { state := 1, kind := 6, usage := 0x20, parent := 0, owner := 0xFF, version := 1, key := key 1 }
    let s := s.setSlot 3 { state := 1, kind := 5, usage := 0x80, parent := 0, owner := 0xFF, version := 1, key := key 2 }
    State.wr (s.deriveSlots) Reg.bnc_TAMP_LATCH 0 0
  | 5 => { s with bnc := { s.bnc with lmsNext := s.bnc.lmsNext + 1024 } }
  | 6 =>
    let next := (s.selected).elim 0 fun p => p.2.lmsNext
    State.setLeaf { s with bnc := { s.bnc with lmsNext := max next s.bnc.lmsNext } } (max next s.bnc.lmsNext)
  | 7 => { s with bnc := { s.bnc with lmsNext := s.bnc.lmsNext + 1024 } }
  | _ => s

/-- The journal of the present slots with a COUNTER. -/
def State.buildJournal (s : State) (counter : Nat) : Journal :=
  { counter := counter, chainTag := chainTag s.bnc.chain, lsCheck := lsCheck (s.bnc.lodestone.getD []),
    lmsNext := s.bnc.lmsNext, slrEpoch := s.bnc.slrEpoch, entries := s.journalEntries }

/-- A commit's journal is in force: the other J slot holds it; R is rebuilt, prepared or erased (R516, R517, R519). -/
def State.writeJournal (s : State) (c : Commit) : State :=
  let k := (s.selected).elim 0 fun p => 1 - p.1
  let j := s.buildJournal ((s.selected).elim 1 fun p => p.2.counter + 1)
  let s : State := if k = 0 then { s with bnc := { s.bnc with j0 := some j } } else { s with bnc := { s.bnc with j1 := some j } }
  let s := s.wr Reg.bnc_JSEL 0 k
  let r : Option Journal :=
    if c.what = 6 then none
    else if c.what = 7 then
      some { j with chainTag := chainTag (c.data.getD 0 []), base := j.counter, lmsNext := j.lmsNext - 1024 }
    else s.bnc.reseal.map fun r => { j with chainTag := r.chainTag, base := j.counter, lmsNext := r.lmsNext }
  State.syncJournal { s with bnc := { s.bnc with reseal := r } }

/-- What follows a good commit: its handle, LS_STATE after a genesis, the reseal's events, the signers that waited. -/
def State.finishCommit (s : State) (c : Commit) : State :=
  let s := match c.what with
    | 4 => s.setLsState 1
    | 6 => (s.wr Reg.bnc_TRIAL 0 0).raise 90 0x0106 1
    | 7 => s.raise 90 0x0106 0
    | _ => s
  let s := match c.handle with
    | some h => s.complete h (if c.clamped then stCLAMPED else stOK)
    | none => s
  if c.what = 5 then c.data.foldl (fun (s : State) w => s.serveWaiter w) s else s

/-- A failed read-back: the old selection stays, source 86 reports it and the operation is refused (R516). -/
def State.failCommit (s : State) (c : Commit) : State :=
  let k := (s.selected).elim 0 fun p => 1 - p.1
  let s : State := if k = 0 then { s with bnc := { s.bnc with j0 := none } } else { s with bnc := { s.bnc with j1 := none } }
  let s := (s.bncRefuse rsJournalFail).raise 86 0x0102 k
  let s := match c.handle with
    | some h => s.complete h stREFUSED rsJournalFail
    | none => s
  let s := if c.what = 5 then (c.data.filter fun w => le 0 1 w = 0).foldl
      (fun (s : State) w => s.complete (le 1 4 w) stREFUSED rsJournalFail) s else s
  if c.what = 4 then s.setLsState s.lsState else s

/-- JOURNAL_COMMIT_DONE (R516): the oldest commit's read-back is good or fails; the next one starts. -/
def execJournalCommitDone (ok : Bool) (s : State) : Host.Outcome State Fault Refusal :=
  .next (match s.bnc.commits with
    | [] => s
    | c :: rest =>
      if !s.bnc.writing then s
      else
        let s : State := { s with bnc := { s.bnc with commits := rest, writing := false } }
        let s := if ok then ((s.applyCommit c).writeJournal c).finishCommit c else s.failCommit c
        s.startCommits)

/-! ### Tamper (R497) -/

/-- TAMPER: loop (1) or switch (2). The Lodestone is zeroed, every slot but the anchors is ORPHANED, operations in
progress fail. -/
def execTamper (which : Nat) (s : State) : Host.Outcome State Fault Refusal :=
  .next (
    if !(if which = 1 then s.flag Reg.bnc_TAMP_LOOP_EN else s.flag Reg.bnc_TAMP_SW_EN) then s
    else
      let cs := s.bnc.commits
      let k := (s.selected).elim 0 fun p => 1 - p.1
      let s : State := { s with bnc := { s.bnc with
        lodestone := none, commits := [], writing := false,
        j0 := (if s.bnc.writing && k = 0 then none else s.bnc.j0),
        j1 := (if s.bnc.writing && k = 1 then none else s.bnc.j1) } }
      let s := State.orphan (s.wr Reg.bnc_TAMP_LATCH 0 1) fun _ _ => true
      let hs := cs.flatMap fun c => (c.handle.toList) ++
        (if c.what = 5 then (c.data.filter fun w => le 0 1 w = 0).map (le 1 4) else [])
      let s := hs.foldl (fun (s : State) h => s.bncRefused h rsOrphaned) s
      (s.raise 114 0x0100 which).setLsState 3)

/-! ### Operations other blocks ask for (R505) -/

/-- The operations of R505. -/
inductive KeyOp where
  | tagGen | tagChk | sign | verify | sealing | opening | agree
  deriving DecidableEq, Repr

/-- KEY_CUR or KEY_NEXT of an association in a live epoch (R204). -/
def State.saSlot (s : State) (n : Nat) : Bool :=
  s.net.epochs.any fun e => e.sa.any fun x => le 2 2 x.2 = n || le 4 2 x.2 = n

/-- A requester may ask for an operation on a slot (R505). -/
def State.permitted (s : State) (req : Nat) (op : KeyOp) (n : Nat) : Bool :=
  match req, op with
  | 1, .tagGen => s.saSlot n
  | 1, .tagChk => s.saSlot n
  | 2, .agree => n = 4
  | 2, .sign => n = 1
  | 2, .sealing => decide (0x100 ≤ n) && decide (n ≤ 0xFFF) && (s.slot n).kind = 7
  | 2, .opening => decide (0x100 ≤ n) && decide (n ≤ 0xFFF) && (s.slot n).kind = 7
  | 3, .tagGen => n = 5 || n = 6
  | 3, .tagChk => n = 5 || n = 6
  | 3, .sealing => n = 5 || n = 6
  | 3, .opening => n = 5 || n = 6
  | 4, .sealing => s.imported n
  | 4, .opening => s.imported n
  | 5, .verify => n = 0x88 || n = 0x89
  | 6, .sign => n = 1 || n = 2
  | _, _ => false

/-- The usage bit that an operation of a requester needs: a migration key needs WRAP (R504, R505). -/
def KeyOp.usage (op : KeyOp) (req : Nat) : Nat :=
  match op with
  | .tagGen => useTagGen
  | .tagChk => useTagChk
  | .sign => useSign
  | .verify => useVerify
  | .sealing => if req = 4 then useWrap else if req = 3 then useTagGen else useSeal
  | .opening => if req = 4 then useWrap else if req = 3 then useTagChk else useSeal
  | .agree => 0

/-- The answer of the last operation. -/
def State.answer (s : State) (b : Bytes) : State := { s with bnc := { s.bnc with lastAnswer := b } }

/-- An operation by a requester: refused with a reason (R507), or served with the key. -/
def State.keyOp (s : State) (req : Nat) (op : KeyOp) (n : Nat) (f : Bytes → State → State) : State :=
  if !s.permitted req op n then (s.bncFail rsUsage n req).answer []
  else match s.useKey n (op.usage req) req with
    | (none, s) => s.answer []
    | (some k, s) => f k s

/-- The tag of an operation: the tag unit's algorithm, or the pair tag under its derived key (R203, R506). -/
def opTag (req alg len : Nat) (k iv data : Bytes) : Bytes :=
  if req = 3 then Config.gmac (Config.hkdf k [] (ascii [0x52, 0x5A, 0x20, 0x50, 0x41, 0x49, 0x52, 0x31]) 32) iv data
  else tagOf alg (macLen alg len) k data

/-- TAG_GEN (R505). -/
def execTagGen (req n alg len : Nat) (iv data : Bytes) (s : State) : Host.Outcome State Fault Refusal :=
  .next (s.keyOp req .tagGen n fun k s => s.answer (opTag req alg len k iv data))

/-- TAG_CHK (R505): the answer is one byte, 1 for a good tag. -/
def execTagChk (req n alg len : Nat) (iv data tag : Bytes) (s : State) : Host.Outcome State Fault Refusal :=
  .next (s.keyOp req .tagChk n fun k s => s.answer [if opTag req alg len k iv data = tag then 1 else 0])

/-- SIGN (R520, R521): ECDSA by slot 0x0001, HSS by slot 0x0002 with the next leaf. -/
def execSign (req n : Nat) (msg : Bytes) (s : State) : Host.Outcome State Fault Refusal :=
  .next (s.keyOp req .sign n fun k s =>
    if n = 1 then s.answer (Config.ecSign k msg)
    else if s.leafBar then (s.bncFail rsLmsExhausted n req).answer []
    else if s.bnc.lmsNext ≤ s.bnc.leaf ∨ s.bnc.commits.any (fun c => c.what = 5) then
      s.awaitLeaves (leBytes 1 1 ++ leBytes 4 0 ++ msg)
    else s.answerHss msg)

/-- VERIFY (R505): the answer is one byte, 1 for a good signature. -/
def execVerify (req n : Nat) (digest sig : Bytes) (s : State) : Host.Outcome State Fault Refusal :=
  .next (s.keyOp req .verify n fun k s =>
    s.answer [if (if n = 0x88 then Config.ecVerify k digest sig else Config.hssVerify k digest sig) then 1 else 0])

/-- The key and nonce of an encryption: a session's direction with its salt (R72, R73), the resync envelope (R506), a blob's
derived key (R423). -/
def opCipher (req : Nat) (out : Bool) (k nonce : Bytes) : Bytes × Bytes :=
  if req = 2 then
    let d := if out then k.drop 36 else k.take 36
    (d.take 32, (d.drop 32).take 4 ++ nonce)
  else if req = 3 then (Config.hkdf k [] (ascii [0x52, 0x5A, 0x20, 0x52, 0x53, 0x59, 0x31]) 32, nonce)
  else (Config.hkdf k nonce (ascii [0x53, 0x4C, 0x42, 0x31]) 32, nonce)

/-- SEAL (R505): ciphertext and tag. -/
def execSealOp (req n : Nat) (nonce aad data : Bytes) (s : State) : Host.Outcome State Fault Refusal :=
  .next (s.keyOp req .sealing n fun k s =>
    let (key, iv) := opCipher req true k nonce
    s.answer (Config.gcmSeal key iv aad data))

/-- OPEN (R505): plaintext, or nothing when the tag is bad. -/
def execOpenOp (req n : Nat) (nonce aad data : Bytes) (s : State) : Host.Outcome State Fault Refusal :=
  .next (s.keyOp req .opening n fun k s =>
    let (key, iv) := opCipher req false k nonce
    s.answer ((Config.gcmOpen key iv aad data).getD []))

/-- The lowest EMPTY slot of the general pool. -/
def State.poolSlot (s : State) : Option Nat :=
  let used := (s.bnc.slots.filter fun e => 0x100 ≤ e.1 && e.2.state ≠ 0).map (·.1)
  let waiting := (s.bnc.commits.filter fun c => c.what = 1).map (·.slot)
  (List.range' 0x100 0xF00).find? fun n => !used.contains n && !waiting.contains n

/-- The key agreement of R72 with a client: an ephemeral key is drawn and the two directions' 36 bytes go into a SESSION
slot (R505). Answers the module's public key and the slot. -/
def State.agree (s : State) (clientPub clientNonce moduleNonce : Bytes) : Option (Bytes × Nat) × State :=
  match s.poolSlot with
  | none => (none, s.bncFail rsSlotInUse 4 2)
  | some n =>
    let (e, s) := s.random 48
    let z := Config.ecdh e clientPub
    let salt := clientNonce ++ moduleNonce
    let key := Config.hkdf z salt (ascii [0x43, 0x52, 0x31, 0x20, 0x63, 0x32, 0x6D]) 36
      ++ Config.hkdf z salt (ascii [0x43, 0x52, 0x31, 0x20, 0x6D, 0x32, 0x63]) 36
    let slot : KeySlot :=
      { state := 1, kind := 7, usage := 4, parent := 4, owner := 0xFF, version := (s.slot n).version + 1, key := key }
    (some (Config.ecPublic e, n), s.setSlot n slot)

/-- AGREE (R505): the answer is the module's public key and the slot number. -/
def execAgree (req n : Nat) (clientPub clientNonce moduleNonce : Bytes) (s : State) : Host.Outcome State Fault Refusal :=
  .next (s.keyOp req .agree n fun _ s =>
    match s.agree clientPub clientNonce moduleNonce with
    | (some (pub, k), s) => s.answer (pub ++ beBytes 2 k)
    | (none, s) => s.answer [])

end Sys2Proof.Machine
end

