-- ==== Sys2Proof/Machine/Exchange.lean ====
section
/-!
DEFINITION. The exchange of an instance set for another without stopping its outputs (R350–R354).
-/

namespace Sys2Proof.Machine

/-- The bytes of a migration map's entries carried from old data to new (R353): the new data and the clamps made, by new
offset, written and applied LEN. `isNew` takes the EDGE_NEW entries, whose values `edge` gives, and no others. -/
def migrate (map : List Bytes) (oldLen newLen : Nat) (old : List Host.Cell) (isNew : Bool) (edge : Nat → Option Nat)
    (new : List Host.Cell) : List Host.Cell × List (Nat × Nat × Nat) :=
  map.foldl (fun (z : List Host.Cell × List (Nat × Nat × Nat)) e =>
    let (kind, arg, oo, no, len) := mapEntry e
    let cut := if kind = 4 then min len (newLen - no) else cutLen oldLen newLen oo no len
    let cs := if cut = len then z.2 else z.2 ++ [(no, len, cut)]
    if kind = 4 then
      match isNew, edge arg with
      | true, some v => (Memory.writeBytes z.1 no (leBytes cut v), cs)
      | _, _ => z
    else if isNew || kind = 0 || 4 < kind then z
    else (Memory.writeBytes z.1 no (Memory.readBytes old oo (if kind = 2 then min 8 cut else cut)), cs)) (new, [])

/-- The outcome for an instance in both sets (R352): 0 copied, 1 migrated, 2 new. -/
def exchOutcome (map : Option (Nat × Nat × Nat × List Bytes)) (x y : Inst) : Nat :=
  if x.prog.typeId ≠ y.prog.typeId then 2
  else if map.any fun m => m.1 = y.prog.typeId && m.2.1 = x.prog.typeVer && m.2.2.1 = y.prog.typeVer then 1
  else if x.prog.typeVer = y.prog.typeVer && x.dataLen = y.dataLen then 0 else 2

/-- The signal input of an instance that an EDGE_NEW entry names: its present value as LDSG gives it (R305, R353). -/
def State.edgeValue (s : State) (y : Inst) (n : Nat) : Option Nat :=
  (y.inputs[n]?).bind fun tb =>
    if tb.1.kind = 3 then some (signalWord tb.1.vtype (s.readSignal (tb.2 % 2 ^ 18)).1) else none

/-- Instance data for evaluation E, the outcome, and the clamps of the map's entries (R352, R353). -/
def State.exchData (s : State) (map : Option (Nat × Nat × Nat × List Bytes)) (x : Option Inst) (y : Inst) :
    List Host.Cell × Nat × List (Nat × Nat × Nat) :=
  let init := Memory.writeBytes [] 0 y.init
  let es := (map.map fun m => m.2.2.2).getD []
  let fresh := if map.any fun m => m.1 = y.prog.typeId && m.2.2.1 = y.prog.typeVer then es else []
  match x.map fun x => (x, exchOutcome map x y) with
  | some (x, 0) => (x.data, 0, [])
  | some (x, 1) =>
    let (d, cs) := migrate es x.dataLen y.dataLen x.data false (s.edgeValue y) init
    (d, 1, cs)
  | _ =>
    let (d, cs) := migrate fresh 0 y.dataLen [] true (s.edgeValue y) init
    (d, 2, cs)

/-- The signal slots of some instances' outputs. -/
def writtenBy (is : List (Nat × Inst)) : List Nat := is.flatMap fun e => (slotsOf e.2.prog.outs e.2.outB).map (·.1)

/-- What happens once at X (R350, R352): tiles open, ROLLBACK blocks move, and a force on a slot that no instance of the
new set writes is released. -/
def State.beginExchange (s : State) (e : Exchange) : State × Exchange :=
  if e.forcesDone then (s, e)
  else
    let s := e.opened.foldl (fun s o => s.openTile o.1 o.2) s
    let s := s.setRollback e.rbs
    let old := s.tor.insts.filter fun x => x.1 / 512 = e.slice && x.2.set = e.oldSet && e.waiting.contains x.1
    let lost := ((writtenBy old).eraseDups.filter fun n => !(writtenBy e.news).contains n).filter fun n => (s.signal n).forceEn
    (lost.foldl (fun s n => s.releaseForce n) s, { e with forcesDone := true, released := lost })

/-- An exchange in its new condition. -/
def State.putExchange (s : State) (e : Exchange) : State :=
  { s with tor := { s.tor with exchanges := s.tor.exchanges.map fun x => if x.handle = e.handle then e else x } }

/-- The report of an exchange (R354). -/
def Exchange.image (e : Exchange) : Bytes :=
  [0x46, 0x42, 0x58, 0x31] ++ leBytes 4 e.handle ++ leBytes 4 e.report.length ++ leBytes 4 e.released.length
    ++ (e.report.flatMap fun r => leBytes 2 r.1 ++ leBytes 1 r.2.1 ++ [0] ++ leBytes 4 r.2.2) ++ e.released.flatMap (leBytes 4)

/-- An instance's new version takes its place with its data for evaluation E (R352). -/
def State.exchangeInst (s : State) (e : Exchange) (i : Nat) (y : Inst) : State × Nat × Nat :=
  let old := if s.hasInst i then some (s.inst i) else none
  let n := cdiv e.at_ (y.div * entPeriod (s.strm y.trigger).entry)
  let (d, out, cs) := s.exchData e.map old y
  let x := s.inst i
  let same := out < 2 && x.trigger = y.trigger && x.div = y.div
  let keep := same && out = 0
  let kept := (x.prog.outs.zip x.outB).zip (y.prog.outs.zip y.outB)
  let z : Inst := { y with
    data := d, next := n,
    lastFinal := if same then x.lastFinal else none,
    lastCommit := if same then x.lastCommit else none,
    lastOut := if out = 2 then [] else x.lastOut.filter fun o => match kept[o.1]? with
      | some (a, b) => a.1.kind = b.1.kind && a.1.vtype = b.1.vtype && a.2 = b.2
      | none => false,
    stopAt := if out = 2 then none else if same then x.stopAt else x.stopAt.map fun _ => n,
    stops := if same then x.stops else [],
    far := if keep then x.far else [], sigLast := if keep then x.sigLast else [], journal := if keep then x.journal else [],
    journalOver := if keep then x.journalOver else [],
    skips := if same then (if x.next < n then (x.next, n) :: x.skips else x.skips) else [] }
  let s := cs.foldl (fun s c => s.clampReport e.handle ((sliceDom e.slice 0x40) * 256) (c.1 * 2 ^ 32 + c.2.1) c.2.2 7) s
  let s := if same || old.isNone then s else s.endStops i
  let s := (s.setInst i z).takeSlots (i / 512) (slotsOf y.prog.outs y.outB)
  let s := if x.ltile = y.ltile then s else (s.unfix x.ltile i).vacate x.ltile
  (match s.tileOf y.ltile with
    | none => s
    | some t => s.setTile t { s.tile t with fixes := (s.tile t).fixes.map fun (f : TileFix) =>
        { f with insts := (f.insts.filter fun w => w.1 ≠ i) ++ [(i, n - 1, d)] } }, out, n)

/-- One instance passes the exchange (R351–R354). -/
def State.exchangeOne (s : State) (e0 : Exchange) (i : Nat) : State :=
  let (s, e) := s.beginExchange e0
  let old := if s.hasInst i then some (s.inst i) else none
  let l0 := old.map (·.ltile)
  let new := (e.news.find? fun y => y.1 = i).map (·.2)
  let gone := (old.map fun x => (slotsOf x.prog.outs x.outB).map (·.1)).getD []
  let (s, out, n) : State × Nat × Nat := match new with
    | some y => s.exchangeInst e i y
    | none => ((s.endStops i).removeInst i, 3, (s.exchangeAt i).getD 0)
  let s := gone.foldl (fun s k => s.dropWriter k) s
  let waiting := e.waiting.filter (· ≠ i)
  let e := { e with waiting := waiting, report := e.report ++ [(i, out, n % 2 ^ 32)] }
  let s := s.putExchange e
  let tileOf := fun (j : Nat) => match e.news.find? fun y => y.1 = j with
    | some y => s.tileOf y.2.ltile
    | none => s.instTile j
  let mine := match new with
    | some y => s.tileOf y.ltile
    | none => l0.bind s.tileOf
  let s := match mine with
    | none => s
    | some t => if waiting.any fun j => tileOf j = some t then s else s.raise (quadSource t) 0x0109 (e.slice * 2 ^ 24 + t)
  let s := (l0.toList ++ (new.map (·.ltile)).toList).foldl State.syncLtile s
  let s := if !waiting.isEmpty then s
    else
      let s := s.fillDomain (sliceDom e.slice 0x48) e.image
      let s := (s.complete e.handle stOK (e.report.length + e.released.length)).renameAdmit 2 e.slice e.oldSet e.newSet
      { s with tor := { s.tor with exchanges := s.tor.exchanges.filter fun x => x.handle ≠ e.handle } }
  s.publish

/-- The exchange may be applied to an instance: nothing of its old version is left to commit (R351). -/
def State.exchangeReady (s : State) (i : Nat) : Bool :=
  match s.instTile i with
  | none => true
  | some t => (s.headOf t i).isNone && !((s.tile t).evals.any fun e => e.inst = i) && !((s.tile t).replay.any fun r => r.inst = i)

/-- At a Hyper boundary an exchange whose X has come begins, and is applied to every instance that waits for nothing. -/
def State.exchangesAt (s : State) : State :=
  (s.tor.exchanges.filter fun e => decide (e.at_ ≤ s.tai)).foldl (fun s e =>
    let (s, e) := s.beginExchange e
    let s := s.putExchange e
    (e.waiting.filter fun i => s.exchangeReady i).foldl (fun s i =>
      match s.tor.exchanges.find? fun x => x.handle = e.handle with
      | some x => s.exchangeOne x i
      | none => s) s) s

/-- EXCHANGE_APPLY (R351): evaluation E − 1 of instance i has committed and X has come. -/
def execExchangeApply (i : Nat) (s : State) : Host.Outcome State Fault Refusal :=
  .next (match s.tor.exchanges.find? fun e => e.slice = i / 512 && e.waiting.contains i with
    | none => s
    | some e => if !s.exchangeReady i then s else State.exchangeOne (s.advance (s.monoOf e.at_)) e i)

/-- What FB_EXCHANGE checks and places (R350): the view with the new set, its map, instances, clamps and domains. -/
def State.computeExchange (s : State) (sl old new m : Nat) :
    Except AdmRefusal (Exchange × List (Nat × Nat × Nat × Nat) × List Nat) := do
  let v := s.admView
  let mine := v.insts.filter fun e => e.1 / 512 = sl && e.2.set = old && !e.2.leaving
  let v := { v with insts := v.insts.filter (fun e => !mine.any fun o => o.1 = e.1), extra := v.extra ++ mine }
  if 127 < sl || 31 < old || 31 < new || mine.isEmpty then Except.error { reason := adBinding }
  else
    let map ← if m = 0xFF then Except.ok none
      else if 7 < m then Except.error ({ reason := adImageFormat } : AdmRefusal)
      else match readMap [0x46, 0x42, 0x4D, 0x31] (s.image (sliceDom sl (0x40 + m))) with
        | .ok x => Except.ok (some x)
        | .error r => Except.error { reason := r }
    let (w, is, cs, ds) ← s.admSet v sl new false
    w.shared s is
    w.bounds s is
    let p := ({ req := { kind := 9, slice := sl, obj := new, check := false, deep := false, src := .wheelhouse, handle := 0 },
                at_ := s.hyperAfter } : AdmPlan).placing v w is
    Except.ok ({ slice := sl, oldSet := old, newSet := new, map := map, at_ := s.hyperAfter, handle := 0, news := p.insts,
                 waiting := ((mine.map (·.1)) ++ is).eraseDups, opened := p.opened, rbs := p.rbs },
      cs, if m = 0xFF then ds else ds ++ [sliceDom sl (0x40 + m)])

/-- FB_EXCHANGE (R350): set `old` of slice sl gives way to set `new`, with migration map m, or none. -/
def execFbExchange (src : Requester) (sl old new m : Nat) (s : State) : Host.Outcome State Fault Refusal :=
  .next (
    let (h, s) := s.newHandle src
    if s.tor.exchanges.any fun e => e.slice = sl && (e.oldSet = old || e.newSet = old || e.newSet = new) then s.complete h stBUSY
    else match s.computeExchange sl old new m with
      | .error x =>
        (s.admRefused x false).complete h stREFUSED (x.reason + x.item * 2 ^ 16)
      | .ok (e, cs, ds) =>
        let s := cs.foldl (fun s c => s.clampReport h c.1 c.2.1 c.2.2.1 c.2.2.2) s
        let s := ds.foldl (fun s d => s.releaseDomain d) s
        { s with tor := { s.tor with exchanges := s.tor.exchanges ++ [{ e with handle := h }] } })

end Sys2Proof.Machine
end

