-- ==== Sys2Proof/Machine/Redund.lean ====
section
/-!
DEFINITION. Redundancy beside the frame path: supervision, silent LANs and open rings, and the unit pair with its claim,
takeover, pair frames, mirror stream and resynchronisation (chapter 07).
-/

namespace Sys2Proof.Machine

/-! ### Supervision (R210, R216, R220) -/

/-- Destination of supervision frames (R210). -/
def State.supAddr (s : State) : Nat := 0x01154E000100 + s.rd Reg.red_SUP_ADDR

/-- A supervision frame for a node: its MAC address, and the module as its RedBox when the node is a proxied one. The
TLV layout is that of IEC 62439-3 (log entry 20). -/
def State.supFrame (s : State) (ring : Bool) (mac : Nat) (proxied : Bool) : Bytes :=
  beBytes 6 s.supAddr ++ beBytes 6 s.mgmtMac ++ beBytes 2 0x88FB ++ beBytes 2 1 ++ beBytes 2 s.red.supSeq
    ++ beBytes 1 (if ring then 23 else 20) ++ beBytes 1 6 ++ beBytes 6 mac
    ++ (if proxied then beBytes 1 30 ++ beBytes 1 6 ++ beBytes 6 s.mgmtMac else []) ++ beBytes 2 0

/-- The supervision frames of one group (R216, R229): class 3, on both of its ports. -/
def State.supervise (s : State) (g : Nat) : State :=
  let (a, b) := s.groupPorts g
  let ring := decide (8 ≤ g)
  let send := fun (s : State) (mac : Nat) (proxied : Bool) => s.originate 35 3 (some [a, b]) (s.supFrame ring mac proxied)
  let s := s.red.nodes.foldl (fun (s : State) (n : Node) => send s n.mac true) (send s s.mgmtMac false)
  if ring && (s.grp g).supSent.isNone then s.setGrp g { s.grp g with supSent := some s.mono } else s

/-- SUPERVISION_SEND (R216): at instant t. -/
def execSupervisionSend (t : Nat) (s : State) : Host.Outcome State Fault Refusal :=
  .next (
    let s := s.advance t
    let s := ((List.range 12).filter fun g => s.groupEn g && !s.groupBad g).foldl State.supervise s
    { s with red := { s.red with supSeq := (s.red.supSeq + 1) % 65536 } })

/-- PROXY_NODE_AGE (R215): the entry of an address ages out NODE_FORGET after its last frame. -/
def execProxyNodeAge (mac : Nat) (s : State) : Host.Outcome State Fault Refusal :=
  .next (match s.red.nodes.find? fun n => n.mac = mac with
    | none => s
    | some n =>
      let s := s.advance (n.last + s.rd Reg.red_NODE_FORGET * unitsSec)
      let rest := s.red.nodes.filter fun m => m.mac ≠ mac
      State.wr { s with red := { s.red with nodes := rest } } Reg.red_NODE_COUNT 0 rest.length)

/-- LAN_SILENT_TIMEOUT (R220): LAN A or B of pair k has carried no frame with RCT for SILENT while the other did. -/
def execLanSilentTimeout (k : Nat) (isB : Bool) (s : State) : Host.Outcome State Fault Refusal :=
  .next (
    let x := s.grp k
    let (mine, other) := if isB then (x.lastB, x.lastA) else (x.lastA, x.lastB)
    let f := if isB then Reg.pair_B_OK else Reg.pair_A_OK
    if 8 ≤ k || !s.groupEn k || s.groupBad k || other ≤ mine then s
    else
      let s := s.advance (mine + s.rd Reg.pair_SILENT k * unitsMs)
      if s.flag f k then (s.wr f k 0).raise 124 0x0100 (k + 16 * b2n isB) else s)

/-- RING_OPEN_TIMEOUT (R220): the module's supervision frame has not returned within 2 × LIFE_CHECK. -/
def execRingOpenTimeout (r : Nat) (s : State) : Host.Outcome State Fault Refusal :=
  .next (match (s.grp (8 + r)).supSent with
    | none => s
    | some t =>
      let s := s.advance (t + 2 * s.rd Reg.red_LIFE_CHECK * unitsMs)
      let s := s.setGrp (8 + r) { s.grp (8 + r) with supSent := none }
      if s.flag Reg.ring_RING_OK r then (s.wr Reg.ring_RING_OK r 0).raise 125 0x0100 r else s)

/-! ### The claim (R221–R224) -/

def State.unitState (s : State) : Nat := s.raw Reg.unit_UNIT_STATE

/-- The partner's peer entry. -/
def State.partner (s : State) : Peer := Tbl.look ({} : Peer) s.wh.peers (s.raw Reg.unit_PEER)

/-- SET_DIGEST (R228). -/
def State.setDigest (s : State) : Nat :=
  crc32c ([4, 5, 7].flatMap fun b => leBytes 4 (s.raw Reg.evt_EVT_CFG_LIVE b))

/-- The claim that the unit state gives; an ACTIVE module keeps the one it took (R221). -/
def State.claimNow (s : State) : Nat :=
  match s.unitState with
  | 0 => 0x80000000 + s.red.stored % 2 ^ 24
  | 4 => s.raw Reg.unit_RED_CLAIM_OWN
  | 5 => s.red.highSeen % 2 ^ 24
  | _ => 0x40000000 + s.red.highSeen % 2 ^ 24

/-- RED_CLAIM_OWN takes a claim, which every command publication then carries (R222). -/
def State.setClaim (s : State) (c : Nat) : State :=
  if s.raw Reg.unit_RED_CLAIM_OWN = c then s else (s.wr Reg.unit_RED_CLAIM_OWN 0 c).enterClaim c

/-- The claim follows the unit state. -/
def State.syncClaim (s : State) : State := s.setClaim s.claimNow

/-- The module enters a unit state. -/
def State.toUnit (s : State) (st : Nat) : State := (s.wr Reg.unit_UNIT_STATE 0 st).syncClaim

/-- Source 126 reports that the module cannot serve (R225, R230). -/
def State.cannotServe (s : State) : State := s.raise 126 0x0105 s.unitState

/-- The module decides to take over: it takes an epoch and writes it into NOR first (R224). A takeover under way is the
only one (R237). -/
def State.takeOver (s : State) : State :=
  let e := max s.red.stored s.red.highSeen + 1
  if s.red.writing.isSome || s.red.claimNext.isSome then s
  else if 0xFFFFFF < e then (s.wr Reg.unit_RED_EPOCH_EXHAUSTED 0 1).raise 126 0x0104 s.unitState
  else { s with red := { s.red with writing := some e } }

/-- TAKEOVER_EPOCH_WRITTEN (R224): at instant t the epoch is in NOR. -/
def execTakeoverEpochWritten (t : Nat) (s : State) : Host.Outcome State Fault Refusal :=
  .next (match s.red.writing with
    | none => s
    | some e =>
      let s := s.advance t
      { s with red := { s.red with stored := e, writing := none, claimNext := some e } })

/-- At a hyperperiod boundary the written epoch enters the claim and the module is ACTIVE (R224, R225, R236). -/
def State.claimApply (s : State) : State :=
  match s.red.claimNext with
  | none => s
  | some e =>
    let s : State := { s with red := { s.red with claimNext := none } }
    if s.unitState = 0 then s
    else
      let s : State := { s with red := { s.red with resync := [], mirroring := [], alert := false, rxFix := [] } }
      let s := ((s.wr Reg.unit_UNIT_STATE 0 4).wr Reg.unit_RED_RESYNC_LEFT 0 0).setClaim (0x80000000 + e)
      (s.count Reg.unit_RED_TAKEOVER).raise 126 0x0100 (0x80000000 + e)

/-! ### UNIT_EN (R226, R229) -/

/-- UNIT_EN_WRITE (R94): buffered to the next Window boundary. -/
def execUnitEnWrite (v : Bool) (s : State) : Host.Outcome State Fault Refusal :=
  .next (s.buffer Reg.unit_UNIT_EN 0 (b2n v) Reg.unit_UNIT_EN.base)

/-- The unit pair starts in JOINING with the pair flows admitted. -/
def State.unitStart (s : State) : State :=
  let s : State := { s with red := { s.red with
    enabledAt := s.mono, lastHb := 0, partnerState := 0, partnerClaim := 0, partnerFleet := 0, partnerDigest := 0,
    rxSeq := 0, rxFix := [], resync := [], mirroring := [], partner := [], mism := [], cannotAt := none } }
  ((s.wr Reg.unit_PARTNER_SEEN 0 0).toUnit 1).applyTables []

/-- UNIT_EN acts as 0 again: the module is SOLO. -/
def State.unitStop (s : State) : State :=
  let s : State := { s with red := { s.red with
    resync := [], mirroring := [], partner := [], mism := [], rxFix := [], handover := false, alert := false,
    writing := none, claimNext := none } }
  ((((s.wr Reg.unit_PARTNER_SEEN 0 0).wr Reg.unit_RED_RESYNC_LEFT 0 0).wr Reg.unit_RELINQUISH 0 0).toUnit 0).applyTables []

/-- The registers that name the pair. -/
def State.pairSetting (s : State) : Nat × Nat × Nat :=
  (s.raw Reg.unit_UNIT_EN, s.raw Reg.unit_PEER, s.raw Reg.unit_PAIR_EGRESS)

/-- The pair flows pass the checks that all admitted work shares (R229, R383). -/
def State.pairCheck (s : State) : Except AdmRefusal Unit := s.admView.shared s []

/-- After a Window boundary UNIT_EN, PEER and PAIR_EGRESS take effect (R229, R235): `before` is the state ahead of it. -/
def State.applyUnit (s before : State) : State :=
  let changed := s.pairSetting ≠ before.pairSetting
  let s : State := if changed then { s with red := { s.red with refused := false } } else s
  let on := s.unitState ≠ 0
  if !s.pairOn then (if on then s.unitStop else s)
  else if !changed && on then s
  else match s.pairCheck with
    | .ok _ => if !on then (s.unitStart).publish
      else if s.raw Reg.unit_PEER ≠ before.raw Reg.unit_PEER then ((s.unitStop).unitStart).publish
      else (s.applyTables []).publish
    | .error r =>
      let s := s.admRefused r false
      let old := before.raw Reg.unit_PAIR_EGRESS
      if on && s.raw Reg.unit_PAIR_EGRESS ≠ old then
        let new := s.raw Reg.unit_PAIR_EGRESS
        (s.wr Reg.unit_PAIR_EGRESS 0 old).clampReport 0 0x0030C700 new old 7
      else
        let s : State := { s with red := { s.red with refused := true } }
        if on then s.unitStop else s

/-! ### Pair frames (R228, R229, R506) -/

/-- Info strings of the two keys derived from the pair key: "RZ PAIR1" and "RZ RSY1". -/
def infoPair : Bytes := [0x52, 0x5A, 0x20, 0x50, 0x41, 0x49, 0x52, 0x31]
def infoResync : Bytes := [0x52, 0x5A, 0x20, 0x52, 0x53, 0x59, 0x31]

/-- The 32 bytes ahead of the body of a pair frame. -/
def State.pairHeader (s : State) (type len seq : Nat) : Bytes :=
  beBytes 1 1 ++ beBytes 1 type ++ beBytes 2 len ++ beBytes 4 seq ++ beBytes 4 (s.raw Reg.unit_RED_CLAIM_OWN)
    ++ beBytes 1 (s.unitState + 8 * b2n s.red.handover + 16 * b2n s.red.alert) ++ beBytes 3 (s.wh.fleet % 2 ^ 20)
    ++ beBytes 4 s.setDigest ++ time96 s.tai

/-- The IV of a pair frame: SEQ, TIME seconds [31:0] and nanoseconds of its header (R506). -/
def pairIv (hdr : Bytes) : Bytes := slice 4 4 hdr ++ slice 24 4 hdr ++ slice 28 4 hdr

/-- A pair frame sent in a class on the ports of PAIR_EGRESS; `sealed` puts the body into the inner envelope. Without a
usable key it is refused and not sent (R507). -/
def State.sendPair (s : State) (port cls type : Nat) (body : Bytes) (sealed : Bool := false) : State :=
  match s.keyFor (if s.bnc.pairRolled then 6 else 5) useTagGen with
  | .error r => s.bncFail r (if s.bnc.pairRolled then 6 else 5) 3
  | .ok k =>
    let seq := (s.red.txSeq + 1) % 2 ^ 32
    let hdr := s.pairHeader type (body.length + if sealed then 16 else 0) seq
    let iv := pairIv hdr
    let body := if sealed then Config.gcmSeal (Config.hkdf k [] infoResync 32) iv hdr body else body
    let addr := beBytes 6 s.partner.mac ++ beBytes 6 s.mgmtMac
    let tag := Config.gmac (Config.hkdf k [] infoPair 32) iv (addr ++ hdr ++ body)
    State.originate { s with red := { s.red with txSeq := seq } } port cls (some (portsIn (s.raw Reg.unit_PAIR_EGRESS)))
      (addr ++ beBytes 2 0x88B5 ++ hdr ++ body ++ tag)

/-- What a pair frame says that has passed its checks. -/
structure PairFrame where
  type : Nat
  claim : Nat
  state : Nat
  fleet : Nat
  digest : Nat
  hdr : Bytes
  body : Bytes
  key : Bytes
  deriving DecidableEq, Repr

/-- The tag of a pair frame checked under a slot's key. -/
def State.pairTagOk (s : State) (slot : Nat) (addr hdr body tag : Bytes) : Option Bytes × State :=
  match s.useKey slot useTagChk 3 with
  | (none, s) => (none, s)
  | (some k, s) =>
    (if Config.gmac (Config.hkdf k [] infoPair 32) (pairIv hdr) (addr ++ hdr ++ body) = tag then some k else none, s)

/-- A pair frame taken from port 35 is checked: slot 0x0005, then 0x0006, which a success makes the content of 0x0005
(R228, R506). A frame that fails is dropped and counted. -/
def State.receivePair (s : State) (f : Bytes) : Option PairFrame × State :=
  let s : State := match s.net.toHost.find? fun x => x.bytes.take f.length = f with
    | some x => { s with net := { s.net with toHost := s.net.toHost.erase x } }
    | none => s
  if s.unitState = 0 then (none, s)
  else
    let p := f.drop (headersOf f).payload
    let len := be 2 2 p
    let hdr := p.take 32
    let body := slice 32 len p
    let tag := slice (32 + len) 16 p
    if 1452 < len || tag.length < 16 || be 4 4 p ≤ s.red.rxSeq then (none, s.count Reg.unit_RED_PAIR_AUTH_FAIL)
    else
      let got : Option Bytes × State := match s.pairTagOk 5 (f.take 12) hdr body tag with
        | (some k, s) => (some k, s)
        | (none, s) => match s.pairTagOk 6 (f.take 12) hdr body tag with
          | (some k, s) =>
            let s := (s.setSlot 5 (s.slot 6)).setSlot 6 {}
            let s : State := { s with bnc := { s.bnc with pairRolled := false } }
            (some k, if s.flag Reg.bnc_TRIAL then s else s.queueCommit { what := 3 })
          | (none, s) => (none, s)
      match got with
      | (none, s) => (none, s.count Reg.unit_RED_PAIR_AUTH_FAIL)
      | (some k, s) =>
        let claim := be 8 4 p
        let high := max (s.raw Reg.unit_RED_CLAIM_HIGH) claim
        let s := s.wr Reg.unit_RED_CLAIM_HIGH 0 high
        (some { type := be 1 1 p, claim := claim, state := be 12 1 p, fleet := be 13 3 p % 2 ^ 20, digest := be 16 4 p,
                hdr := hdr, body := body, key := k },
         { s with red := { s.red with rxSeq := be 4 4 p, highSeen := max s.red.highSeen (claim % 2 ^ 24) } })

/-! ### Resynchronisation: states (R233) -/

/-- RED_RESYNC_LEFT follows the instances not yet in step. -/
def State.syncResync (s : State) : State := s.wr Reg.unit_RED_RESYNC_LEFT 0 s.red.resync.length

/-- The partner's digest is the module's own (R230). -/
def State.digestOk (s : State) : Bool := s.red.partnerDigest = s.setDigest

/-- A module in RESYNC with no instance left enters STANDBY (R230, R233). -/
def State.tryStandby (s : State) : State :=
  if s.unitState = 2 && s.red.resync.isEmpty && s.digestOk then (s.toUnit 3).raise 127 0x0102 s.tor.insts.length else s

/-- The module enters RESYNC with every admitted instance out of step (R226, R232, R233). -/
def State.enterResync (s : State) : State :=
  let s : State := { s with red := { s.red with
    resync := s.tor.insts.map fun e => (e.1, 1), rxFix := [], mirroring := [], partner := [], mism := [] } }
  ((s.toUnit 2).syncResync).tryStandby

/-- An instance is repeated from step 2 (R233). -/
def State.repeatInst (s : State) (i : Nat) : State :=
  State.raise { s with red := { s.red with resync := Tbl.ins 1 s.red.resync i } } 127 0x0103 (instInfo i)

/-! ### Heartbeats (R225–R227, R230) -/

/-- HEARTBEAT_SEND (R225): every 1 ms. -/
def execHeartbeatSend (t : Nat) (s : State) : Host.Outcome State Fault Refusal :=
  .next (let s := s.advance t; if s.unitState = 0 then s else s.sendPair 35 5 1 [])

/-- The module demotes itself (R226): rank 0x40 and the partner's epoch, RESYNC. -/
def State.demote (s : State) (claim : Nat) : State :=
  let s : State := { s with red := { s.red with handover := false } }
  let s := (s.wr Reg.unit_RELINQUISH 0 0).enterResync
  (s.count Reg.unit_RED_DEMOTE).raise 126 0x0101 claim

/-- What a heartbeat does in each unit state (R226, R227, R230, R232). `alert` says that MISMATCH_ALERT has risen. -/
def State.onHeartbeat (s : State) (claim : Nat) (alert : Bool) : State :=
  let ps := s.red.partnerState % 8
  let lower := decide (s.wh.fleet < s.red.partnerFleet)
  match s.unitState with
  | 4 =>
    if s.raw Reg.unit_RED_CLAIM_OWN < claim then s.demote claim
    else if alert then s.raise 127 0x0101 0 else s
  | 1 =>
    if !s.digestOk then s else if ps = 4 then s.enterResync else if lower then s.takeOver else s
  | 2 =>
    if !s.digestOk then s else if ps ≠ 4 && lower then s.takeOver else s.tryStandby
  | 3 =>
    if ps = 4 && bit 3 s.red.partnerState || ps ≠ 4 && lower then s.takeOver else s
  | _ => s

/-- HEARTBEAT (R226): a frame from the partner at instant t. -/
def execHeartbeat (t : Nat) (f : Bytes) (s : State) : Host.Outcome State Fault Refusal :=
  .next (match (s.advance t).receivePair f with
    | (none, s) => s
    | (some p, s) =>
      if p.type ≠ 1 then s
      else
        let alert := bit 4 p.state && !bit 4 s.red.partnerState
        let seen := s.flag Reg.unit_PARTNER_SEEN
        let s : State := { s with red := { s.red with
          lastHb := s.mono, partnerState := p.state, partnerClaim := p.claim, partnerFleet := p.fleet,
          partnerDigest := p.digest } }
        let s := s.syncClaim
        let s := if seen then s else (s.wr Reg.unit_PARTNER_SEEN 0 1).raise 126 0x0103 p.claim
        let late := match s.red.cannotAt with
          | some at_ => decide (at_ + unitsSec ≤ s.mono)
          | none => true
        let s := if (s.unitState = 1 || s.unitState = 2) && !s.digestOk && late then
            State.cannotServe { s with red := { s.red with cannotAt := some s.mono } } else s
        s.onHeartbeat p.claim alert)

/-- PARTNER_LOST (R225): no authenticated heartbeat for TAKEOVER_TMO. -/
def execPartnerLost (s : State) : Host.Outcome State Fault Refusal :=
  .next (
    if !s.flag Reg.unit_PARTNER_SEEN then s
    else
      let s := s.advance (s.red.lastHb + s.rd Reg.unit_TAKEOVER_TMO * unitsMs)
      let s := (s.wr Reg.unit_PARTNER_SEEN 0 0).raise 126 0x0102 s.red.partnerClaim
      let s := if s.unitState = 2 then
          (s.red.resync.filter fun e => e.2 ≠ 1).foldl (fun (s : State) e => s.repeatInst e.1) s else s
      match s.unitState with
      | 3 => s.takeOver
      | 1 => s.cannotServe
      | 2 => s.cannotServe
      | 5 => s.cannotServe
      | _ => s)

/-- SOLO_ACTIVE_TIMEOUT (R226): no partner for 3 s after UNIT_EN. -/
def execSoloActiveTimeout (s : State) : Host.Outcome State Fault Refusal :=
  .next (
    if s.unitState ≠ 1 || s.red.lastHb ≠ 0 then s
    else (s.advance (s.red.enabledAt + 3 * unitsSec)).takeOver)

/-- RELINQUISH (R227). -/
def execRelinquish (s : State) : Host.Outcome State Fault Refusal :=
  .next (
    if s.unitState = 4 && s.red.partnerState % 8 = 3 && s.flag Reg.unit_PARTNER_SEEN then
      State.wr { s with red := { s.red with handover := true } } Reg.unit_RELINQUISH 0 1
    else s.count Reg.unit_RED_CMD_IGNORED)

/-- TAKEOVER (R227). -/
def execTakeover (s : State) : Host.Outcome State Fault Refusal :=
  .next (if s.unitState = 3 then s.takeOver else s.count Reg.unit_RED_CMD_IGNORED)

/-- EPOCH_CLEAR (R224): command 0x030300.00. -/
def execEpochClear (src : Requester) (s : State) : Host.Outcome State Fault Refusal :=
  .next (
    let (h, s) := s.newHandle src
    let s : State := { s with red := { s.red with stored := 0, highSeen := 0 } }
    ((s.wr Reg.unit_RED_EPOCH_EXHAUSTED 0 0).syncClaim).complete h stOK)

/-- UNFIT_RELEASE (R232): command 0x030301.00. -/
def execUnfitRelease (src : Requester) (s : State) : Host.Outcome State Fault Refusal :=
  .next (
    let (h, s) := s.newHandle src
    let s : State := if s.unitState = 5 then State.enterResync { s with red := { s.red with alert := false } } else s
    s.complete h stOK)

/-! ### The mirror stream (R231, R232) -/

/-- One mirror record as the frame carries it. -/
def MirrorRec.bytes (r : MirrorRec) : Bytes :=
  beBytes 2 (r.slice * 512 + r.inst) ++ beBytes 1 r.flags ++ beBytes 1 0 ++ beBytes 4 r.eval ++ beBytes 4 r.crc

/-- MIRROR frames of at most 120 records. -/
def State.sendMirrors (s : State) (rs : List MirrorRec) : Nat → State
  | 0 => s
  | n + 1 =>
    if rs.isEmpty then s
    else State.sendMirrors (s.sendPair 33 5 2 ((rs.take 120).flatMap MirrorRec.bytes)) (rs.drop 120) n

/-- At the end of a pricking frame the ACTIVE module mirrors what the frame committed of the instances in step (R231,
R233). -/
def State.mirrorSend (s : State) : State :=
  let rs := s.red.committed.filter fun r => s.red.mirroring.contains (r.slice * 512 + r.inst)
  let s : State := { s with red := { s.red with committed := [] } }
  if s.unitState = 4 then s.sendMirrors rs (rs.length + 1) else s

/-- A mirror record compared with the module's own (R232). -/
def State.compareOne (s : State) (m r : MirrorRec) : State :=
  let i := r.slice * 512 + r.inst
  if s.unitState ≠ 3 then s
  else if m.flags % 4 ≠ 0 || r.flags % 4 ≠ 0 then s.count Reg.unit_RED_MIRROR_SKIP
  else if m.crc = r.crc then
    State.count { s with red := { s.red with mism := Tbl.put 0 s.red.mism i 0 } } Reg.unit_RED_MIRROR_MATCH
  else
    let n := Tbl.look 0 s.red.mism i + 1
    let s : State := { s with red := { s.red with mism := Tbl.put 0 s.red.mism i n } }
    let s := (s.count Reg.unit_RED_MIRROR_MISMATCH).raise 127 0x0100 (instInfo i)
    if n < s.rd Reg.unit_MISMATCH_LIMIT then s
    else (State.toUnit { s with red := { s.red with alert := true } } 5).raise 127 0x0101 (instInfo i)

/-- Every partner record that has its counterpart is compared and leaves, oldest first. -/
def State.compareMirror (s : State) : State :=
  let same := fun (r m : MirrorRec) => m.slice = r.slice && m.inst = r.inst && m.eval = r.eval
  let s' := s.red.partner.foldl (fun (s : State) r => match s.red.own.find? (same r) with
    | some m => s.compareOne m r
    | none => s) s
  let left := s'.red.partner.filter fun r => !(s'.red.own.any (same r))
  let used := fun (m : MirrorRec) => s.red.partner.any fun r => same r m
  { s' with red := { s'.red with partner := left, own := s'.red.own.filter fun m => !used m } }

/-- Own records are kept for MIRROR_HOLD, while a STANDBY module may need them. -/
def State.pruneOwn (s : State) : State :=
  let keep := fun (m : MirrorRec) => decide (s.unitState = 3) && decide (s.mono ≤ m.t + s.rd Reg.unit_MIRROR_HOLD * unitsUs)
  { s with red := { s.red with own := s.red.own.filter keep } }

/-- The 12-byte records of a MIRROR body. -/
def mirrorRecs (t : Nat) (b : Bytes) : List MirrorRec :=
  (List.range (b.length / 12)).map fun k =>
    let i := be (12 * k) 2 b
    { slice := i / 512, inst := i % 512, flags := be (12 * k + 2) 1 b, eval := be (12 * k + 4) 4 b, crc := be (12 * k + 8) 4 b, t := t }

/-- MIRROR (R232): a frame arrives at instant t. -/
def execMirror (t : Nat) (f : Bytes) (s : State) : Host.Outcome State Fault Refusal :=
  .next (match (s.advance t).receivePair f with
    | (none, s) => s
    | (some p, s) =>
      let s := s.syncClaim
      if p.type ≠ 2 || s.unitState ≠ 3 then s
      else State.compareMirror { s with red := { s.red with partner := s.red.partner ++ mirrorRecs s.mono p.body } })

/-- MIRROR_LATE (R232): the oldest record has found no counterpart within MIRROR_HOLD. -/
def execMirrorLate (s : State) : Host.Outcome State Fault Refusal :=
  .next (
    let s := s.compareMirror
    match s.red.partner with
    | [] => s
    | r :: rest =>
      let s := s.advance (r.t + s.rd Reg.unit_MIRROR_HOLD * unitsUs)
      State.count { s with red := { s.red with partner := rest } } Reg.unit_RED_MIRROR_LATE)

/-! ### Resynchronisation (R233) -/

/-- The store covers 128 sample periods of every input of an instance. -/
def State.storeReady (s : State) (x : Inst) : Bool :=
  (s.instStreams x).all fun ks => match (s.strm ks.2).newest with
    | none => false
    | some a => (List.range 128).all fun j => (s.sampleOf ks.2 (a - j)).isSome

/-- RESYNC_STORE_READY (R233): RESYNC_REQ for each instance whose inputs the store covers. -/
def execResyncStoreReady (s : State) : Host.Outcome State Fault Refusal :=
  .next (
    if s.unitState ≠ 2 then s
    else (s.red.resync.filter fun e => e.2 = 1 && s.storeReady (s.inst e.1)).foldl (fun (s : State) e =>
      (State.sendPair { s with red := { s.red with resync := Tbl.ins 2 s.red.resync e.1 } } 35 5 3 (beBytes 2 e.1))) s)

/-- A far fix record (R345). -/
def State.farRecord (s : State) (i : Nat) (f : FarFix) : Bytes :=
  let x := s.inst i
  let d := Memory.readBytes f.data 0 x.dataLen
  let head := fun (crc : Nat) => [0x46, 0x46, 0x58, 0x31] ++ leBytes 2 1 ++ leBytes 2 i ++ leBytes 4 x.prog.typeId
    ++ leBytes 4 x.prog.typeVer ++ leBytes 4 f.last ++ leBytes 4 (b2n f.disabled) ++ time96le (f.frame * unitsFrame)
    ++ leBytes 4 x.dataLen ++ leBytes 4 crc ++ List.replicate 20 0
  head (crc32c (head 0 ++ d)) ++ d

/-- A far fix sent in RESYNC_DATA frames, in order, each a sealed body of at most 1,452 bytes with its tag. -/
def State.sendFix (s : State) (b : Bytes) : Nat → State
  | 0 => s
  | n + 1 => if b.isEmpty then s else State.sendFix (s.sendPair 35 3 4 (b.take 1436) true) (b.drop 1436) n

/-- RESYNC_REQ (R233): the ACTIVE module sends the instance's latest far fix. -/
def execResyncReq (t : Nat) (f : Bytes) (s : State) : Host.Outcome State Fault Refusal :=
  .next (match (s.advance t).receivePair f with
    | (none, s) => s
    | (some p, s) =>
      let i := be 0 2 p.body
      if p.type ≠ 3 || s.unitState ≠ 4 then s.syncClaim
      else match (s.inst i).far with
        | [] => s
        | x :: _ => let b := s.farRecord i x; s.sendFix b (b.length + 1))

/-- A far fix record is the one of an admitted instance (R346). -/
def State.farOk (s : State) (b : Bytes) : Bool :=
  let i := le 6 2 b
  let x := s.inst i
  s.hasInst i && slice 0 4 b = [0x46, 0x46, 0x58, 0x31] && le 4 2 b = 1 && le 8 4 b = x.prog.typeId && le 12 4 b = x.prog.typeVer
    && le 36 4 b = x.dataLen && b.length = 64 + x.dataLen
    && le 40 4 b = crc32c (b.take 40 ++ leBytes 4 0 ++ b.drop 44)

/-- The full number of an evaluation whose low 32 bits are given, the nearest at or before the one to start next. -/
def nearNumber (next low : Nat) : Nat := next - (next + 2 ^ 32 - low % 2 ^ 32) % 2 ^ 32

/-- A far fix loaded for replay (R233, R424): the instance's data are the fix's, the evaluations in flight are replayed and
commit, and the committed ones behind the fix are replayed for the data alone. -/
def State.loadFix (s : State) (i last : Nat) (b : Bytes) : State :=
  let x := s.inst i
  let d := Memory.writeBytes [] 0 (slice 64 x.dataLen b)
  match s.instTile i with
  | none => s
  | some t =>
    let y := s.tile t
    let open_ := (y.evals.filter fun e => e.inst = i && !e.rebuild).map (·.n) ++ (y.replay.filter fun r => r.inst = i && !r.rebuild).map (·.n)
    let again := (x.ran (last + 1) x.next).map fun n => ({ inst := i, n := n, rebuild := !open_.contains n } : Replay)
    let y := { y with
      evals := y.evals.filter fun e => e.inst ≠ i,
      cur := y.cur.filter fun c => c.1 ≠ i,
      replay := sortReplays i ((y.replay.filter fun r => r.inst ≠ i) ++ again),
      fixes := y.fixes.map fun (f : TileFix) => { f with
        insts := f.insts.map fun (e : Nat × Nat × List Host.Cell) => if e.1 = i then (i, last, d) else e } }
    let far : FarFix := { last := last, frame := s.frameNow, disabled := bit 0 (le 20 4 b), data := d }
    let s := (s.setTile t y).setInst i { x with
      data := d, far := [far], farNew := none, lastFinal := some last,
      stopAt := if far.disabled then some x.next else x.stopAt }
    State.syncTile (s.resume t) t

/-- The far fix has come whole: loaded, or refused and its instance repeated (R233, R346). -/
def State.takeFar (s : State) : State :=
  let b := s.red.rxFix
  let i := le 6 2 b
  let s : State := { s with red := { s.red with rxFix := [] } }
  if Tbl.look 0 s.red.resync i ≠ 2 then s
  else if !s.farOk b then (s.count Reg.tor_TOR_FARFIX_BAD).repeatInst i
  else
    let x := s.inst i
    let last := nearNumber x.next (le 16 4 b)
    let gone := match (x.ran (last + 1) x.next) with
      | [] => false
      | n :: _ => !s.inputsStored x n
    if gone then s.repeatInst i
    else State.loadFix { s with red := { s.red with resync := Tbl.ins 3 s.red.resync i } } i last b

/-- RESYNC_DATA (R233): a frame arrives at instant t. -/
def execResyncData (t : Nat) (f : Bytes) (s : State) : Host.Outcome State Fault Refusal :=
  .next (match (s.advance t).receivePair f with
    | (none, s) => s
    | (some p, s) =>
      let s := s.syncClaim
      if p.type ≠ 4 || s.unitState ≠ 2 then s
      else match Config.gcmOpen (Config.hkdf p.key [] infoResync 32) (pairIv p.hdr) p.hdr p.body with
        | none => s.count Reg.unit_RED_PAIR_AUTH_FAIL
        | some b =>
          let got := s.red.rxFix ++ b
          let s : State := { s with red := { s.red with rxFix := got } }
          if got.length < 64 then s
          else if slice 0 4 got = [0x46, 0x46, 0x58, 0x31] && got.length < 64 + le 36 4 got then s
          else s.takeFar)

/-- RESYNC_ACK (R233). Without a frame: the instances that have reached the live evaluation are acknowledged. With one:
the ACTIVE module starts to mirror the partner's instance. -/
def execResyncAck (t : Nat) (f : Option Bytes) (s : State) : Host.Outcome State Fault Refusal :=
  .next (
    let s := s.advance t
    match f with
    | some f => match s.receivePair f with
      | (none, s) => s
      | (some p, s) =>
        let i := be 0 2 p.body
        if p.type ≠ 5 || s.unitState ≠ 4 then s.syncClaim
        else { s with red := { s.red with mirroring := (s.red.mirroring ++ [i]).eraseDups } }
    | none =>
      let live := fun (i : Nat) => match s.instTile i with
        | none => true
        | some t => !((s.tile t).replay.any fun r => r.inst = i) && !((s.tile t).evals.any fun e => e.inst = i && e.rebuild)
      if s.unitState ≠ 2 then s
      else
        let due := s.red.resync.filter fun e => e.2 = 3 && live e.1
        let s := due.foldl (fun (s : State) e =>
          State.sendPair { s with red := { s.red with resync := Tbl.drop s.red.resync e.1 } } 35 5 5 (beBytes 2 e.1)) s
        (s.syncResync).tryStandby)

end Sys2Proof.Machine
end

