-- ==== Sys2Proof/Machine/Slices.lean ====
section
/-!
DEFINITION. The slice manager and the bobbins: slice commands, doorbells, descriptors and their DMA, host frames, shares
and grants (chapter 13, but SAVE and RESTORE).
-/

namespace Sys2Proof.Machine

/-! ### Slice commands (R389, R392–R395) -/

/-- Reasons of R394. -/
def slNotBound : Nat := 0x01
def slAlreadyBound : Nat := 0x02
def slPairInUse : Nat := 0x03
def slHasFunctions : Nat := 0x04
def slWrongState : Nat := 0x05
def slSliceBusy : Nat := 0x06
def slBlobFormat : Nat := 0x07
def slBlobAuth : Nat := 0x08
def slBlobKey : Nat := 0x09
def slBadSlice : Nat := 0x0B

/-- A command block's registers take the submission: SLICE, OP and FULL lie in the word that sets GO (R392). -/
def State.cmdFields (s : State) (src : Requester) (op sl : Nat) (full : Bool) : State :=
  match src with
  | .block l => ((s.wr Reg.cmdb_SLICE l sl).wr Reg.cmdb_OP l op).wrFlag Reg.cmdb_FULL l full
  | _ => s

/-- A slice command that cannot be accepted: REASON in the command block, or BUSY on the object path (R393, R394). -/
def State.sliceRefuse (s : State) (src : Requester) (reason : Nat) : State :=
  let s := s.count Reg.slcg_SLC_CMD_REFUSE
  match src with
  | .block l => (s.wr Reg.cmdb_ACCEPTED l 0).wr Reg.cmdb_REASON l reason
  | _ =>
    let (h, s) := s.newHandle src
    s.sliceDone src h stBUSY reason

/-- A slice command accepted: its handle. -/
def State.sliceAccept (s : State) (src : Requester) : Nat × State :=
  let (h, s) := s.newHandle src
  (h, match src with
    | .block l => ((s.wr Reg.cmdb_ACCEPTED l 1).wr Reg.cmdb_REASON l 0).wr Reg.cmdb_HANDLE l h
    | _ => s)

/-- STATE of a slice (R388). -/
def State.slState (s : State) (sl : Nat) : Nat := s.raw Reg.slc_STATE sl

/-- The link that LINK names: host A while SPLIT is 0 (R389). -/
def State.effLink (s : State) (l : Nat) : Nat := if s.raw Reg.hif_SPLIT = 0 then 0 else l

/-- Another slice holds the pair of link and PASID in the entry of slice sl (R35, R389). -/
def State.pairInUse (s : State) (sl : Nat) : Bool :=
  (List.range 128).any fun k => k ≠ sl && s.slState k ≠ 0 && (s.sli k).pasid = s.raw Reg.slc_PASID sl
    && s.sliceLink k = s.effLink (s.raw Reg.slc_LINK sl)

/-- The reason that keeps an operation from being accepted (R393–R395), 0 for none. -/
def State.sliceReason (s : State) (op sl : Nat) : Nat :=
  let st := s.slState sl
  if op ≠ 3 && (s.sli sl).cmd.isSome then slSliceBusy
  else match op with
    | 1 => if st ≠ 0 then slAlreadyBound else if s.isFenced .hostIf then slWrongState else if s.pairInUse sl then slPairInUse else 0
    | 2 => if st = 0 then slNotBound else if st ≠ 1 ∧ st ≠ 4 then slWrongState else if s.hasFunctions sl then slHasFunctions else 0
    | 3 => if st = 0 then slNotBound else 0
    | 4 => if st = 0 then slNotBound else if st ≠ 1 then slWrongState else 0
    | 7 => if st = 0 then slNotBound else if st ≠ 1 then slWrongState
      else if s.hasFunctions sl || (List.range 32).any fun b => s.flag Reg.bob_EN (bobIx sl b) then slHasFunctions else 0
    | 8 => if st = 0 then slNotBound else if st ≠ 4 then slWrongState else if s.pairInUse sl then slPairInUse else 0
    | _ => if st = 0 then slNotBound else if st ≠ 4 then slWrongState else 0

/-- A slice command taken: refused by name, or carried out under its handle. -/
def State.sliceCmd (s : State) (src : Requester) (op sl : Nat) (full : Bool) (act : State → Nat → State) : State :=
  let s := s.cmdFields src op sl full
  if 127 < sl then s.sliceRefuse src slBadSlice
  else match s.sliceReason op sl with
    | 0 =>
      let (h, s) := s.sliceAccept src
      act s h
    | r => s.sliceRefuse src r

/-- PASID and LINK of the entry come into force with a new generation (R389, R419). -/
def State.bindPair (s : State) (sl : Nat) : State :=
  (s.setSli sl { s.sli sl with pasid := s.raw Reg.slc_PASID sl, link := s.raw Reg.slc_LINK sl }).nextGen sl

/-- BIND (R389). -/
def execBind (src : Requester) (sl : Nat) (s : State) : Host.Outcome State Fault Refusal :=
  .next (s.sliceCmd src 1 sl false fun s h =>
    let s := (s.bindPair sl).wr Reg.slc_STATE sl 1
    s.sliceDone src h stOK (s.raw Reg.slc_GEN sl))

/-- A command in progress completes with ABORTED (R395). -/
def State.abortSliceCmd (s : State) (sl : Nat) : State :=
  match (s.sli sl).cmd with
  | none => s
  | some c =>
    let s : State := { s with tor := { s.tor with plans := s.tor.plans.filter fun p => !(p.req.kind = 17 && p.req.handle = c.handle) } }
    State.sliceDone (s.setSli sl { s.sli sl with cmd := none }) c.src c.handle stABORTED 0

/-- The number under which a slice reset withdraws what the slice has admitted: no handle. -/
def withdrawKey (h : Nat) : Nat := 2 ^ 32 + h

/-- Every admitted instance set and the scan program of a slice are withdrawn at the instant of R363 (R417); exchanges of
its sets end. -/
def State.withdrawSlice (s : State) (sl h : Nat) : State :=
  let s := (s.tor.exchanges.filter fun e => e.slice = sl).foldl (fun s e => s.complete e.handle stABORTED) s
  let s := { s with tor := { s.tor with exchanges := s.tor.exchanges.filter fun e => e.slice ≠ sl } }
  let v := s.admView
  let is := (v.insts.filter fun e => e.1 / 512 = sl && !e.2.leaving).map (·.1)
  let sc := v.scan.any fun e => e.1 = sl
  let r : AdmReq := { kind := 5, slice := sl, obj := 0, check := false, deep := false, src := .wheelhouse, handle := withdrawKey h }
  let p : AdmPlan := { req := r, at_ := s.admInstant, items := is.length, leave := is, scanLeave := if sc then [sl] else [] }
  if is.isEmpty && !sc then s else { s with tor := { s.tor with plans := s.tor.plans ++ [p] } }

/-- The withdrawals of a slice reset are over. -/
def State.withdrawn (s : State) (h : Nat) : Bool :=
  let k := withdrawKey h
  !(s.tor.plans.any fun p => p.req.handle = k) && !s.stopWaits k
    && !s.scan.any fun e => e.2.handle = some k

/-- A slice reset begins under its handle. -/
def State.startReset (s : State) (src : Requester) (op sl h : Nat) (full : Bool) : State :=
  let s := (s.abortSliceCmd sl).resetSlice sl
  let s := s.setSli sl { s.sli sl with cmd := some { op := op, src := src, handle := h, full := full }, errs := [] }
  if full then s.withdrawSlice sl h else s

/-- UNBIND (R393). -/
def execUnbind (src : Requester) (sl : Nat) (s : State) : Host.Outcome State Fault Refusal :=
  .next (s.sliceCmd src 2 sl false fun s h => s.startReset src 2 sl h false)

/-- RESET (R395, R416, R417). -/
def execReset (src : Requester) (sl : Nat) (full : Bool) (s : State) : Host.Outcome State Fault Refusal :=
  .next (s.sliceCmd src 3 sl full fun s h => s.startReset src 3 sl h full)

/-- Shares 0, grants cleared, no binding (R393). -/
def State.unbindSlice (s : State) (sl : Nat) : State :=
  let s := ((((((s.wr Reg.slc_TOR_SHARE sl 0).wr Reg.slc_SCAN_SHARE sl 0).wr Reg.slc_BUF_SHARE sl 0).wr Reg.slc_BOB_COUNT sl 0).wr
    Reg.slc_DESC_SHARE sl 0).wr Reg.slc_CAP_SHARE sl 0).wr Reg.slc_STATE sl 0
  let s := s.setSli sl { s.sli sl with grants := [], grantPend := [], pasid := 0, link := 0 }
  (s.syncFull sl).syncFull 128

/-- SLICE_RESET_DRAINED (R416, R417): every engine has drained. With FULL the withdrawals must have applied too. -/
def execSliceResetDrained (sl : Nat) (s : State) : Host.Outcome State Fault Refusal :=
  .next (match (s.sli sl).cmd with
    | none => s
    | some c =>
      if c.op = 2 then
        let s := (State.unbindSlice (s.setSli sl { s.sli sl with cmd := none }) sl).unbindRoot sl
        s.sliceDone c.src c.handle stOK 0
      else if c.op ≠ 3 || !s.withdrawn c.handle then s
      else
        let s := (s.setSli sl { s.sli sl with cmd := none }).wr Reg.slc_STATE sl 1
        s.sliceDone c.src c.handle stOK (s.raw Reg.slc_GEN sl))

/-- FREEZE (R418). -/
def execFreeze (src : Requester) (sl : Nat) (s : State) : Host.Outcome State Fault Refusal :=
  .next (s.sliceCmd src 4 sl false fun s h =>
    (s.setSli sl { s.sli sl with cmd := some { op := 4, src := src, handle := h } }).wr Reg.slc_STATE sl 3)

/-- A slice is FROZEN with every bobbin HELD (R418). -/
def State.holdBobbins (s : State) (sl : Nat) : State :=
  let errs := (List.range 32).filter fun b => s.raw Reg.bob_BSTATE (bobIx sl b) = 2
  let s := (s.setSli sl { s.sli sl with errs := errs }).wr Reg.slc_STATE sl 4
  (List.range 32).foldl (fun s b => s.wr Reg.bob_BSTATE (bobIx sl b) 3) s

/-- FREEZE_DRAINED (R418): no descriptor of the slice is outstanding. -/
def execFreezeDrained (sl : Nat) (s : State) : Host.Outcome State Fault Refusal :=
  .next (match (s.sli sl).cmd with
    | none => s
    | some c =>
      if c.op ≠ 4 || !(s.sli sl).descs.isEmpty then s
      else
        let s := State.holdBobbins (s.setSli sl { s.sli sl with cmd := none }) sl
        s.sliceDone c.src c.handle stOK (s.sli sl).hold.length)

/-- Every bobbin leaves HELD (R418). -/
def State.releaseBobbins (s : State) (sl : Nat) : State :=
  let errs := (s.sli sl).errs
  let s := (s.setSli sl { s.sli sl with errs := [] }).wr Reg.slc_STATE sl 1
  (List.range 32).foldl (fun s b => s.wr Reg.bob_BSTATE (bobIx sl b)
    (if !s.flag Reg.bob_EN (bobIx sl b) then 0 else if errs.contains b then 2 else 1)) s

/-- A held entry is written with the generation current at its issue (R391, R418). -/
def State.writeHeld (s : State) (sl : Nat) (e : Nat × Bytes) : State :=
  s.commitCompletion sl e.1 (e.2.take 10 ++ leBytes 2 (s.raw Reg.slc_GEN sl) ++ e.2.drop 12)

/-- THAW (R418). -/
def execThaw (src : Requester) (sl : Nat) (s : State) : Host.Outcome State Fault Refusal :=
  .next (s.sliceCmd src 5 sl false fun s h =>
    let es := (s.sli sl).hold
    let s := State.releaseBobbins (s.setSli sl { s.sli sl with hold := [] }) sl
    let s := es.foldl (fun s e => s.writeHeld sl e) s
    s.sliceDone src h stOK es.length)

/-- REBIND (R419). -/
def execRebind (src : Requester) (sl : Nat) (s : State) : Host.Outcome State Fault Refusal :=
  .next (s.sliceCmd src 8 sl false fun s h =>
    let s := s.bindPair sl
    s.sliceDone src h stOK (s.raw Reg.slc_GEN sl))

/-! ### Doorbells (R403, R408) -/

/-- Difference of two ring indices. -/
def ixDiff (a b : Nat) : Nat := (a % 2 ^ 17 + 2 ^ 17 - b % 2 ^ 17) % 2 ^ 17

/-- A bobbin takes doorbells: enabled and not in ERROR (R408, R426). -/
def State.bobbinUp (s : State) (sl b : Nat) : Bool :=
  s.flag Reg.bob_EN (bobIx sl b) && s.raw Reg.bob_BSTATE (bobIx sl b) ≠ 2 && !(s.sli sl).errs.contains b

/-- SQ_TAIL (R408): backwards, overfull, or of a COMPLETION bobbin, the write is ignored and counted. -/
def execSqTail (sl b v : Nat) (s : State) : Host.Outcome State Fault Refusal :=
  .next (
    let i := bobIx sl b
    let n := 2 ^ s.raw Reg.bob_SQ_LOG2 i
    let old := Tbl.look 0 (s.sli sl).sqTail b
    if !s.bound sl then s.unmapped
    else if s.raw Reg.bob_KIND i = 3 then s.count Reg.slst_SLC_BOB_ERR sl
    else if !s.bobbinUp sl b then s
    else if n < ixDiff v old || n < ixDiff v (s.raw Reg.bob_SQ_HEAD i) then s.count Reg.slst_SLC_BOB_ERR sl
    else s.setSli sl { s.sli sl with sqTail := Tbl.put 0 (s.sli sl).sqTail b (v % 2 ^ 17) })

/-- CQ_HEAD (R408): backwards, or past the entries written, the write is ignored and counted. -/
def execCqHead (sl b v : Nat) (s : State) : Host.Outcome State Fault Refusal :=
  .next (
    let i := bobIx sl b
    let n := 2 ^ s.raw Reg.bob_CQ_LOG2 i
    let old := Tbl.look 0 (s.sli sl).cqHead b
    if !s.bound sl then s.unmapped
    else if !s.bobbinUp sl b then s
    else if n < ixDiff v old || n < ixDiff (s.raw Reg.bob_CQ_TAIL i) v then s.count Reg.slst_SLC_BOB_ERR sl
    else s.setSli sl { s.sli sl with cqHead := Tbl.put 0 (s.sli sl).cqHead b (v % 2 ^ 17) })

/-! ### Descriptors (R404–R408, R410) -/

/-- The fields of a descriptor: address, LEN, OP, TSO, header length, MSS and MODE (R404). -/
def descAddr (d : Bytes) : Nat := le 0 8 d
def descLen (d : Bytes) : Nat := le 8 3 d
def descOp (d : Bytes) : Nat := le 16 1 d
def descClass (d : Bytes) : Nat := le 17 1 d % 4
def descTso (d : Bytes) : Bool := bit 0 (le 18 1 d)

/-- Byte offset of the first bad field of a descriptor for a bobbin kind (R404, R406, R407, R469). MAX_FRAME of port 35 is
the largest frame. -/
def State.badField (s : State) (kind : Nat) (d : Bytes) : Option Nat :=
  let n := descLen d
  let (lo, hi, op) : Nat × Nat × Nat := match kind with
    | 1 => (1, if descTso d then le 20 2 d + 262144 else s.maxFrame 35 - 4, 1)
    | 2 => (64, 65535, 2)
    | _ => (4096, 65535, 3)
  if n < lo || hi < n then some 8 else if descOp d ≠ op then some 16 else none

/-- The module's requests for a slice leave on its link under its PASID (R390). -/
def State.readHost (s : State) (sl addr len : Nat) : State := s.emit (.hostRead (s.sliceLink sl) (s.sli sl).pasid addr len)

/-- DESCRIPTOR_FETCH (R403, R407, R408): the next descriptor of bobbin b, whose 32 bytes host memory gives, is fetched and
starts, or completes at once. -/
def execDescriptorFetch (sl b : Nat) (bytes : Bytes) (s : State) : Host.Outcome State Fault Refusal :=
  .next (
    let i := bobIx sl b
    let x := s.sli sl
    let kind := s.raw Reg.bob_KIND i
    let head := s.raw Reg.bob_SQ_HEAD i
    let mine := (x.descs.filter fun d => d.bobbin = b).length
    let can := decide (s.slState sl = 1) && s.flag Reg.bob_EN i && decide (s.raw Reg.bob_BSTATE i = 1)
      && (decide (kind = 1) || decide (kind = 2) || decide (kind = 4)) && decide (head ≠ Tbl.look 0 x.sqTail b)
      && decide (s.cqUsed sl b + mine < 2 ^ s.raw Reg.bob_CQ_LOG2 i)
    if !can then s
    else
      let base := s.raw Reg.bob_SQ_BASE_LO i + s.raw Reg.bob_SQ_BASE_HI i * 2 ^ 32
      let bytes := padTo 32 (bytes.take 32)
      let full := decide (s.rd Reg.slc_DESC_SHARE sl ≤ x.descs.length)
      let s := (s.readHost sl (base + 32 * (head % 2 ^ s.raw Reg.bob_SQ_LOG2 i)) 32).wr Reg.bob_SQ_HEAD i ((head + 1) % 2 ^ 17)
      let d : Desc := { bobbin := b, index := head, bytes := bytes, phase := if kind = 1 then 1 else 2, at_ := s.mono }
      let s := State.syncDescs (s.setSli sl { x with descs := x.descs ++ [d] }) sl
      if full then s.finishDesc sl b head 1 0 0
      else match s.badField kind bytes with
        | some o => s.finishDesc sl b head 2 o 0
        | none => if kind = 1 then s.readHost sl (descAddr bytes) (descLen bytes) else s)

/-- A descriptor of a slice by bobbin and index. -/
def State.descOf (s : State) (sl b i : Nat) : Option Desc := (s.sli sl).descs.find? fun d => d.bobbin = b && d.index = i

/-- EtherTypes that no slice sends (R412). -/
def filteredType (e : Nat) : Bool := e = 0x8808 || e = 0x88F7 || e = 0x88FB || e = 0x88B5

/-- DMA_READ_COMPLETION (R391, R404, R407, R412): the payload of descriptor i of bobbin b returns, its request tagged with
generation gen. The frame goes to the switch core through port 35. -/
def execDmaReadCompletion (sl b i gen : Nat) (data : Bytes) (s : State) : Host.Outcome State Fault Refusal :=
  .next (if gen ≠ s.raw Reg.slc_GEN sl || s.slState sl = 0 || s.slState sl = 2 then s.count Reg.slcg_SLC_STALE_DROP
    else match s.descOf sl b i with
      | none => s
      | some d =>
        if d.phase ≠ 1 then s
        else
          let frame := padTo 60 (padTo (descLen d.bytes) (data.take (descLen d.bytes)))
          let h := headersOf frame
          let v := s.classify frame h 35
          if filteredType h.etype then s.finishDesc sl b i 5 0 0
          else if descTso d.bytes && 1 < (if 5 ≤ v.cls then s.forwardTo h 35 else v.dests).length then s.finishDesc sl b i 2 18 0
          else
            let x := s.sli sl
            let s := s.setSli sl { x with descs := x.descs.map fun e =>
              if e.bobbin = b && e.index = i then { e with phase := 2 } else e }
            { s with net := { s.net with arrivals := s.net.arrivals ++
              [{ port := 35, t := s.mono, bytes := frame, desc := some (descClass d.bytes, none, sl), send := some (sl, b, i),
                 tso := if descTso d.bytes then some (le 20 2 d.bytes, le 22 2 d.bytes, le 24 1 d.bytes) else none }] } })

/-- A DMA error (R410): the descriptor completes and the bobbin stops. A descriptor whose own read fails has a TAG that
nothing gives: a free value. -/
def State.dmaError (s : State) (sl b i gen info : Nat) : State :=
  if gen ≠ s.raw Reg.slc_GEN sl || s.slState sl = 0 || s.slState sl = 2 then s.count Reg.slcg_SLC_STALE_DROP
  else
    let ix := bobIx sl b
    let fail := fun (s : State) =>
      let s := (s.finishDesc sl b i 3 info 0).wr Reg.bob_BSTATE ix 2
      s.raise 121 0x0102 (sl * 2 ^ 24 + 3 * 2 ^ 8 + b)
    match s.descOf sl b i with
    | some d => if d.phase = 3 then s else fail s
    | none =>
      if s.slState sl = 1 && s.flag Reg.bob_EN ix && s.raw Reg.bob_BSTATE ix = 1 && s.raw Reg.bob_SQ_HEAD ix = i
          && Tbl.look 0 (s.sli sl).sqTail b ≠ i then
        let (tag, s) := s.free (2 ^ 32)
        let x := s.sli sl
        let d : Desc := { bobbin := b, index := i, bytes := padTo 32 (List.replicate 12 0 ++ leBytes 4 tag), phase := 1, at_ := s.mono }
        fail (State.syncDescs ((s.setSli sl { x with descs := x.descs ++ [d] }).wr Reg.bob_SQ_HEAD ix ((i + 1) % 2 ^ 17)) sl)
      else s

/-- DMA_ERROR (R410): a request for descriptor i of bobbin b ends with UR (info 1) or CA (info 2). -/
def execDmaError (sl b i gen info : Nat) (s : State) : Host.Outcome State Fault Refusal := .next (s.dmaError sl b i gen info)

/-- DMA_TIMEOUT (R390): a request for descriptor i of bobbin b has no completion after 10 ms. -/
def execDmaTimeout (sl b i gen : Nat) (s : State) : Host.Outcome State Fault Refusal :=
  let at_ := match s.descOf sl b i with
    | some d => d.at_ + 10 * unitsMs
    | none => s.mono
  .next ((s.advance at_).dmaError sl b i gen 3)

/-- SEND_COMPLETE (R198, R407): the last copy or segment of a SEND has left the switch core, or the buffer share refused
it. -/
def execSendComplete (sl b i : Nat) (s : State) : Host.Outcome State Fault Refusal :=
  .next (
    let k := (sl, b, i)
    let len := fun (s : State) => match s.descOf sl b i with
      | some d => (descLen d.bytes, if descTso d.bytes then 2 else 0)
      | none => (0, 0)
    if s.net.sendFull.contains k then
      State.finishDesc { s with net := { s.net with sendFull := s.net.sendFull.erase k } } sl b i 1 1 0
    else if s.net.sendDone.contains k then
      State.finishDesc { s with net := { s.net with sendDone := s.net.sendDone.erase k } } sl b i 0 0 (len s).1 (len s).2
    else s)

/-! ### Frames to the host (R411) -/

/-- An enabled RX bobbin. -/
def State.rxBobbin (s : State) (sl b : Nat) : Bool :=
  s.flag Reg.bob_EN (bobIx sl b) && s.raw Reg.bob_KIND (bobIx sl b) = 2 && s.raw Reg.bob_BSTATE (bobIx sl b) = 1

/-- A frame for slice sl is written into its lowest enabled RX bobbin with a posted buffer, or dropped. -/
def State.deliver (s : State) (sl : Nat) (f : Bytes) : State :=
  let rx := (List.range 32).filter fun b => s.rxBobbin sl b
  match rx.findSome? fun b => (s.posted1 sl b).map fun d => (b, d) with
  | some (b, d) =>
    let n := min f.length (descLen d.bytes)
    let s := s.emit (.hostWrite (s.sliceLink sl) (s.sli sl).pasid (descAddr d.bytes) (f.take n))
    s.finishDesc sl b d.index (if descLen d.bytes < f.length then 4 else 0) 0 n
  | none => if rx.isEmpty then s.count Reg.slcg_SLC_RX_NOBOB else s.count Reg.slst_SLC_RX_NOBUF sl

/-- HOST_FRAME_DELIVER (R411): the oldest frame that has left port 35, but for pair frames, which are the module's own
(R227), and those that wait for a FROZEN slice (R418). -/
def execHostFrameDeliver (s : State) : Host.Outcome State Fault Refusal :=
  .next (match s.net.toHost.find? fun f => (headersOf f.bytes).etype ≠ 0x88B5 && !s.frozenFor f with
    | none => s
    | some f =>
      let s := { s with net := { s.net with toHost := s.net.toHost.erase f } }
      let sl := if f.owner < 128 then f.owner else s.rd Reg.slcg_HOST_DEFAULT
      if 128 ≤ sl then s.count Reg.slcg_SLC_RX_NOBOB else s.deliver sl f.bytes)

/-! ### Bobbins on and off (R410, R414) -/

/-- Clearing EN: fetched descriptors complete with FLUSHED and the bobbin is OFF (R410). -/
def State.clearBobbin (s : State) (sl b : Nat) : State :=
  let x := s.sli sl
  let s := s.setSli sl { x with
    errs := x.errs.filter (· ≠ b),
    descs := x.descs.map fun d => if d.bobbin = b && d.phase ≠ 3 then { d with phase := 3, status := 6, info := 0, word := 0 } else d }
  let s := (s.flushDone sl b x.descs.length).bobbinOff sl b
  if s.slState sl = 4 then s.wr Reg.bob_BSTATE (bobIx sl b) 3 else s

/-- BOBBIN_EN_WRITE (R410, R414). -/
def execBobbinEnWrite (sl b : Nat) (en : Bool) (s : State) : Host.Outcome State Fault Refusal :=
  .next (
    let i := bobIx sl b
    let ok := fun (n : Nat) => decide (6 ≤ n) && decide (n ≤ 16)
    if !s.bound sl then s.unmapped
    else if !en then (if s.flag Reg.bob_EN i then s.clearBobbin sl b else s)
    else if s.flag Reg.bob_EN i then s
    else if s.rd Reg.slc_BOB_COUNT sl ≤ b || !ok (s.raw Reg.bob_SQ_LOG2 i) || !ok (s.raw Reg.bob_CQ_LOG2 i) then
      s.count Reg.slst_SLC_BOB_ERR sl
    else (s.wr Reg.bob_EN i 1).wr Reg.bob_BSTATE i (if s.slState sl = 4 then 3 else 1))

/-! ### Shares (R396–R398) -/

/-- The share fields of a slice's entry in order, with the module total of each (R397). -/
def State.shareOf (s : State) : Nat → Fld × Nat
  | 0 => (Reg.slc_TOR_SHARE, 850)
  | 1 => (Reg.slc_SCAN_SHARE, 7600)
  | 2 => (Reg.slc_BUF_SHARE, 46694 - s.raw Reg.swc_ADM_CELLS)
  | 3 => (Reg.slc_BOB_COUNT, 1024)
  | 4 => (Reg.slc_DESC_SHARE, 65536)
  | _ => (Reg.slc_CAP_SHARE, 19000)

/-- The word of a slice's entry that holds a share, as an object (R396). -/
def shareObject (k sl : Nat) : Nat := (0x010000 + sl * 0x200 + ([1, 1, 2, 2, 3, 4] : List Nat).getD k 4) * 256

/-- A share written: it waits for the Window boundary; `who` is the requester in the clamp report, 0 for a register. -/
def State.writeShare (s : State) (k sl v info : Nat) (txn : Option Nat) (who : Nat) : State :=
  s.buffer (s.shareOf k).1 sl v info txn who

/-- SHARE_WRITE (R398): share k of slice sl. -/
def execShareWrite (k sl v who : Nat) (s : State) : Host.Outcome State Fault Refusal :=
  .next (s.writeShare k sl v ((s.shareOf k).1.addr sl) none who)

/-- Before a Window boundary the shares that wait are reduced in their order to keep the module totals (R398); the values
they come to stay in the shadow. -/
def State.limitShares (s : State) : State :=
  if s.held Reg.slc_TOR_SHARE.blk then s
  else
    let go := (List.range 6).foldl (fun (s : State) k =>
      let (f, total) := s.shareOf k
      let mine := s.hif.shadow.filter fun b => (List.range 128).any fun i => b.key = f.key i
      let keys := (List.range 128).map fun i => f.key i
      let cur : Tbl Nat := (List.range 128).foldl (fun m i => Tbl.put 0 m (f.key i) (s.rd f i)) []
      (mine.foldl (fun (z : State × Tbl Nat) b =>
        let others := ((keys.filter (· ≠ b.key)).map fun q => Tbl.look 0 z.2 q).sum
        let want := f.clamp.eff f.wid b.val
        let v := min want (total - others)
        let sl := (keys.takeWhile (· ≠ b.key)).length
        let t := { z.1 with hif := { z.1.hif with
          shadow := z.1.hif.shadow.map fun (c : Buffered) => if c.key = b.key then { c with val := v } else c } }
        let t := if v = want then t else
          let t := t.count Reg.slcg_SLC_SHARE_HELD
          if b.who = 0 then t else t.clampReport b.who (shareObject k sl) b.val v 7
        (t, Tbl.put 0 z.2 b.key v)) (s, cur)).1) s
    go

/-- Owners' FULL follows their shares (R198, R199). -/
def State.syncShares (s : State) : State := (List.range 129).foldl State.syncFull s

/-! ### Grants (R399, R400) -/

/-- Object and subindex of a field of a grant entry. -/
def grantObject (sl g f : Nat) : Nat := (0x010000 + sl * 0x200 + 0x010 + g) * 256 + f

/-- A grant field written waits for the Window boundary; `who` is the handle or requester of the write. -/
def State.writeGrant (s : State) (sl g f v who : Nat) : State :=
  let x := s.sli sl
  s.setSli sl { x with grantPend := (x.grantPend.filter fun p => !(p.1 = g && p.2.1 = f)) ++ [(g, f, v, who)] }

/-- GRANT_WRITE (R399, R400): subindex f (1 Kind, 2 First, 3 Count, 4 Rights) of entry g of slice sl. -/
def execGrantWrite (sl g f v who : Nat) (s : State) : Host.Outcome State Fault Refusal := .next (s.writeGrant sl g f v who)

/-- The end of the range of a kind. -/
def grantEnd (kind : Nat) : Nat := if kind = 1 then 1024 else 262144

/-- First and Count checked against the kind in force, with the clamps: subindex, written, applied, reason. -/
def grantRange (g : Grant) : Grant × List (Nat × Nat × Nat × Nat) :=
  if g.kind = 0 then (g, [])
  else
    let e := grantEnd g.kind
    let f := min g.first (e - 1)
    let c := clampN 1 (e - f) g.count
    ({ g with first := f, count := c },
      (if f = g.first then [] else [(2, g.first, f, 2)]) ++ (if c = g.count then [] else [(3, g.count, c, 7)]))

/-- One field of a grant entry applied, with the clamps. -/
def grantField (g : Grant) (f v : Nat) : Grant × List (Nat × Nat × Nat × Nat) :=
  match f with
  | 1 => if 2 < v then (g, [(1, v, g.kind, 3)]) else grantRange { g with kind := v }
  | 2 => grantRange { g with first := v }
  | 3 => grantRange { g with count := v }
  | _ => ({ g with rights := v % 4 }, if v < 4 then [] else [(4, v, v % 4, 4)])

/-- What the admitted bindings of a slice rest on: kind, stream or slot, right (R400). -/
def State.bindingsOf (s : State) (sl : Nat) : List (Nat × Nat × Nat) :=
  let v := s.admView
  ((v.insts ++ v.extra).filter fun e => e.1 / 512 = sl && !e.2.leaving).flatMap (fun e =>
      ((v.inputsOf e.2).map fun k => (1, k.2, 0))
        ++ (e.2.inputs.filterMap fun tb => if tb.1.kind = 3 then some (2, tb.2 % 2 ^ 18, 0) else none)
        ++ ((slotsOf e.2.prog.outs e.2.outB).map fun o => (2, o.1, 1)))
    ++ (v.scan.filter fun e => e.1 = sl).flatMap fun e =>
      (e.2.ins.map fun i => (2, i.2.2 % 2 ^ 18, 0)) ++ (e.2.slots.map fun n => (2, n, 1))

/-- One waiting grant field is applied, unless it takes a right that an admitted binding uses. -/
def State.applyGrant (s : State) (sl : Nat) (p : Nat × Nat × Nat × Nat) : State :=
  let (g, f, v, who) := p
  let old := Tbl.look ({} : Grant) (s.sli sl).grants g
  let (new, cs) := grantField old f v
  let s' := s.setSli sl { s.sli sl with grants := Tbl.put ({} : Grant) (s.sli sl).grants g new }
  let lost := (s.bindingsOf sl).any fun b => s.granted sl b.1 b.2.1 b.2.2 && !s'.granted sl b.1 b.2.1 b.2.2
  let cur := match f with
    | 1 => old.kind
    | 2 => old.first
    | 3 => old.count
    | _ => old.rights
  if lost then s.clampReport who (grantObject sl g f) v cur 7
  else cs.foldl (fun s c => s.clampReport who (grantObject sl g c.1) c.2.1 c.2.2.1 c.2.2.2) s'

/-- At a Window boundary the grants that wait are applied in their order; commits that waited for them complete (R60). -/
def State.applyGrants (s : State) : State :=
  if s.held Reg.slc_TOR_SHARE.blk then s
  else
    let due := s.slices.flatMap fun e => e.2.grantPend.map fun p => (e.1, p)
    let s := due.foldl (fun s e =>
      let s := s.setSli e.1 { s.sli e.1 with grantPend := (s.sli e.1).grantPend.erase e.2 }
      s.applyGrant e.1 e.2) s
    s.finishTxns (due.map fun e => if e.2.2.2.2 < 0xFFFF0000 then some e.2.2.2.2 else none)

end Sys2Proof.Machine
end

