-- ==== Sys2Proof/Machine/Blob.lean ====
section
/-!
DEFINITION. SAVE and RESTORE of a slice (R420–R424, R455), and the two moments of an admission request, which a restore
shares (R361–R363).
-/

namespace Sys2Proof.Machine

/-! ### The blob (R421, R422) -/

/-- A section: TYPE, LEN and its bytes padded to a multiple of 8 (R422). -/
def blobSection (type : Nat) (b : Bytes) : Bytes :=
  leBytes 2 type ++ leBytes 2 0 ++ leBytes 4 b.length ++ padTo (cdiv b.length 8 * 8) b

/-- The sections of a plaintext: TYPE and bytes. -/
def readSections : Nat → Bytes → List (Nat × Bytes)
  | 0, _ => []
  | n + 1, b =>
    if b.length < 8 then []
    else
      let len := le 4 4 b
      (le 0 2 b, slice 8 len b) :: readSections n (b.drop (8 + cdiv len 8 * 8))

/-- Section 1: eight words of each bobbin's registers, then each held entry with its bobbin ahead of it (log entry 23). -/
def State.saveBobbins (s : State) (sl : Nat) : Bytes :=
  ((List.range 32).flatMap fun b => (List.range 8).flatMap fun w =>
    leBytes 4 (s.readWord (Reg.bob_KIND.addr (bobIx sl b) + 4 * w)))
  ++ (s.sli sl).hold.flatMap fun e => leBytes 1 e.1 ++ List.replicate 7 0 ++ padTo 32 (e.2.take 32)

/-- Section 2: SLC_VEC_MASK, SLC_VEC_PEND and the aperture registers. -/
def State.saveVectors (s : State) (sl : Nat) : Bytes :=
  leBytes 4 (s.raw Reg.vec_SLC_VEC_MASK sl) ++ leBytes 4 (s.raw Reg.vec_SLC_VEC_PEND sl)
    ++ (List.range 8).flatMap fun p => leBytes 4 (s.readWord (Reg.apt_APT_STREAM.addr (sl * 8 + p)))
      ++ leBytes 4 (s.readWord (Reg.apt_APT_PAGE.addr (sl * 8 + p)))

/-- The slice domains a blob carries: all that hold bytes, but the reports and the blobs themselves. -/
def State.savedDomains (s : State) (sl : Nat) : List Nat :=
  (List.range 0x7E).filter fun d => d ≠ 0x48 && d ≠ 0x5C && decide (0 < (s.domain (sliceDom sl d) 0).len)

/-- Instance sets of a slice that are admitted. -/
def State.savedSets (s : State) (sl : Nat) : List Nat :=
  ((s.tor.insts.filter fun e => e.1 / 512 = sl && !e.2.leaving).map fun e => e.2.set).eraseDups

/-- The domain of the admitted scan program, 0xFF for none. -/
def State.savedScan (s : State) (sl : Nat) : Nat :=
  match s.scan.find? fun e => e.1 = sl && !e.2.leaving with
  | some e => e.2.prog.dom
  | none => 0xFF

/-- Section 4: number of sets, the sets, the scan domain, then INST, input, stream and channel of each channel binding. -/
def State.saveAdmitted (s : State) (sl : Nat) : Bytes :=
  let sets := s.savedSets sl
  leBytes 1 sets.length ++ sets.flatMap (leBytes 1) ++ leBytes 1 (s.savedScan sl)
    ++ (s.tor.insts.filter fun e => e.1 / 512 = sl && !e.2.leaving).flatMap fun e =>
      ((e.2.inputs).zip (List.range 64)).flatMap fun tbn =>
        if tbn.1.1.kind = 3 then []
        else match s.slotOwner (tbn.1.2 % 2 ^ 13) with
          | some (k, c) => leBytes 2 e.1 ++ leBytes 1 tbn.2 ++ leBytes 2 k ++ leBytes 1 c
          | none => []

/-- Section 6: the scan program's state (R455). -/
def State.saveScan (s : State) (sl : Nat) : Bytes :=
  let x := s.scanOf sl
  leBytes 1 x.prog.dom ++ List.replicate 7 0 ++ leBytes 8 x.number ++ leBytes 8 (s.mono / unitsNs)
    ++ leBytes 8 (s.tai / unitsNs) ++ Memory.readBytes x.data 0 x.prog.dataLen

/-- All sections of a slice, in TYPE order (R420, R422): each instance's newest complete far fix. -/
def State.blobSections (s : State) (sl : Nat) : List Bytes :=
  [blobSection 1 (s.saveBobbins sl), blobSection 2 (s.saveVectors sl)]
  ++ ((s.savedDomains sl).map fun d => blobSection 3 (leBytes 1 d ++ List.replicate 7 0 ++ s.image (sliceDom sl d)))
  ++ [blobSection 4 (s.saveAdmitted sl)]
  ++ ((s.tor.insts.filter fun e => e.1 / 512 = sl && !e.2.leaving).filterMap fun e =>
      (e.2.far.head?).map fun f => blobSection 5 (s.farRecord e.1 f))
  ++ (if s.savedScan sl = 0xFF then [] else [blobSection 6 (s.saveScan sl)])

/-- The slot of the migration key that a SAVE takes: the lowest ACTIVE slot with WRAP that belongs to the slice, else to the
module (DESIGN CHOICE, log entry 23). -/
def State.migrationSlot (s : State) (sl : Nat) : Option Nat :=
  let ok := fun (o : Nat) (e : Nat × KeySlot) => e.2.state = 1 && s.imported e.1 && e.2.owner = o && bit useWrap e.2.usage
  ((s.bnc.slots.find? (ok sl)).or (s.bnc.slots.find? (ok 0xFF))).map (·.1)

/-- The slot that a blob's KEY_ID names. -/
def State.keyIdSlot (s : State) (id : Nat) : Option Nat :=
  (s.bnc.slots.find? fun e => e.2.state ≠ 0 && s.imported e.1 && e.2.keyId = id && bit useWrap e.2.usage).map (·.1)

/-- The info string "SLB1" and magic of a blob. -/
def slb1 : Bytes := ascii [0x53, 0x4C, 0x42, 0x31]

/-- A slice command ends while it is carried out, with a reason of R394. -/
def State.sliceBusy (s : State) (src : Requester) (h reason : Nat) : State :=
  s.sliceDone src h stBUSY reason

/-- SAVE (R420–R423): the blob of a FROZEN slice. -/
def execSave (src : Requester) (sl : Nat) (s : State) : Host.Outcome State Fault Refusal :=
  .next (s.sliceCmd src 6 sl false fun s h =>
    match s.migrationSlot sl with
    | none => s.sliceBusy src h slBlobKey
    | some n => match s.useKey n useWrap 4 with
      | (none, s) => s.sliceBusy src h slBlobKey
      | (some key, s) =>
        let (nonce, s) := s.random 12
        let secs := s.blobSections sl
        let plain := secs.flatten
        let total := 64 + plain.length + 16
        let hdr := slb1 ++ leBytes 2 1 ++ leBytes 1 sl ++ leBytes 1 0 ++ leBytes 4 total ++ leBytes 2 secs.length ++ leBytes 2 0
          ++ leBytes 4 (s.wh.fleet % 2 ^ 20) ++ padTo 12 s.ident.serial ++ time96le s.tai ++ nonce
          ++ leBytes 4 (s.slot n).keyId ++ leBytes 4 0
        let ct := Config.gcmSeal (Config.hkdf key nonce slb1 32) nonce hdr plain
        State.sliceDone (s.fillDomain (sliceDom sl 0x7E) (hdr ++ ct)) src h stOK total)

/-! ### RESTORE: checks and admission (R424) -/

/-- The reason that refuses a blob, or its plaintext, in the order of R424. -/
def State.openBlob (s : State) (b : Bytes) : Except Nat Bytes × State :=
  if b.length < 80 || b.take 4 ≠ slb1 || le 4 2 b ≠ 1 || le 8 4 b < 80 || b.length < le 8 4 b then (.error slBlobFormat, s)
  else match s.keyIdSlot (le 56 4 b) with
    | none => (.error slBlobKey, s)
    | some n => match s.useKey n useWrap 4 with
      | (none, s) => (.error slBlobKey, s)
      | (some key, s) =>
        let nonce := slice 44 12 b
        match Config.gcmOpen (Config.hkdf key nonce slb1 32) nonce (b.take 64) (slice 64 (le 8 4 b - 64) b) with
        | none => (.error slBlobAuth, s)
        | some p => (.ok p, s)

/-- Channel bindings of section 4: input number, stream, channel, by instance number in the slice. -/
def readBindings : Nat → Bytes → List (Nat × Nat × Nat × Nat)
  | 0, _ => []
  | n + 1, b =>
    if b.length < 6 then []
    else (le 0 2 b % 512, le 2 1 b, le 3 2 b, le 5 1 b) :: readBindings n (b.drop 6)

/-- An instance-set image with its channel bindings moved to the target's streams; its CRC follows (R424). -/
def State.rebindSet (s : State) (binds : List (Nat × Nat × Nat × Nat)) (b : Bytes) : Bytes :=
  match readSet b with
  | .error _ => b
  | .ok rs =>
    let b := rs.foldl (fun (b : Bytes) r => (binds.filter fun x => x.1 = r.inst && x.2.1 < r.nIn).foldl (fun (b : Bytes) x =>
      let slot := entSlotBase (s.strm x.2.2.1).entry + x.2.2.2
      let o := r.off + 32 + 4 * x.2.1
      putLe b o 4 (le o 4 b / 2 ^ 13 * 2 ^ 13 + slot % 2 ^ 13)) b) b
    let total := le 8 4 b
    putLe b 12 4 (crc32c (b.take 12 ++ List.replicate 4 0 ++ slice 16 (total - 16) b))

/-- The slice domains of a blob are written, instance sets with their bindings moved. -/
def State.restoreDomains (s : State) (sl : Nat) (secs : List (Nat × Bytes)) (binds : List (Nat × Nat × Nat × Nat)) : State :=
  (secs.filter fun x => x.1 = 3).foldl (fun (s : State) x =>
    let d := le 0 1 x.2
    let b := x.2.drop 8
    if 0x7E ≤ d then s
    else s.fillDomain (sliceDom sl d) (if 0x20 ≤ d ∧ d < 0x40 then s.rebindSet binds b else b)) s

/-- RESTORE (R424): the blob is checked and decrypted, its domains are written with their bindings moved, and its sets and
scan program are submitted as one request. -/
def execRestore (src : Requester) (sl : Nat) (s : State) : Host.Outcome State Fault Refusal :=
  .next (s.sliceCmd src 7 sl false fun s h =>
    match s.openBlob (s.image (sliceDom sl 0x7F)) with
    | (.error r, s) => s.sliceBusy src h r
    | (.ok plain, s) =>
      if 17 ≤ s.tor.queue.length then s.sliceDone src h stBUSY 0
      else
        let secs := readSections plain.length plain
        let adm := ((secs.find? fun x => x.1 = 4).map (·.2)).getD [0, 0xFF]
        let n := le 0 1 adm
        let sets := (slice 1 n adm).map fun b => b.toNat % 32
        let scan := le (1 + n) 1 adm
        let s := s.restoreDomains sl secs (readBindings adm.length (adm.drop (2 + n)))
        let s := s.releaseDomain (sliceDom sl 0x7F)
        let parts := sets ++ (if scan = 0xFF then [] else [scan])
        let c : SliceCmd := { op := 7, src := src, handle := h, waitAdm := parts, blob := plain }
        let s := s.setSli sl { s.sli sl with cmd := some c }
        let r : AdmReq := { kind := 17, slice := sl, obj := 0, check := false, deep := false, src := src, handle := h }
        State.syncQueue { s with tor := { s.tor with queue := s.tor.queue ++ [r] } })

/-! ### RESTORE: loading (R346, R424, R455) -/

/-- The lowest evaluation from which all up to `n`, excluded, have their inputs in the store. -/
def State.storedFrom (s : State) (x : Inst) (n : Nat) : Nat → Nat
  | 0 => n
  | k + 1 => if s.inputsStored x (n - 1) then State.storedFrom s x (n - 1) k else n

/-- A far fix of a blob under the target slice's number: INST and the CRC follow; none when its own CRC is wrong. -/
def retarget (sl : Nat) (b : Bytes) : Option Bytes :=
  if le 40 4 b ≠ crc32c (b.take 40 ++ leBytes 4 0 ++ b.drop 44) then none
  else
    let b := putLe b 6 2 (sl * 512 + le 6 2 b % 512)
    some (putLe b 40 4 (crc32c (b.take 40 ++ leBytes 4 0 ++ b.drop 44)))

/-- One far fix loaded: evaluations that the store no longer covers are lost, the others are replayed (R340, R346, R424).
Answers whether the instance is restored. -/
def State.restoreFix (s : State) (sl : Nat) (b : Bytes) : Bool × State :=
  match retarget sl b with
  | none => (false, s.count Reg.tor_TOR_FARFIX_BAD)
  | some b =>
    if !s.farOk b then (false, s.count Reg.tor_TOR_FARFIX_BAD)
    else
      let i := le 6 2 b
      let x := s.inst i
      let last := nearNumber x.next (le 16 4 b)
      let first := s.storedFrom x x.next (x.next - (last + 1))
      let lost := first - (last + 1)
      let s := s.setInst i { x with next := max x.next (last + 1),
                                    skips := (if 1 < lost then [(last + 1, first - 1)] else []) ++ x.skips }
      let s := s.loadFix i last b
      if lost = 0 then (true, s)
      else
        let s := s.count Reg.tor_TOR_LOST_EVALS 0 (lost - 1)
        match s.instTile i with
        | none => (true, s)
        | some t =>
          let s := s.loseEval t i (first - 1)
          (true, { s with tor := { s.tor with recoveries := s.tor.recoveries.map fun (r : Recovery) =>
            if r.inst = i then { r with lost := some (last + 1, first - 1) } else r } })

/-- A timer's record with the transit time added (R455). -/
def shiftTimer (d : Bytes) (off monoS taiS monoR taiR : Nat) : Bytes :=
  let flags := le (off + 24) 1 d
  let g := (monoS - le (off + 16) 8 d) + (taiR - taiS)
  let et := min (le (off + 8) 8 d) (le off 8 d + g)
  let d := if bit 2 flags then putLe d off 8 et else d
  putLe d (off + 16) 8 monoR

/-- The scan program's data and cycle number (R455). SFB types 1 to 3 are timers (R437). -/
def State.restoreScan (s : State) (sl : Nat) (b : Bytes) : State :=
  let x := s.scanOf sl
  if x.prog.dom ≠ le 0 1 b then s
  else
    let d := padTo x.prog.dataLen ((b.drop 32).take x.prog.dataLen)
    let d := (x.prog.sfbs.filter fun f => f.type ≤ 3).foldl (fun (d : Bytes) f =>
      shiftTimer d f.off (le 16 8 b) (le 24 8 b) (s.mono / unitsNs) (s.tai / unitsNs)) d
    s.setScan sl { x with data := Memory.writeBytes [] 0 d, number := le 8 8 b }

/-- One bobbin's registers from its eight words: HELD; EN only below BOB_COUNT (R414, R424). -/
def State.restoreBobbin (s : State) (sl b : Nat) (w : Bytes) : State :=
  let i := bobIx sl b
  let word := fun (k : Nat) => le (4 * k) 4 w
  let w0 := word 0
  let s := ((s.wr Reg.bob_KIND i (bits 2 0 w0)).wr Reg.bob_VEC i (bits 12 8 w0)).wr Reg.bob_IRQ_EN i (bits 13 13 w0)
  let s := (s.wr Reg.bob_SQ_LOG2 i (bits 20 16 w0)).wr Reg.bob_CQ_LOG2 i (bits 28 24 w0)
  let s := s.wrFlag Reg.bob_EN i (bit 3 w0 && decide (b < s.rd Reg.slc_BOB_COUNT sl))
  let s := ((s.wr Reg.bob_SQ_BASE_LO i (word 1)).wr Reg.bob_SQ_BASE_HI i (word 2)).wr Reg.bob_CQ_BASE_LO i (word 3)
  let s := ((s.wr Reg.bob_CQ_BASE_HI i (word 4)).wr Reg.bob_SQ_HEAD i (word 5)).wrFlag Reg.bob_PHASE i (bit 2 (word 6))
  let s := (s.wr Reg.bob_CQ_TAIL i (word 7)).wr Reg.bob_BSTATE i 3
  let x := s.sli sl
  s.setSli sl { x with sqTail := Tbl.put 0 x.sqTail b (word 5 % 2 ^ 17), cqHead := Tbl.put 0 x.cqHead b (word 7 % 2 ^ 17) }

/-- The held entries at the end of section 1. -/
def readHeld : Nat → Bytes → List (Nat × Bytes)
  | 0, _ => []
  | n + 1, b => if b.length < 40 then [] else (le 0 1 b, slice 8 32 b) :: readHeld n (b.drop 40)

/-- Bobbins, held entries, vectors and apertures of a blob (R422). -/
def State.restoreBobbins (s : State) (sl : Nat) (b v : Bytes) : State :=
  let s := (List.range 32).foldl (fun (s : State) k => s.restoreBobbin sl k (slice (32 * k) 32 b)) s
  let s := s.setSli sl { s.sli sl with hold := (readHeld b.length (b.drop 1024)).take 1024, errs := [] }
  let s := (s.wr Reg.vec_SLC_VEC_MASK sl (le 0 4 v)).wr Reg.vec_SLC_VEC_PEND sl (le 4 4 v)
  (List.range 8).foldl (fun (s : State) p =>
    let w := le (8 + 8 * p) 4 v
    let i := sl * 8 + p
    ((s.wr Reg.apt_APT_STREAM i (bits 9 0 w)).wr Reg.apt_APT_EN i (bits 15 15 w)).wr Reg.apt_APT_PAGE i (le (12 + 8 * p) 4 v)) s

/-- The admission of a RESTORE has applied: far fixes, scan data, bobbins and vectors are loaded; the slice is FROZEN under
a new generation and the handle completes with the instances restored (R391, R393, R424). -/
def State.restoreDone (s : State) (sl : Nat) : State :=
  match (s.sli sl).cmd with
  | none => s
  | some c =>
    if c.op ≠ 7 then s
    else
      let secs := readSections c.blob.length c.blob
      let (n, s) : Nat × State := (secs.filter fun x => x.1 = 5).foldl (fun (z : Nat × State) x =>
        let (ok, s) := z.2.restoreFix sl x.2
        (z.1 + b2n ok, s)) (0, s)
      let s := (secs.filter fun x => x.1 = 6).foldl (fun (s : State) x => s.restoreScan sl x.2) s
      let one := fun (k : Nat) => ((secs.find? fun x => x.1 = k).map (·.2)).getD []
      let s := s.restoreBobbins sl (one 1) (one 2)
      let s := ((s.setSli sl { s.sli sl with cmd := none }).wr Reg.slc_STATE sl 4).nextGen sl
      s.sliceDone c.src c.handle stOK n

/-- A RESTORE's admission is refused: the handle completes with it (R394). -/
def State.restoreRefused (s : State) (r : AdmReq) (result : Nat) : State :=
  State.sliceDone (s.setSli r.slice { s.sli r.slice with cmd := none }) r.src r.handle stREFUSED result

/-! ### The moments of an admission request -/

/-- ADMISSION_COMPUTED (R361, R362): at instant t the computation of the first request ends. A request whose handle a
slice reset has aborted applies nothing (R387). -/
def execAdmissionComputed (t : Nat) (s : State) : Host.Outcome State Fault Refusal :=
  .next (if s.pwr.down.isSome then s else match s.tor.queue with
    | [] => s
    | r :: rest =>
      let s := s.advance t
      let s := State.syncQueue { s with tor := { s.tor with queue := rest } }
      if !(s.wh.handles.any fun o => o.handle = r.handle) then s
      else match s.compute r s.admInstant with
        | .error x =>
          let s := if r.check then s else s.admRefused x (r.kind = 3)
          let s := s.noteRefused r (x.reason + x.item * 2 ^ 16)
          if r.kind = 17 then s.restoreRefused r (x.reason + x.item * 2 ^ 16)
          else (s.complete r.handle stREFUSED (x.reason + x.item * 2 ^ 16)).checkBoot
        | .ok x =>
          let s := { s with tor := { s.tor with plans := s.tor.plans ++ [x.plan] } }
          if r.check then s.fillDomain 0x040701 (boundTable (s.raw Reg.adm_ADM_SEQ) (x.view.records s))
          else
            let s := x.clamps.foldl (fun s c => s.clampReport r.handle c.1 c.2.1 c.2.2.1 c.2.2.2) s
            x.doms.foldl (fun s d => s.releaseDomain d) s)

/-- ADMISSION_APPLY (R363, R387): the next admitted request reaches its instant. -/
def execAdmissionApply (s : State) : Host.Outcome State Fault Refusal :=
  .next (match s.tor.plans.find? fun p => (decide (p.req.kind ≤ 8) || decide (p.req.kind = 17))
      && ((s.pwr.down).isNone || decide (2 ^ 32 ≤ p.req.handle)) with
    | none => s
    | some p =>
      let s := s.advance (s.monoOf p.at_)
      let s := { s with tor := { s.tor with plans := s.tor.plans.erase p } }
      if p.req.check then s.complete p.req.handle stOK p.items
      else match s.planLost p with
        | some i =>
          let r := adTileLost + i * 2 ^ 16
          let s := (s.admRefused { reason := adTileLost, item := i } false).noteRefused p.req r
          if p.req.kind = 17 then s.restoreRefused p.req r else (s.complete p.req.handle stREFUSED r).checkBoot
        | none =>
          if p.req.kind = 17 then (s.applyPlan p).restoreDone p.req.slice
          else (s.applyPlan p).checkBoot)

end Sys2Proof.Machine
end

