-- ==== Sys2Proof/Machine/Capture.lean ====
section
/-!
DEFINITION. The commands of disturbance capture (chapter 15).
-/

namespace Sys2Proof.Machine

/-! ### CAP_APPLY (R460–R462) -/

/-- A field of a staged set entry brought into its range: the entry, and what the clamp changed (value, applied,
reason). -/
def clampField (e : Bytes) (off size lo hi : Nat) : Bytes × List (Nat × Nat × Nat) :=
  let v := le off size e
  let w := clampN lo hi v
  if v = w then (e, []) else (putLe e off size w, [(v, w, 2)])

/-- A staged set entry as it is applied (R460). -/
def clampSet (e : Bytes) : Bytes × List (Nat × Nat × Nat) :=
  let (e, a) : Bytes × List (Nat × Nat × Nat) :=
    if 128 ≤ le 0 1 e then (putLe e 1 1 (le 1 1 e / 2 * 2), [(le 0 1 e, le 0 1 e, 7)]) else (e, [])
  let (e, b) := clampField e 4 1 0 31
  let (e, c) := clampField e 5 1 0 3
  let (e, d) := clampField e 10 2 1 256
  let (e, f) := clampField e 12 2 1 1024
  let (e, g) := clampField e 14 2 0 10000
  let (e, h) := clampField e 16 2 100 60000
  let (e, i) := clampField e 18 2 0 10000
  (e, a ++ b ++ c ++ d ++ f ++ g ++ h ++ i)

/-- The reason that refuses a set with its members (R461): a stream not admitted or of another rate, a value type that a
row cannot carry, a missing grant. -/
def State.setRefusal (s : State) (e : Bytes) (ms : List Nat) : Option Nat :=
  let base := setBase e
  let sl := setOwner e
  let rate := entRate (s.strm base).entry
  let one := fun (m : Nat) =>
    if memKind m = 1 then match s.slotOwner (memTarget m) with
      | none => some adBinding
      | some (k, _) => if !s.live k || entRate (s.strm k).entry ≠ rate then some adBinding
        else if !s.granted sl 1 k 0 then some adNoGrant else none
    else if memKind m = 2 then
      if !s.granted sl 2 (memTarget m) 0 then some adNoGrant else none
    else some adBinding
  if !s.live base then some adBinding else ms.findSome? one

/-- The staged sets with their members, as they would be applied, and the clamps: (set, written, applied, reason). -/
def State.stagedSets (s : State) : List (Bytes × List Nat) × List (Nat × Nat × Nat × Nat) :=
  let raw := (List.range 64).map fun k => clampSet (s.domBytes 0x040800 (64 * k) 64)
  (raw.map fun p =>
      if setValid p.1 then
        (p.1, (List.range (setMemberCount p.1)).map fun j => ofLe (s.domBytes 0x040801 (4 * (setMemberBase p.1 + j)) 4))
      else ([], []),
    ((List.range 64).zip raw).flatMap fun kp => kp.2.2.map fun c => (kp.1, c.1, c.2.1, c.2.2))

/-- CAP_APPLY (R461, R462): the staged sets are checked as a whole, and scheduled or refused. -/
def execCapApply (src : Requester) (s : State) : Host.Outcome State Fault Refusal :=
  .next (
    let (h, s) := s.newHandle src
    let (sets, clamps) := s.stagedSets
    let s := (s.releaseDomain 0x040800).releaseDomain 0x040801
    let live := sets.filter fun x => !x.1.isEmpty
    let refusal : Option Nat := (live.findSome? fun x => s.setRefusal x.1 x.2).or
      (if 6144 * 2 ^ 20 < (live.map fun x => setStage x.1).sum then some adBuffer
      else if 38400000000 * 95 / 100 < s.admView.dram + (live.map fun x => s.setTraffic x.1).sum then some adDramLoad
      else none)
    match refusal with
    | some r => State.complete ((s.count Reg.cap_CAP_REFUSE).count Reg.adm_ADM_REFUSE) h stREFUSED r
    | none =>
      let s := clamps.foldl (fun (s : State) c => s.clampReport h 0x04080000 (c.1 * 2 ^ 32 + c.2.1) c.2.2.1 c.2.2.2) s
      { s with cap := { s.cap with plans := s.cap.plans ++
        [{ at_ := cdiv (s.tai + 2 * unitsMs) unitsWin * unitsWin, handle := h, clamped := !clamps.isEmpty, sets := sets }] } })

/-- One set takes its new entry and members: an unchanged one goes on, a changed one restarts (R462). -/
def State.applySet (s : State) (k : Nat) (e : Bytes) (ms : List Nat) : State :=
  let x := s.cset k
  if x.entry = e && x.members = ms then s
  else
    let y : CapSet := { entry := e, members := ms }
    let y := if e.isEmpty then y else y.stage y.start
    let s := (((s.setCset k y).wr Reg.cset_DIV_ACT k 1).wr Reg.cset_SEQ k 0)
    let st := s.capState k
    (s.wr Reg.cset_STATE k st).raise 56 0x0100 (k + st * 2 ^ 8)

/-- CAP_APPLY_TAKE_EFFECT (R462): at its Window boundary the oldest accepted CAP_APPLY applies. -/
def execCapApplyTakeEffect (s : State) : Host.Outcome State Fault Refusal :=
  .next (match s.cap.plans with
    | [] => s
    | p :: ps =>
      let s := s.advance (s.monoOf p.at_)
      let s : State := { s with cap := { s.cap with plans := ps } }
      let s := ((List.range 64).zip p.sets).foldl (fun (s : State) x => s.applySet x.1 x.2.1 x.2.2) s
      s.complete p.handle (if p.clamped then stCLAMPED else stOK))

/-! ### Triggers (R467, R468) -/

/-- CAP_TRIGGER (R467): set k is marked by command. -/
def execCapTrigger (src : Requester) (k : Nat) (s : State) : Host.Outcome State Fault Refusal :=
  .next (
    let (h, s) := s.newHandle src
    if 64 ≤ k || !(s.cset k).on then s.complete h stREFUSED adBinding
    else (s.mark k 0 0 s.tai 0).complete h stOK)

/-- TRIGGER_EDGE (R467): an edge that passed the glitch filter, at instant t: line 0–3 is XTRIG0–3, 4 is TRIG_IN. The
module's own pulse on a line fires nothing. -/
def execTriggerEdge (line : Nat) (rising : Bool) (t : Nat) (s : State) : Host.Outcome State Fault Refusal :=
  .next (
    let s := s.advance t
    let own := s.cap.drive.any fun d => d.1 = line
    let lvl := s.raw Reg.cap_XTRIG_LVL
    let s := if 4 ≤ line then s.wrFlag Reg.cap_TRIG_IN_LVL 0 rising
      else s.wr Reg.cap_XTRIG_LVL 0 (putBit line (rising || own) lvl)
    if line < 4 && own then s
    else s.fireAll (if line < 4 then 1 else 2) s.tai (b2n !rising) fun _ edge target =>
      (4 ≤ line || target % 4 = line) && (edge = 3 || edge = 1 && rising || edge = 2 && !rising))

/-- XTRIG_PULSE_END (R468): the module's 2 µs drive of a line ends. -/
def execXtrigPulseEnd (line : Nat) (s : State) : Host.Outcome State Fault Refusal :=
  .next (match s.cap.drive.find? fun d => d.1 = line with
    | none => s
    | some (_, t) =>
      let s := s.advance t
      let s : State := { s with cap := { s.cap with drive := Tbl.drop s.cap.drive line } }
      (s.wr Reg.cap_XTRIG_LVL 0 (clearBit line (s.raw Reg.cap_XTRIG_LVL))).emit (.pin (pinXtrig line) 0))

/-- GoCBRef and stNum of a GOOSE frame; the element tags are those of IEC 61850-8-1 (PRESUMED, log entry 8). -/
def gooseOf (f : Bytes) (h : Headers) : Option (Bytes × Nat) :=
  if h.etype ≠ 0x88B8 then none
  else match berNext (f.drop (h.payload + 8)) with
    | some (0x61, c, _) => match berList c with
      | some l => match berFind l 0x80, berFind l 0x85 with
        | some r, some n => some (r, ofBe n)
        | _, _ => none
      | none => none
    | _ => none

/-- A frame comes from a peer of kind 2 (R65, R243). -/
def peerMatches (p : Peer) (f : Bytes) (h : Headers) (ref : Bytes) : Bool :=
  p.kind = 2 && p.mac = h.src && p.appid = be h.payload 2 f && p.vlan = ((h.tag.map (·.2)).getD 0) && p.reference = ref

/-- A GOOSE frame at one trigger entry: it fires when the stNum differs from the last one accepted (R467). -/
def State.gooseTrigger (s : State) (k j : Nat) (peers : Tbl Peer) (f : SwFrame) (h : Headers) (ref : Bytes) (st : Nat) : State :=
  let x := s.cset k
  let (src, _, target) := setTrig x.entry j
  if !x.on || src ≠ 3 || !peerMatches (Tbl.look ({} : Peer) peers (target % 2 ^ 16)) f.bytes h ref then s
  else
    let last := Tbl.look none x.stNum j
    let s := s.setCset k { x with stNum := Tbl.ins (some st) x.stNum j }
    if last.isNone || last = some st then s else s.fire k j 3 (s.taiOf f.arrived) st

/-- CAPTURE_FRAME_RX (R467): the oldest frame that has left port 34. -/
def execCaptureFrameRx (s : State) : Host.Outcome State Fault Refusal :=
  .next (match s.net.toCapture with
    | [] => s
    | f :: rest =>
      let s : State := { s with net := { s.net with toCapture := rest } }
      let h := headersOf f.bytes
      let peers := ((s.net.epochs.find? fun e => e.num = f.epoch).getD s.epoch).peers
      match gooseOf f.bytes h with
      | none => s
      | some (ref, st) => s.cap.sets.foldl (fun (s : State) e =>
          (List.range 4).foldl (fun (s : State) j => s.gooseTrigger e.1 j peers f h ref st) s) s)

/-! ### Ticks, steps and flushes (R464, R465, R469, R473–R475) -/

/-- The GAP record of the ticks lost, written once a row has room again (R475). -/
def State.closeGap (s : State) (k : Nat) : State :=
  let x := s.cset k
  match x.gap with
  | none => s
  | some (f, l, n) =>
    let r := capRecord 4 (leBytes 4 0) (leBytes 8 f ++ leBytes 8 l)
    ((s.setCset k { x.stage r with gap := none }).count Reg.cset_CAP_GAP_TICKS k n).raise 58 0x0104 k

/-- CAPTURE_TICK (R464, R465): set k at tick a of its BASE, L after the tick's nominal time. -/
def execCaptureTick (k a : Nat) (s : State) : Host.Outcome State Fault Refusal :=
  .next (
    let x := s.cset k
    let base := setBase x.entry
    if !x.on || !s.live base then s
    else
      let s := s.advance (s.monoOf (a * entPeriod (s.strm base).entry + s.capDelay x))
      let s := s.armDown k
      let old := s.raw Reg.cset_DIV_ACT k
      let s := match (s.cset k).step with
        | some d => if d < old || a % d = 0 then s.capStep k a d else s
        | none => s
      let div := s.raw Reg.cset_DIV_ACT k
      if a % div ≠ 0 then s
      else
        let x := s.cset k
        let row := s.capRow x a
        if !x.rowFits (row.length + 16) then
          s.setCset k { x with gap := some (match x.gap with
            | some (f, _, n) => (f, a, n + 1)
            | none => (a, a, 1)) }
        else
          let s := s.closeGap k
          (s.setCset k ((s.cset k).stageRow a div row)).armDown k)

/-- CAPTURE_FLUSH_TIMEOUT (R469): CAP_FLUSH_MS since the first record of the buffer of set k. -/
def execCaptureFlushTimeout (k : Nat) (s : State) : Host.Outcome State Fault Refusal :=
  .next (match (s.cset k).buf with
    | none => s
    | some b => (s.advance (b.at_ + s.rd Reg.cap_CAP_FLUSH_MS * unitsMs)).closeBuf k)

/-- RATE_RESTORE_TIMEOUT (R474): the fill of set k has stayed at or below 25 % for RESTORE_MS; the divisor halves at the
next tick. -/
def execRateRestoreTimeout (k : Nat) (s : State) : Host.Outcome State Fault Refusal :=
  .next (
    let x := s.cset k
    let div := s.raw Reg.cset_DIV_ACT k
    match x.lowSince with
    | none => s
    | some t =>
      if div ≤ 1 then s
      else
        let s := s.advance (t + setRestore x.entry * unitsMs)
        s.setCset k { x with step := some (div / 2) })

/-- POST_TRIGGER_HOLD_END (R475): the hold of set k ends. -/
def execPostTriggerHoldEnd (k : Nat) (s : State) : Host.Outcome State Fault Refusal :=
  .next (match (s.cset k).holdEnd with
    | none => s
    | some t =>
      let s := s.advance t
      (s.setCset k { s.cset k with holdEnd := none }).armDown k)

end Sys2Proof.Machine
end

