-- ==== Sys2Proof/Machine/Logbook.lean ====
section
/-!
DEFINITION. The event recorder's storage: records written to NOR, the scan at start-up, clears, and the trigger and snapshot
tables (chapter 21). What is offered to it is in Ops.
-/

namespace Sys2Proof.Machine

/-! ### Records (R585, R587) -/

/-- The 256 bytes of a record with its SEQ and LOST (R587). -/
def LogRec.bytes (r : LogRec) (seq lost : Nat) : Bytes :=
  let head := leBytes 2 r.type ++ leBytes 1 r.source ++ leBytes 1 (r.flags + 4 * b2n (lost ≠ 0)) ++ leBytes 2 r.code
    ++ leBytes 1 r.snap.length ++ leBytes 1 r.stxState ++ leBytes 4 seq ++ leBytes 4 r.info ++ leBytes 8 r.opSec
    ++ leBytes 2 r.opMs ++ leBytes 2 lost ++ leBytes 4 r.pcyc ++ time96le r.tai ++ leBytes 4 r.aux ++ List.replicate 12 0
  let body := padTo 192 ((r.snap.flatMap fun p => leBytes 4 p.1 ++ leBytes 4 p.2) ++ r.body)
  head ++ leBytes 4 (crc32c (head ++ List.replicate 4 0 ++ body)) ++ body

/-- SEQ of a slot; an empty one reads 0xFFFFFFFF (R585). -/
def logSeq (b : Bytes) : Nat := if b.isEmpty then 0xFFFFFFFF else le 8 4 b

/-- A slot that holds a record with a good CRC. -/
def logValid (b : Bytes) : Bool :=
  logSeq b ≠ 0xFFFFFFFF && le 60 4 b = crc32c (b.take 60 ++ List.replicate 4 0 ++ b.drop 64)

/-- The next slot: its area (true: permanent) and number (R586). -/
def State.logNext (s : State) : Bool × Nat :=
  if s.raw Reg.log_PERM_COUNT < 8192 then (true, s.raw Reg.log_PERM_COUNT) else (false, s.raw Reg.log_CIRC_HEAD)

/-- Bytes put into the next slot, which is then used: a circulating sector is erased at its first slot, and a full permanent
area raises code 0x0101 (R586). -/
def State.logPut (s : State) (b : Bytes) : State :=
  let (perm, n) := s.logNext
  if perm then
    let s := State.wr { s with log := { s.log with perm := Tbl.ins b s.log.perm n } } Reg.log_PERM_COUNT 0 (n + 1)
    if n + 1 = 8192 then s.raise 101 0x0101 0 else s
  else
    let area := if n % 256 = 0 then s.log.circ.filter fun e => !(n ≤ e.1 && e.1 < n + 256) else s.log.circ
    let s := State.wr { s with log := { s.log with circ := Tbl.ins b area n } } Reg.log_CIRC_HEAD 0 ((n + 1) % 65536)
    if n = 65535 then s.wr Reg.log_CIRC_WRAPPED 0 1 else s

/-- A record written into the next slot with the next SEQ (R586, R590, R594). -/
def State.logWrite (s : State) (r : LogRec) : State :=
  let seq := s.raw Reg.log_SEQ_NEXT
  let b := r.bytes seq s.log.lost
  let s : State := { s with log := { s.log with lost := 0, dropRaised := false } }
  ((s.wr Reg.log_SEQ_NEXT 0 (seq + 1)).count Reg.log_LOG_WRITTEN).logPut b

/-- The queue replaced; QUEUED follows. -/
def State.logQueue (s : State) (q : List LogRec) : State :=
  State.wr { s with log := { s.log with queue := q } } Reg.log_QUEUED 0 q.length

/-- A write may start: the Logbook has its supply, no holdup, no clear (R595, R597). -/
def State.logReady (s : State) : Bool := s.domainOn 1 && (s.pwr.holdAt).isNone && (s.log.clear).isNone

/-- LOG_RECORD_WRITE (R595): the oldest queued record is written and read back. A failed read-back leaves in its slot bytes
that nothing gives (a free value), and the record goes to the next slot. -/
def execLogRecordWrite (ok : Bool) (s : State) : Host.Outcome State Fault Refusal :=
  .next (match s.log.queue with
    | [] => s
    | r :: rest =>
      if !s.logReady then s
      else if ok then (s.logQueue rest).logWrite r
      else
        let (perm, n) := s.logNext
        let (x, s) := s.free (2 ^ 2048)
        ((s.logPut (leBytes 256 x)).count Reg.log_LOG_NOR_FAIL).raise 103 0x0103 (n + b2n perm * 2 ^ 16))

/-! ### Clearing (R597, R598) -/

/-- The records of a scope: the circulating area, and the permanent one with scope 1. -/
def State.logScope (s : State) (scope : Nat) : List Bytes :=
  ((if scope = 1 then s.log.perm.map (·.2) else []) ++ s.log.circ.map (·.2)).filter logValid

/-- The user entry of a requester; one that is no session has none, and the spec gives no value (R588). -/
def State.logUser (s : State) (src : Requester) : Nat × State :=
  match src with
  | .session id => match s.wh.sessions.find? fun x => x.id = id with
    | some x => (x.user, s)
    | none => s.free 256
  | _ => s.free 256

/-- The clear ends: areas erased, the CLEAR record, the intent erased, the handle (R597). -/
def State.finishClear (s : State) : State :=
  match s.log.clear with
  | none => s
  | some c =>
    let s : State := { s with log := { s.log with
      perm := (if c.scope = 1 then [] else s.log.perm), circ := [], clear := none } }
    let s := ((s.wr Reg.log_CIRC_HEAD 0 0).wr Reg.log_CIRC_WRAPPED 0 0).wr Reg.log_CLEARING 0 0
    let s := if c.scope = 1 then s.wr Reg.log_PERM_COUNT 0 0 else s
    let r : LogRec := { s.logStamp 5 0xFF c.scope c.count with
      aux := c.user, body := leBytes 4 c.firstSeq ++ leBytes 4 c.lastSeq }
    let seq := s.raw Reg.log_SEQ_NEXT
    let b := r.bytes seq s.log.lost
    let s : State := { s with log := { s.log with
      lost := 0, dropRaised := false,
      perm := (if c.scope = 1 then [(0, b)] else s.log.perm), circ := (if c.scope = 1 then [] else [(0, b)]) } }
    let s := if c.scope = 1 then s.wr Reg.log_PERM_COUNT 0 1 else s.wr Reg.log_CIRC_HEAD 0 1
    let s := (s.wr Reg.log_SEQ_NEXT 0 (seq + 1)).count Reg.log_LOG_WRITTEN
    (s.raise 100 0x0100 c.scope).complete c.handle stOK

/-- LOG_CLEAR (R597): the intent with the SEQ range goes into the control sector; the erases begin. An empty scope has no
range: a free value. -/
def execLogClear (src : Requester) (scope : Nat) (s : State) : Host.Outcome State Fault Refusal :=
  .next (
    let (h, s) := s.newHandle src
    if s.pwr.holdAt.isSome then (s.count Reg.log_LOG_REFUSE).complete h stREFUSED 0x0301
    else if s.log.clear.isSome then (s.count Reg.log_LOG_REFUSE).complete h stREFUSED 0x0302
    else
      let sc := if scope = 1 then 1 else 0
      let rs := s.logScope sc
      let age := fun (b : Bytes) => (s.raw Reg.log_SEQ_NEXT + 2 ^ 32 - logSeq b) % 2 ^ 32
      let (u, s) := s.logUser src
      let (first, s) := if rs.isEmpty then s.free (2 ^ 32)
        else ((s.raw Reg.log_SEQ_NEXT + 2 ^ 32 - (rs.map age).foldl max 0) % 2 ^ 32, s)
      let (last, s) := if rs.isEmpty then s.free (2 ^ 32)
        else ((s.raw Reg.log_SEQ_NEXT + 2 ^ 32 - (rs.map age).foldl min (2 ^ 32 - 1)) % 2 ^ 32, s)
      State.wr { s with log := { s.log with clear := some {
        scope := sc, firstSeq := first, lastSeq := last, count := rs.length, user := u, handle := h } } } Reg.log_CLEARING 0 1)

/-- LOG_CLEAR_COMPLETE (R597): the sector erases have finished. -/
def execLogClearComplete (s : State) : Host.Outcome State Fault Refusal := .next s.finishClear

/-! ### Start-up (R586, R590, R595, R598) -/

/-- The first slot from `n` that is not torn, within its sector. -/
def skipTorn (m : Tbl Bytes) : Nat → Nat → Nat
  | 0, n => n
  | fuel + 1, n =>
    let b := Tbl.look ([] : Bytes) m n
    if !b.isEmpty && !logValid b && n % 256 ≠ 0 then skipTorn m fuel (n + 1) else n

/-- The Logbook scans its areas: PERM_COUNT, CIRC_HEAD, SEQ_NEXT, LOG_CRC_BAD; a clear intent is completed first. -/
def State.logStart (s : State) : State :=
  let all := (s.log.perm ++ s.log.circ).map (·.2)
  let good := all.filter logValid
  let top := good.foldl (fun (m : Nat) b => max m (logSeq b + 1)) 0
  let newest := (s.log.circ.filter fun e => logValid e.2).foldl (fun (m : Option (Nat × Nat)) e =>
    match m with
    | some (q, _) => if q < logSeq e.2 then some (logSeq e.2, e.1) else m
    | none => some (logSeq e.2, e.1)) none
  let head := skipTorn s.log.circ 256 (match newest with
    | some (_, n) => n + 1
    | none => if s.log.circ.isEmpty then 0 else 1) % 65536
  let s := (s.wr Reg.log_PERM_COUNT 0 (s.log.perm.foldl (fun (m : Nat) e => max m (e.1 + 1)) 0)).wr Reg.log_CIRC_HEAD 0 head
  let s := (s.wr Reg.log_SEQ_NEXT 0 (top % 2 ^ 32)).wrFlag Reg.log_CIRC_WRAPPED 0 (s.log.circ.any fun e => head ≤ e.1)
  let s := s.count Reg.log_LOG_CRC_BAD 0 (all.length - good.length)
  s.finishClear

/-- The SHUTDOWN record, the only one that a shutdown writes: the queue is discarded (R588, R595). -/
def State.logShutdown (s : State) : State :=
  let r : LogRec := { s.logStamp 3 0xFF 0 s.log.queue.length with
    aux := s.raw Reg.adcch_CH_RES 9, body := leBytes 4 (s.raw Reg.adcch_CH_RES 8) }
  (s.logQueue []).logWrite r

/-! ### Triggers and snapshots (R591) -/

/-- LOG_APPLY: both domains apply at the next Window boundary. -/
def execLogApply (src : Requester) (s : State) : Host.Outcome State Fault Refusal :=
  .next (
    let (h, s) := s.newHandle src
    { s with log := { s.log with applyPend := s.log.applyPend ++ [h] } })

/-- An offset as a snapshot list applies it. -/
def snapOffset (o : Nat) : Nat := if o % 4 ≠ 0 ∨ 0xA80000 ≤ o then 0xFFFFFFFF else o

/-- At a Window boundary the staged trigger table and lists apply; entries never written keep their defaults. -/
def State.logApply (s : State) : State :=
  match s.log.applyPend with
  | [] => s
  | h :: _ =>
    let e : Tbl Bytes := (List.range 128).foldl (fun m k =>
      let d : Bytes := [1, 0xFF, 0, 0, 0, 0, 0, 0]
      if 8 * k + 8 ≤ (s.domain 0x040D00 0).len then Tbl.put d m k (s.domBytes 0x040D00 (8 * k) 8) else m) []
    let raw := (List.range 1536).map fun k =>
      (k, if 4 * k + 4 ≤ (s.domain 0x040D01 0).len then le 0 4 (s.domBytes 0x040D01 (4 * k) 4) else 0xFFFFFFFF)
    let bad := raw.filter fun p => p.2 ≠ 0xFFFFFFFF && snapOffset p.2 ≠ p.2
    let l : Tbl Nat := raw.foldl (fun m p => Tbl.put 0xFFFFFFFF m p.1 (snapOffset p.2)) []
    let hs := s.log.applyPend
    let s : State := { s with log := { s.log with trigger := e, lists := l, applyPend := [] } }
    let s := (s.releaseDomain 0x040D00).releaseDomain 0x040D01
    let s := bad.foldl (fun (s : State) p => s.clampReport h 0x040D0100 p.2 0xFFFFFFFF 7) s
    hs.foldl (fun (s : State) h => s.complete h (if bad.isEmpty then stOK else stCLAMPED)) s

end Sys2Proof.Machine
end

