-- ==== Sys2Proof/Machine/Sounding.lean ====
section
/-!
DEFINITION. Sounding: fences, errors that a scrub finds, hard faults and their repair, runtime tests and passes, and the
errors of the firmware region (R534, R569–R584).
-/

namespace Sys2Proof.Machine

/-! ### Blocks (R106, R534) -/

/-- The block index of R106 of a unit, and its number within the block (R580, R583). -/
def blkPlace : Blk → Nat × Nat
  | .tile t => (6, t)
  | .quad q => (6, 4 * q)
  | .scanCore c => (8, c)
  | .portGroup g => (0, 8 * g)
  | .port p => (0, p)
  | .hostIf => (18, 0)
  | .adc => (10, 0)
  | .ocxo => (3, 0)
  | .switchCore => (1, 0)
  | .packetBuffer => (1, 0)
  | .dram => (4, 0)
  | .ingest => (4, 0)
  | .sextant => (3, 0)
  | .binnacle => (11, 0)

/-- The power domain of a unit (R17). -/
def blkDomain : Blk → Nat
  | .tile _ => 11
  | .quad _ => 11
  | .scanCore _ => 10
  | .portGroup g => 5 + g
  | .port p => 5 + p / 8
  | .hostIf => 3
  | .adc => 1
  | .ocxo => 2
  | .switchCore => 4
  | .packetBuffer => 4
  | .dram => 9
  | .ingest => 10
  | .sextant => 2
  | .binnacle => 1

/-- The block-specific number of a fence (R545). -/
def blkNumber : Blk → Nat
  | .tile t => t
  | .quad q => q
  | .scanCore c => c
  | .portGroup g => g
  | .port p => p
  | _ => 0

/-- A block is fenced (R534): DOM_FENCED, code 0x0104 at source 111 and a line on the service UART; tiles enter FENCED, a
port group loses its supply, and a block that all work needs makes the module DEGRADED. -/
def State.fence (s : State) (b : Blk) : State :=
  if s.isFenced b then s
  else
    let s : State := { s with pwr := { s.pwr with fenced := s.pwr.fenced ++ [b] } }
    let s := s.wr Reg.pwr_DOM_FENCED 0 (setBit (blkDomain b) (s.raw Reg.pwr_DOM_FENCED))
    let s := match b with
      | .tile t => s.failTile t
      | .quad q => (List.range 4).foldl (fun (s : State) k => s.failTile (4 * q + k)) s
      | .portGroup g => s.wr Reg.pwr_DOM_ON 0 (clearBit (5 + g) (s.raw Reg.pwr_DOM_ON))
      | _ => s
    let all := ([.switchCore, .packetBuffer, .dram, .ingest, .sextant, .binnacle] : List Blk).contains b
    let s := if all && s.raw Reg.pwr_MOD_STATE = 1 then s.wr Reg.pwr_MOD_STATE 0 2 else s
    let s : State := if all && s.pwr.holdAt.isSome && s.pwr.before = 1 then { s with pwr := { s.pwr with before := 2 } } else s
    (s.raise 111 0x0104 (blkDomain b + blkNumber b * 2 ^ 8)).emit (.uart true (blkDomain b))

/-! ### Words of memories (R569, R575, R576) -/

/-- A memory as the fault map names it, block, unit and identifier (R580), and the number under which its words are
counted. The filter's history has no identifier: 0xFF. -/
def memPlace : EccMem → Nat × Nat × Nat × Nat
  | .tile t m _ => (6, t, m, 4 * t + m)
  | .scan c _ _ => (8, c, 4, memScan)
  | .packet _ => (1, 0, 5, memPacket)
  | .history _ => (5, 0, 0xFF, 258)
  | .staging _ _ => (9, 0, 6, 259)
  | _ => (4, 0, 6, 259)

/-- A memory whose power domain runs. -/
def State.memOn (s : State) (m : EccMem) : Bool :=
  s.domainOn (match m with
    | .tile _ _ _ => 11
    | .scan _ _ _ => 10
    | .packet _ => 4
    | .history _ => 10
    | _ => 9)

/-- A hard-faulty word (R576): its record; a memory with spare rows is repaired, and one with none left fails its tile, or
fences its scan core. -/
def State.hardWord (s : State) (h : EccHit) (kind : Nat) : State :=
  let (b, u, m, key) := memPlace h.mem
  let (k, s) := s.hardFault { block := b, unit := u, mem := m, kind := kind, addr := h.word, bits := h.bits, check := h.check }
  if memPacket < key then s
  else
    let (ok, s) := s.softRepair key h.word b k
    if ok then s
    else match h.mem with
      | .tile t _ _ => s.fence (.tile t)
      | .scan c _ _ => s.fence (.scanCore c)
      | _ => s

/-- A corrected error found by the scrubber (R202, R260, R283, R290, R440, R575). -/
def State.scrubCorrected (s : State) (h : EccHit) : State :=
  let s := s.count Reg.snd_SND_SCRUB_CORR
  let info := fun (m : Nat) => m * 2 ^ 24 + h.word % 2 ^ 24
  match h.mem with
  | .tile t m _ => s.tileCorrected t m h.word
  | .scan _ _ _ => s.raise 80 0x0002 (info 4)
  | .packet _ => s.raise 39 0x0002 (info 5)
  | .history _ =>
    let (m, s) := s.free 256
    s.raise 55 0x0002 (info m)
  | .sample _ _ => s.raise 51 0x0002 (info 6)
  | _ => s

/-- A frame with an uncorrectable cell is dropped; where it is on the wire it ends with an inverted FCS (R195, R202). -/
def State.strikeFrame (s : State) (id : Nat) : State :=
  let s := (s.count Reg.swc_SWC_DROP_ECC)
  let s := (List.range 32).foldl (fun (s : State) q =>
    match Tbl.look none s.net.tx q with
    | some t =>
      if t.frame.id = id then
        State.count (State.emit { s with net := { s.net with tx := Tbl.put none s.net.tx q none } } (.stomped q t.bytes))
          Reg.swc_SWC_CT_STOMP
      else s
    | none => s) s
  match s.net.frames.find? fun f => f.id = id with
  | some f => if f.ports.isEmpty then s.dropCopy id 36 else s.dropFrame f
  | none => s

/-- A far fix is struck: the older one remains (R343, R569). One that a spare is loading counts as a bad record (R584). -/
def State.strikeFarFix (s : State) (i : Nat) (newest : Bool) : State :=
  if !s.hasInst i then s
  else
    let x := s.inst i
    let s := s.setInst i { x with far := if newest then x.far.drop 1 else x.far.take 1 }
    let t := s.instTile i
    let s := if (t.map fun t => (s.tile t).loading).getD false then s.count Reg.tor_TOR_FARFIX_BAD else s
    s.recoveryRecord 3 0 x.ltile (t.getD 0x3F) i 0xFFFF 0 0 0 s.tai

/-- An interval of a signal journal is struck and counts as an overflow (R344, R569). -/
def State.strikeJournal (s : State) (i frame : Nat) : State :=
  if !s.hasInst i then s
  else
    let x := s.inst i
    let s := s.setInst i { x with journalOver := (frame / 64 :: x.journalOver).eraseDups }
    s.recoveryRecord 3 0 x.ltile ((s.instTile i).getD 0x3F) i 0xFFFF 0 0 0 s.tai

/-- An uncorrectable error found by the scrubber: what R569 and the memory's own rule do. -/
def State.scrubBad (s : State) (h : EccHit) : State :=
  let info := fun (m : Nat) => m * 2 ^ 24 + h.word % 2 ^ 24
  match h.mem with
  | .tile t m owner => s.tileUncorrected t m h.word owner
  | .scan _ sl part => if part = 1 then s.scanFault sl 1 else if part = 2 then s.scanStruck sl h.word else s
  | .packet f =>
    let s := s.raise 39 0x0003 (info 5)
    (f.map fun id => s.strikeFrame id).getD s
  | .history c =>
    let (m, s) := s.free 256
    let a := match s.slotOwner c with
      | some (k, _) => (s.strm k).front
      | none => 0
    let s := (s.count Reg.flt_FLT_ECC).raise 55 0x0003 (info m)
    (s.setFslot c { outs := [], applied := a }).wr Reg.slot_SETTLING c 1
  | .staging k n => s.strikeStaging k n
  | .sample k a => s.strikeSample k a h.word
  | .farFix i newest => s.strikeFarFix i newest
  | .journal i f => s.strikeJournal i f
  | .dram => s

/-- A word's uncorrectable error is its second since the last reset of its domain (R576). A tile's own rule is R571. -/
def State.strikeWord (s : State) (h : EccHit) : State :=
  let (_, _, _, key) := memPlace h.mem
  let s := s.scrubBad h
  match h.mem with
  | .tile _ _ _ => s
  | _ =>
    if s.snd.struck.contains (key, h.word) then s.hardWord h 2
    else { s with snd := { s.snd with struck := (key, h.word) :: s.snd.struck } }

/-- One error of a scrub (R575, R576): found again by three scrubs in a row, a correctable one is a hard fault. -/
def State.scrubHit (s : State) (h : EccHit) (before : List (Nat × Nat × Nat)) : State :=
  if !s.memOn h.mem then s
  else if h.bad then s.strikeWord h
  else
    let (_, _, _, key) := memPlace h.mem
    let n := ((before.find? fun f => f.1 = key && f.2.1 = h.word).map fun f => f.2.2).getD 0 + 1
    let s := s.scrubCorrected h
    if 3 ≤ n then s.hardWord h 1
    else { s with snd := { s.snd with found := (key, h.word, n) :: s.snd.found } }

/-- SCRUB_PASS (R575): the errors that one scrub of the memories finds. -/
def execScrubPass (hits : List EccHit) (s : State) : Host.Outcome State Fault Refusal :=
  .next (if !s.flag Reg.snd_SCRUB_EN then s
    else
      let before := s.snd.found
      let s : State := { s with snd := { s.snd with found := [] } }
      hits.foldl (fun (s : State) h => s.scrubHit h before) s)

/-! ### Tests (R577–R579) -/

/-- What a failed unit does: fenced, or flagged (R534, R578). -/
def State.unitFailed (s : State) (b : Blk) (kind : Nat) : State :=
  let (blk, u) := blkPlace b
  let s := s.testFailed blk u kind
  match b with
  | .port p => s.wr Reg.snd_PORT_FAIL 0 (setBit p (s.raw Reg.snd_PORT_FAIL))
  | .ocxo => s.wr Reg.snd_OCXO_FAIL 0 1
  | .adc => if kind = 5 then s.wr Reg.adc_LOOP_FAIL 0 1 else s.wr Reg.adc_REF_FAIL 0 1
  | .binnacle => s.wr Reg.snd_BNC_KAT_FAIL 0 1
  | _ => s.fence b

/-- A failure that a test finds: a word that fails its march is hard-faulty; a unit fails (R576, R578). -/
def State.testFailure (s : State) (f : BootFail) : State :=
  match f with
  | .word h =>
    let (b, u, _, _) := memPlace h.mem
    State.hardWord ((s.count Reg.snd_SND_FAIL).raise 104 0x0100 (b + 3 * 2 ^ 8 + u * 2 ^ 16)) h 3
  | .blk b kind => s.unitFailed b kind

/-- A unit that runtime Sounding may test now (R577): a tile that is vacant, a spare or under test; a scan core without a
program; a port with LANE_MODE 0 in a powered group; the OCXO; the Binnacle. -/
def State.testable (s : State) (b : Blk) : Bool :=
  !s.isFenced b && match b with
  | .tile t => decide (t < 64) && s.domainOn 11 && (s.raw Reg.tile_STATE t = 0 || s.raw Reg.tile_STATE t = 2 || s.raw Reg.tile_STATE t = 3)
  | .scanCore c => decide (c < 8) && s.domainOn 10 && s.raw Reg.admcore_SCAN_LOAD c = 0
  | .port p => decide (p < 32) && s.domainOn (5 + p / 8) && s.raw Reg.prt_LANE_MODE p = 0
  | .ocxo => s.domainOn 2
  | .binnacle => s.domainOn 1
  | _ => false

/-- The units that one pass tests: every tile, scan core and port that can be tested, and the OCXO (R578; log entry 27). -/
def State.passUnits (s : State) : List Blk :=
  (((List.range 64).map Blk.tile) ++ ((List.range 8).map Blk.scanCore) ++ ((List.range 32).map Blk.port) ++ [Blk.ocxo]).filter s.testable

/-- Runtime Sounding runs: enabled, or a pass has been asked for (R578, R581). -/
def State.soundingOn (s : State) : Bool :=
  s.raw Reg.snd_PHASE ≠ 0 && (s.flag Reg.snd_RT_EN || !s.snd.handles.isEmpty)

/-- A unit's test has ended; with the last one the pass is complete (R578, R581). -/
def State.unitTested (s : State) (b : Blk) : State :=
  let s : State := { s with snd := { s.snd with tested := s.snd.tested ++ [b] } }
  if !(s.passUnits.all fun u => s.snd.tested.contains u) then s
  else
    let hs := s.snd.handles
    let n := s.snd.passes + 1
    let s : State := { s with snd := { s.snd with tested := [], passes := n, handles := [] } }
    hs.foldl (fun (s : State) h => s.complete h stOK) (s.raise 107 0x0104 (n % 2 ^ 16))

/-- A tile leaves TESTING: a chosen one is a spare, another vacant (R288, R316). -/
def State.endTest (s : State) (t : Nat) : State :=
  if s.raw Reg.tile_STATE t ≠ 3 then s
  else (s.tileState t (if (s.chosenSpares (s.rd Reg.tor_SPARE_N)).contains t then 2 else 0)).syncTiles

/-- SOUNDING_STEP (R578, R579): one step of the test of a unit. It is aborted by a request for the block, or it ends with
the failures it finds; `last` ends the unit's test. The OCXO fails after three bad windows in a row (R577). -/
def execSoundingStep (u : Blk) (aborted : Bool) (fails : List BootFail) (last : Bool) (s : State) :
    Host.Outcome State Fault Refusal :=
  .next (if !s.soundingOn || !s.testable u then s
    else
      let (b, n) := blkPlace u
      let s := (s.wr Reg.snd_BLOCK 0 b).wr Reg.snd_UNIT 0 n
      let s := match u with
        | .tile t => (s.tileState t 3).syncTiles
        | _ => s
      if aborted then s.count Reg.snd_SND_ABORT
      else
        let s := s.count Reg.snd_SND_STEPS
        let s := if u = .ocxo then
            let k := if fails.isEmpty then 0 else s.snd.ocxoBad + 1
            let s : State := { s with snd := { s.snd with ocxoBad := k } }
            if 3 ≤ k && !s.flag Reg.snd_OCXO_FAIL then s.unitFailed .ocxo 7 else s
          else fails.foldl State.testFailure s
        let s := match u with
          | .tile t => if last then s.endTest t else s
          | _ => s
        if last then s.unitTested u else s)

/-- SND_PASS (R581): a runtime pass starts at once; the handle completes at its end. -/
def execSndPass (src : Requester) (s : State) : Host.Outcome State Fault Refusal :=
  .next (
    let (h, s) := s.newHandle src
    { s with snd := { s.snd with tested := [], handles := s.snd.handles ++ [h] } })

/-- SND_CLEAR_MAP (R580): the map is emptied; repairs stay. -/
def execSndClearMap (src : Requester) (s : State) : Host.Outcome State Fault Refusal :=
  .next (
    let (h, s) := s.newHandle src
    (s.setMap []).complete h stOK)

/-- PHASE follows RT_EN once start-up Sounding is complete (R582). -/
def State.syncPhase (s : State) : State :=
  if s.raw Reg.snd_PHASE = 0 then s else s.wr Reg.snd_PHASE 0 (if s.flag Reg.snd_RT_EN then 1 else 2)

end Sys2Proof.Machine
end

