-- ==== Sys2Proof/Machine/FirmOps.lean ====
section
/-!
DEFINITION. Firmware: manifests, slots, the slot-select record, which images run, and the resets of the module (R527, R528,
R547–R557).
-/

namespace Sys2Proof.Machine

/-! ### Manifests (R547) -/

/-- N_COMP, the offset S of the signatures, and the whole length of a manifest. -/
def manCount (m : Bytes) : Nat := le 6 2 m
def manSig (m : Bytes) : Nat := 64 + 128 * manCount m
def manLen (m : Bytes) : Nat := 5876 + 128 * manCount m

/-- PKG_LEN and PKG_ID. -/
def manPkgLen (m : Bytes) : Nat := le 8 4 m
def manPkgId (m : Bytes) : Nat := le 16 8 m

/-- The component entries, 128 bytes each. -/
def manEntries (m : Bytes) : List Bytes := (List.range (min 5 (manCount m))).map fun k => slice (64 + 128 * k) 128 m

/-- Fields of an entry: component, interface revision, security version, version, image offset and length, digest. -/
def entComp (e : Bytes) : Nat := le 0 1 e
def entIfRev (e : Bytes) : Nat := le 2 2 e
def entSecVer (e : Bytes) : Nat := le 4 4 e
def entVersion (e : Bytes) : Nat := le 8 4 e
def entImgOff (e : Bytes) : Nat := le 12 4 e
def entImgLen (e : Bytes) : Nat := le 16 4 e
def entDigest (e : Bytes) : Bytes := slice 24 48 e

/-- The interface revisions of component c (1–5) that an entry admits. -/
def entReq (e : Bytes) (c : Nat) : Nat × Nat := (le (68 + 4 * c) 2 e, le (70 + 4 * c) 2 e)

/-- Settings formats of a WHEELHOUSE entry: lowest and highest read, and the one written. -/
def entSfmt (e : Bytes) : Nat × Nat × Nat := (le 92 2 e, le 94 2 e, le 96 2 e)

/-- Slot sizes of components 1–5 in bytes (R548). -/
def slotSize (c : Nat) : Nat := ([4, 64, 16, 8, 16] : List Nat).getD (c - 1) 0 * 1048576

/-- The entry of component c in a manifest. -/
def manEntry (m : Bytes) (c : Nat) : Option Bytes := (manEntries m).find? fun e => entComp e = c

/-- SIG_EC and SIG_HSS verify against the anchors (R547, R548). -/
def sigEcOk (m : Bytes) : Bool :=
  Config.ecVerify Config.anchorEc (Config.sha384 (m.take (manSig m))) (slice (manSig m) 96 m)
def sigHssOk (m : Bytes) : Bool := Config.hssVerify Config.anchorHss (m.take (manSig m)) (slice (manSig m + 96) 5716 m)

/-- A component verifies in a slot (R548, R553). -/
def slotOk (x : FwSlot) (c secMin : Nat) : Bool :=
  if x.man.isEmpty then false
  else match manEntry x.man c with
    | none => false
    | some e => sigEcOk x.man && sigHssOk x.man && decide (Config.sha384 x.image = entDigest e) && decide (secMin ≤ entSecVer e)

/-! ### The slot-select record (R555) -/

/-- The record: the valid copy with the higher COUNTER; with none the defaults. -/
def State.fwRec (s : State) : SlotRec :=
  match s.upd.rec0, s.upd.rec1 with
  | none, none => {}
  | some a, none => a
  | none, some b => b
  | some a, some b => if a.counter < b.counter then b else a

/-- The copy that a write of the record takes is copy 0. -/
def State.recFirst (s : State) : Bool :=
  match s.upd.rec0, s.upd.rec1 with
  | none, _ => true
  | some _, none => false
  | some a, some b => decide (a.counter < b.counter)

/-- A new record goes into the other copy with COUNTER + 1. -/
def State.putRec (s : State) (r : SlotRec) : State :=
  let r := { r with counter := (s.fwRec).counter + 1 }
  if s.recFirst then { s with upd := { s.upd with rec0 := some r } } else { s with upd := { s.upd with rec1 := some r } }

/-- A record whose read-back fails does not count: its copy was erased and is not valid. -/
def State.tearRec (s : State) : State :=
  if s.recFirst then { s with upd := { s.upd with rec0 := none } } else { s with upd := { s.upd with rec1 := none } }

/-- The slot of component c (1–5), A (0) or B (1). -/
def State.fwSlot (s : State) (c b : Nat) : FwSlot := Tbl.look ({} : FwSlot) s.upd.slots (2 * (c - 1) + b)

/-- SEC_MIN of component c. -/
def SlotRec.min (r : SlotRec) (c : Nat) : Nat := r.secMin.getD (c - 1) 0

/-- The slot that ACTIVE_MASK names for component c. -/
def SlotRec.named (r : SlotRec) (c : Nat) : Nat := b2n (bit (c - 1) r.active)

/-- The components that the package in trial replaces (R556). -/
def SlotRec.packaged (r : SlotRec) (c : Nat) : Bool := bit (c - 1) r.active != bit (c - 1) r.prev

/-- The settings position in use: a trial image uses the other one (R561). -/
def SlotRec.position (r : SlotRec) : Nat := if r.trial then 1 - r.setPos else r.setPos

/-- The entry of the image that runs for component c; [] for none. -/
def State.runEntry (s : State) (c : Nat) : Bytes :=
  (manEntry (s.fwSlot c (s.raw Reg.comp_SLOT (c - 1))).man c).getD []

/-- The status registers of the update follow the record (R565). -/
def State.syncUpd (s : State) : State :=
  let r := s.fwRec
  let s := (s.wr Reg.upd_FW_STATE 0 (if s.upd.fallen = 0 ∨ 10 ≤ s.upd.fallen then b2n r.trial else 2)).wr Reg.upd_TRIAL_LEFT 0 r.left
  let s := (s.wr Reg.upd_ACTIVE_MASK 0 r.active).wr Reg.upd_PREV_MASK 0 r.prev
  let s := (s.wr Reg.upd_RUN_PKG_ID_LO 0 r.pkgId).wr Reg.upd_RUN_PKG_ID_HI 0 (r.pkgId / 2 ^ 32)
  let s := s.wr Reg.upd_SET_POS 0 r.position
  (List.range 5).foldl (fun (s : State) k => s.wr Reg.comp_SEC_MIN k (r.min (k + 1))) s

/-! ### The stage (R550–R552) -/

/-- PKG_LEN, read from the first granule once it is written. -/
def State.stagedLen (s : State) : Nat := if Tbl.look false s.upd.granules 0 then manPkgLen (s.domBytes 0x040A00 0 64) else 0

/-- Every granule up to PKG_LEN is present. -/
def State.stageComplete (s : State) : Bool :=
  let n := cdiv s.stagedLen 1024
  decide (0 < n) && decide ((s.upd.granules.filter fun e => e.1 < n).length = n)

/-- STAGE, STAGED_GRANULES and PKG_LEN follow the staging. -/
def State.syncStage (s : State) : State :=
  let st := if s.upd.installed then 4 else if s.upd.installing.isSome then 3
    else if s.upd.granules.isEmpty then 0 else if s.stageComplete then 2 else 1
  ((s.wr Reg.upd_STAGE 0 st).wr Reg.upd_STAGED_GRANULES 0 s.upd.granules.length).wr Reg.upd_PKG_LEN 0 s.stagedLen

/-- The staging is discarded: granules, map and claim (R551). -/
def State.discardStage (s : State) : State :=
  State.syncStage (State.setDomain { s with upd := { s.upd with granules := [], installed := false } } 0x040A00 0 {})

/-- Component c runs from slot b: its registers (R565). -/
def State.runs (s : State) (c b : Nat) : State :=
  let k := c - 1
  let e := (manEntry (s.fwSlot c b).man c).getD []
  let s := ((((s.wr Reg.comp_SLOT k b).wr Reg.comp_VERSION k (entVersion e)).wr Reg.comp_IF_REV k (entIfRev e)).wr Reg.comp_SEC_VER k (entSecVer e))
  if c = 2 then s.wr Reg.upd_SFMT_RUN 0 (entSfmt e).2.2 else s

/-- The slot of component c that starts: the named one, or the other where that fails (R532, R533). -/
def State.bootSlot (s : State) (c : Nat) : Option Nat :=
  let r := s.fwRec
  let ok := fun (b : Nat) => slotOk (s.fwSlot c b) c (r.min c)
  if ok (r.named c) then some (r.named c) else if ok (1 - r.named c) then some (1 - r.named c) else none

/-! ### Cold and warm reset (R527, R528, R535) -/

/-- Registers that a reset keeps by their address: what lies in PD0, in NOR or shows an input; with a warm reset also the
Sextant's area and the supply (R527). -/
def keptReg (warm : Bool) (key : Nat) : Bool :=
  let a := key / 32
  a = 0x880004 || a = 0x880010 || key = Reg.bnc_TAMP_LATCH.key 0 || (warm && (a = 0x880008 || (decide (0x280000 ≤ a) && decide (a < 0x300000))))

/-- The registers after a reset: reset values, but those kept. -/
def State.resetRegs (s : State) (warm : Bool) : Tbl Word :=
  (s.regs.filter fun e => keptReg warm e.1).foldl (fun (m : Tbl Word) e => Tbl.ins e.2 m e.1) State.reset.regs

/-- Domains in flash and NOR: the staged package and the certificates (R514, R550). -/
def State.keptDomains (s : State) : Tbl Domain :=
  (s.wh.domains.filter fun e => e.1 = 0x040A0000 || e.1 = 0x04090400).map fun (e : Nat × Domain) => (e.1, { e.2 with owner := none })

/-- The journal slots; one that a commit was writing is torn (R516). -/
def State.tornJournals (s : State) : Option Journal × Option Journal :=
  let k := (s.selected).elim 0 fun p => 1 - p.1
  if !s.bnc.writing then (s.bnc.j0, s.bnc.j1) else if k = 0 then (none, s.bnc.j1) else (s.bnc.j0, none)

/-- Everything that a reset of the module leaves: PD0, NOR, flash, inputs, and with a warm reset the Sextant (R527). -/
def State.afterReset (s : State) (warm : Bool) : State :=
  let r := State.reset
  let t : State := { r with
    pending := s.pending, ident := s.ident, out := s.out, freeTick := s.freeTick, regs := s.resetRegs warm,
    mono := (if warm then s.mono else 0), opBase := (if warm then s.opBase else s.opTime),
    wh := { r.wh with domains := s.keptDomains, draws := s.wh.draws },
    stx := (if warm then s.stx else {}),
    red := { r.red with stored := s.red.stored },
    bnc := { r.bnc with lodestone := s.bnc.lodestone, j0 := s.tornJournals.1, j1 := s.tornJournals.2, reseal := s.bnc.reseal },
    log := { r.log with perm := s.log.perm, circ := s.log.circ, clear := s.log.clear },
    upd := { r.upd with rec0 := s.upd.rec0, rec1 := s.upd.rec1, slots := s.upd.slots, granules := s.upd.granules,
                        lastBlock := s.upd.lastBlock,
                        installed := s.upd.installed, gens := s.upd.gens, fallen := s.upd.fallen },
    snd := { r.snd with map := s.snd.map, spares := (if warm then s.snd.spares else []),
                        repaired := (if warm then s.snd.repaired else []) },
    pwr := { r.pwr with cause := s.pwr.cause, thermal := s.pwr.thermal, valid := s.pwr.valid, validAt := s.pwr.validAt,
                        holdAt := (if warm then s.pwr.holdAt else none) } }
  t.setMap t.snd.map

/-- A cold reset: PD0 alone has its supply until SUPPLY_VALID (R527, R531). The SLOT_ID pins are sampled (R624). -/
def State.coldReset (s : State) : State :=
  ((s.afterReset false).wr Reg.pwr_DOM_ON 0 1).wr Reg.pwr_SLOT_ID 0 s.ident.slotPins

/-- PD1 has its supply: the Logbook scans its areas. -/
def State.housekeepingUp (s : State) : State := s.logStart

/-- A warm reset with its cause (R527, R528): PD0 and PD2 run on. -/
def State.warmReset (s : State) (cause : Nat) : State :=
  let s := (s.afterReset true).wr Reg.pwr_LAST_CAUSE 0 cause
  let s := (s.wr Reg.pwr_DOM_ON 0 7)
  let s := if s.pwr.holdAt.isSome then s.wr Reg.pwr_MOD_STATE 0 3 else s
  let s : State := { s with pwr := { s.pwr with good := 5 } }
  (s.housekeepingUp).logReset 2 cause 0

end Sys2Proof.Machine
end

