-- ==== Sys2Proof/Machine/Power.lean ====
section
/-!
DEFINITION. The power sequence, start of the firmware, resets, holdup and shutdown, and crossings into islands in reset
(chapter 18, R25, R612).
-/

namespace Sys2Proof.Machine

/-! ### The power sequence (R531, R534) -/

/-- A domain gets its supply; the service UART tells the step (R531, R623). -/
def State.powerOn (s : State) (d : Nat) : State :=
  (s.wr Reg.pwr_DOM_ON 0 (setBit d (s.raw Reg.pwr_DOM_ON))).emit (.uart false d)

/-- The supply is valid: a cold reset with the cause that stands; PD1 gets its supply and the Logbook starts (R528, R531). -/
def State.supplyUp (s : State) (t : Nat) : State :=
  let cause := s.pwr.cause
  let s := (s.coldReset).advance t
  let s := (s.count Reg.pwr_PWR_CYCLES).wr Reg.pwr_LAST_CAUSE 0 cause
  let s : State := { s with pwr := { s.pwr with valid := true, validAt := s.mono, cause := 1, good := 1 } }
  ((s.powerOn 1).housekeepingUp).logReset 1 cause 0

/-- PD0 had fallen below 2.0 V while the module was off: the Lodestone is lost (R496, R615). -/
def State.pd0Lost (s : State) : State := { s with bnc := { s.bnc with lodestone := none } }

/-- SUPPLY_VALID (R528, R531): a cold reset and the power sequence; not while a thermal shutdown holds the module off
(R627). -/
def execSupplyValid (t : Nat) (lost : Bool) (s : State) : Host.Outcome State Fault Refusal :=
  .next (if s.pwr.valid || s.pwr.thermal.isSome then s
    else (if lost then s.pd0Lost else s).supplyUp t)

/-- The domains after PD3 in their order (R531). -/
def powerOrder : List Nat := [9, 4, 10, 11, 5, 6, 7, 8]

/-- The sequence ends: start-up Sounding is complete, and its runtime part begins (R531, R578). -/
def State.startupDone (s : State) : State := (s.wr Reg.snd_PHASE 0 1).syncPhase

/-- The first of some domains whose supply comes on; a fenced port group stays off (R534). -/
def State.powerFirst (s : State) (ds : List Nat) : State :=
  match ds.find? fun d => !(decide (5 ≤ d) && decide (d ≤ 8) && s.isFenced (.portGroup (d - 5))) with
  | some d => s.powerOn d
  | none => s.startupDone

/-! ### Pilot (R532, R533, R553, R557) -/

/-- The fall-back record, with its cause (R557). -/
def State.fallBack (s : State) (cause : Nat) : State :=
  let r := s.fwRec
  let s := s.putRec { r with active := r.prev, trial := false }
  { s with upd := { s.upd with fallen := cause } }

/-- A component in trial does not verify in the slot that the record names (R557). -/
def State.trialFails (s : State) : Bool :=
  let r := s.fwRec
  r.trial && ([1, 2, 3, 4, 5] : List Nat).any fun c => r.packaged c && !slotOk (s.fwSlot c (r.named c)) c (r.min c)

/-- The components start in their order; without PILOT or WHEELHOUSE the module is SAFE, and without TATTING or TORCHON
their blocks are fenced (R532–R534). -/
def State.startImages (s : State) : State :=
  let bs := ([1, 2, 3, 4, 5] : List Nat).map fun c => (c, s.bootSlot c)
  let off := fun (c : Nat) => bs.any fun x => x.1 = c && (x.2).isNone
  let s := bs.foldl (fun (s : State) x => match x.2 with
    | some b => s.runs x.1 b
    | none => s) s
  let s := s.syncUpd.syncStage
  if off 1 || off 2 then { s with pwr := { s.pwr with safe := true } }
  else
    let s := if off 3 then (List.range 4).foldl (fun (s : State) g => s.fence (.portGroup g)) s else s
    if off 4 then (List.range 16).foldl (fun (s : State) q => s.fence (.quad q)) s else s

/-- TRIAL_BOOT_SELECT and the start of the images (R557): what stage 0 does with the record at a boot. Answers a state in
warm reset when a trial image fails its verification. -/
def State.bootPilot (s : State) : State :=
  let due := s.upd.fallen
  let s : State := { s with upd := { s.upd with fallen := if 10 ≤ due then due - 10 else 0 } }
  let r := s.fwRec
  let s := if !r.trial then s else if r.left = 0 then s.fallBack 1 else s.putRec { r with left := r.left - 1 }
  if s.trialFails then
    State.warmReset (let t := s.fallBack 2; { t with upd := { t.upd with fallen := 12 } }) 5
  else
    let c := s.upd.fallen
    let s := if c = 0 then s else (s.count Reg.upd_UPD_FALLBACK).raise 97 0x0107 c
    let s := if (s.fwRec).trial then s.raise 95 0x0105 (s.fwRec).left else s
    s.startImages

/-! ### Power-good (R531, R534) -/

/-- The domain that a failure belongs to. -/
def failDomain : BootFail → Nat
  | .blk b _ => blkDomain b
  | .word h => match h.mem with
    | .tile _ _ _ => 11
    | .scan _ _ _ => 10
    | .packet _ => 4
    | .history _ => 10
    | _ => 9

/-- A failure that start-up Sounding finds: as at run time, but that the Binnacle is fenced (R534). -/
def State.bootFailure (s : State) (f : BootFail) : State :=
  let s := s.testFailure f
  match f with
  | .blk .binnacle _ => s.fence .binnacle
  | _ => s

/-- A port group runs again after its reset; the handle of PWR_RESET completes (R543). -/
def State.groupUp (s : State) (g : Nat) : State :=
  let h := Tbl.look (2 ^ 40) s.pwr.groupHandle g
  let s : State := { s with pwr := { s.pwr with groups := clearBit g s.pwr.groups, groupHandle := Tbl.drop s.pwr.groupHandle g } }
  s.complete h stOK

/-- POWER_GOOD (R531): domain d reports power-good, its start-up Sounding runs, and the sequence goes on. SPLIT is sampled
when PD3 leaves reset (R606). -/
def execPowerGood (d t : Nat) (fails : List BootFail) (s : State) : Host.Outcome State Fault Refusal :=
  .next (if !s.pwr.valid || !s.domainOn d || bit d s.pwr.good || (s.pwr.safe && 3 < d) then s
    else
      let s := s.advance t
      let s : State := { s with pwr := { s.pwr with good := setBit d s.pwr.good } }
      let s := (fails.filter fun f => failDomain f = d).foldl State.bootFailure s
      let both := bit 2 s.pwr.good && bit 3 s.pwr.good && !s.pwr.safe && !s.domainOn 9
      if d = 1 then
        let s := s.bootPilot
        if bit 1 s.pwr.good then
          let s := if s.domainOn 2 then s else s.powerOn 2
          if s.domainOn 3 then s else s.powerOn 3
        else s
      else if d = 2 then (if both then s.powerFirst powerOrder else s)
      else if d = 3 then
        let s := s.wrFlag Reg.hif_SPLIT 0 s.ident.splitPin
        if both then s.powerFirst powerOrder else s
      else if 5 ≤ d && d ≤ 8 && bit (d - 5) s.pwr.groups then s.groupUp (d - 5)
      else s.powerFirst ((powerOrder.dropWhile (· ≠ d)).drop 1))

/-- HOST_LINK_TRAINED (R538): after PD3 and the release of its fundamental reset. Host B has a link only with SPLIT. -/
def execHostLinkTrained (link t : Nat) (s : State) : Host.Outcome State Fault Refusal :=
  .next (if !bit 3 s.pwr.good || s.isFenced .hostIf || (link = 1 && !s.flag Reg.hif_SPLIT) then s
    else
      let s := s.advance t
      { s with hif := { s.hif with trained := setBit link s.hif.trained } })

/-! ### Resets by command and watchdog (R527–R529, R533, R543) -/

/-- WARM_RESET (R543): PWR_RESET with kind 1; the handle completes before the reset. -/
def execWarmReset (src : Requester) (s : State) : Host.Outcome State Fault Refusal :=
  .next (
    let (h, s) := s.newHandle src
    (s.complete h stOK).warmReset 3)

/-- Wheelhouse runs. -/
def State.wheelRuns (s : State) : Bool := s.pwr.valid && bit 1 s.pwr.good && !s.pwr.safe && (s.pwr.down).isNone

/-- Every Chartroom session ends, with the session root where there is one (R511, R529). -/
def State.endSessions (s : State) : State :=
  let s := if (s.slot 4).state = 1 then s.renewSession else s
  let s := s.wh.sessions.foldl (fun (s : State) x => s.dropSession x.id) s
  { s with wh := { s.wh with handshakes := [] } }

/-- A control-processor reset (R529, R533, R545): the third within 600 s is a warm reset. Transactions and claims end with
it. -/
def State.cpReset (s : State) (cause : Nat) : State :=
  if s.pwr.down.isSome then s
  else
    let rs := (s.mono :: s.pwr.resets).filter fun t => s.mono ≤ t + 600 * unitsSec
    let s : State := { s with pwr := { s.pwr with resets := rs, down := some cause } }
    let s := (s.raise 115 0x0105 cause).logReset 3 cause 0
    if 3 ≤ rs.length then s.warmReset 5
    else
      let s := State.endSessions { s with wh := { s.wh with txns := [] } }
      { s with wh := { s.wh with
        domains := s.wh.domains.map fun (e : Nat × Domain) => (e.1, { e.2 with owner := none }) } }

/-- CONTROL_PROCESSOR_RESET (R543): PWR_RESET with kind 2. -/
def execControlProcessorReset (src : Requester) (s : State) : Host.Outcome State Fault Refusal :=
  .next (
    let (h, s) := s.newHandle src
    (s.complete h stOK).cpReset 1)

/-- WATCHDOG_EXPIRY (R529). -/
def execWatchdogExpiry (t : Nat) (s : State) : Host.Outcome State Fault Refusal :=
  .next (if !s.wheelRuns then s else ((s.advance t).count Reg.pwr_PWR_WDT).cpReset 2)

/-- FIRMWARE_REGION_ECC_ERROR (R570): an uncorrectable error in the firmware region of DRAM; the spec gives its CP_RESET no
cause code, which is a free value. -/
def execFirmwareRegionEccError (_word : Nat) (s : State) : Host.Outcome State Fault Refusal :=
  .next (if !s.wheelRuns then s
    else
      let (c, s) := s.free (2 ^ 32)
      s.cpReset c)

/-- The images are those measured at the boot (R533). -/
def State.imagesMatch (s : State) : Bool :=
  (s.bnc.digests.zip (List.range 5)).all fun d => decide (entDigest (s.runEntry (d.2 + 1)) = d.1)

/-- Requests to the admission unit that have not applied complete with ABORTED (R529). -/
def State.abortAdmissions (s : State) : State :=
  let hs := (s.tor.queue.map fun r => r.handle)
    ++ ((s.tor.plans.filter fun p => p.req.kind ≠ 16 && p.req.handle < 2 ^ 32).map fun p => p.req.handle)
  let s := State.syncQueue { s with tor := { s.tor with
    queue := [], plans := s.tor.plans.filter fun p => p.req.kind = 16 || decide (2 ^ 32 ≤ p.req.handle) } }
  let s := (List.range 128).foldl (fun (s : State) sl =>
    match (s.sli sl).cmd with
    | some c => if c.op = 7 then s.abortSliceCmd sl else s
    | none => s) s
  hs.foldl (fun (s : State) h => s.complete h stABORTED) s

/-- WHEELHOUSE_RESUME (R529, R533): what was interrupted completes with ABORTED, and the tiles that failed meanwhile get
their spares. -/
def execWheelhouseResume (t : Nat) (s : State) : Host.Outcome State Fault Refusal :=
  .next (if (s.pwr.down).isNone then s
    else
      let s := s.advance t
      if !s.imagesMatch then s.warmReset 5
      else
        let late := s.pwr.lateTiles
        let s : State := { s with pwr := { s.pwr with down := none, lateTiles := [] } }
        let s := (List.range 2).foldl (fun (s : State) l => s.abortMailbox (.manager l)) s
        let s := (List.range 128).foldl (fun (s : State) sl => s.abortMailbox (.slice sl)) s
        let s := s.abortAdmissions
        let s := match s.upd.installing with
          | some h => State.complete (State.syncStage { s with upd := { s.upd with installing := none } }) h stABORTED
          | none => s
        late.foldl State.bindSpare s)

/-- PORT_GROUP_RESET (R527, R543): PWR_RESET with kind 3. The ports of the group hold their reset values and what they had
on the wire is cut; the handle completes when the group reports power-good. -/
def execPortGroupReset (src : Requester) (g : Nat) (s : State) : Host.Outcome State Fault Refusal :=
  .next (
    let (h, s) := s.newHandle src
    if 4 ≤ g then s.complete h stBAD_LENGTH
    else if s.isFenced (.portGroup g) || !s.domainOn (5 + g) || bit g s.pwr.groups then s.complete h stOK
    else
      let (c, s) := s.free 256
      let ps := (List.range 8).map fun k => 8 * g + k
      let s : State := { s with
        regs := s.regs.filter fun e => addrIsland (e.1 / 32) ≠ 16 + g,
        net := { s.net with px := s.net.px.filter fun e => !ps.contains e.1, tx := s.net.tx.filter fun e => !ps.contains e.1 },
        pwr := { s.pwr with groups := setBit g s.pwr.groups, good := clearBit (5 + g) s.pwr.good,
                            groupHandle := Tbl.ins h s.pwr.groupHandle g } }
      s.logReset 5 c g)

/-! ### Host links (R530) -/

/-- The number under which a host-link reset resets a slice: no handle. -/
def linkKey (sl : Nat) : Nat := 2 ^ 33 + sl

/-- HOST_LINK_RESET (R530): the function and the slices of link X. -/
def execHostLinkReset (link t : Nat) (s : State) : Host.Outcome State Fault Refusal :=
  .next (
    let s := s.advance t
    let (c, s) := s.free 256
    let other := fun (n : Nat) (k : Nat) => decide (k / n ≠ link)
    let s : State := { s with hif := { s.hif with
      trained := clearBit link s.hif.trained, compat := clearBit link s.hif.compat,
      postedA := (if link = 0 then none else s.hif.postedA), postedB := (if link = 1 then none else s.hif.postedB),
      msix := s.hif.msix.filter fun e => other 4224 e.1, pba := s.hif.pba.filter fun e => other 4224 e.1,
      fn := s.hif.fn.filter fun e => other 3 e.1,
      shadow := s.hif.shadow.filter fun (b : Buffered) =>
        b.key ≠ (if link = 0 then Reg.hif_COMPAT_A.key 0 else Reg.hif_COMPAT_B.key 0) } }
    let s := s.wr (if link = 0 then Reg.hif_COMPAT_A else Reg.hif_COMPAT_B) 0 0
    let onLink := fun (r : Requester) => match r with
      | .manager l => decide (l = link)
      | .slice sl => decide (s.sliceLink sl = link)
      | _ => false
    let s := (s.discardTxns (fun x => onLink x.owner) 3).abortMailbox (.manager link)
    let s := ((List.range 128).filter fun sl => s.slState sl ≠ 0 && s.sliceLink sl = link).foldl
      (fun (s : State) sl => s.startReset .wheelhouse 3 sl (linkKey sl) false) s
    s.logReset 4 c link)

/-! ### Dips, holdup and shutdown (R539–R542, R612) -/

/-- The shutdown sequence runs to its end (R541, R542): the event (a thermal one has no INFO, R632), the SHUTDOWN record, and
the domains off. -/
def State.shutDown (s : State) (code cause : Nat) : State :=
  let s := s.wr Reg.pwr_MOD_STATE 0 4
  let s := s.raise 109 code (if code = 0x010A then 0 else s.raw Reg.adcch_CH_RES 9 % 2 ^ 16)
  let s := s.logShutdown
  let s : State := { s with pwr := { s.pwr with valid := false, cause := cause } }
  s.coldReset

/-- BROWNOUT (R539, R541, R612): the supply falls below 8.2 V; without HOLD_OK the module shuts down at once. -/
def execBrownout (t : Nat) (s : State) : Host.Outcome State Fault Refusal :=
  .next (if !s.pwr.valid || s.pwr.holdAt.isSome then s
    else
      let s := (((s.advance t).wr Reg.pwr_BROWNOUT 0 1).count Reg.pwr_PWR_BROWNOUT)
      if !s.flag Reg.pwr_HOLD_OK then s.shutDown 0x0103 2
      else
        let s : State := { s with pwr := { s.pwr with holdAt := some s.mono, before := s.raw Reg.pwr_MOD_STATE, runSince := none } }
        ((s.wr Reg.pwr_MOD_STATE 0 3).wr Reg.pwr_HOLD_OK 0 0).raise 109 0x0101 0)

/-- SHUTDOWN (R541): AIN9 falls to 24 V. -/
def execShutdown (t : Nat) (s : State) : Host.Outcome State Fault Refusal :=
  .next (if !s.pwr.valid then s else (s.advance t).shutDown 0x0103 2)

/-- HOLDUP_CHARGED (R612): the store is at 56 V. -/
def execHoldupCharged (t : Nat) (s : State) : Host.Outcome State Fault Refusal :=
  .next (if !s.pwr.valid || s.pwr.holdAt.isSome then s else (s.advance t).wr Reg.pwr_HOLD_OK 0 1)

/-! ### Crossings into a reset (R25) -/

/-- The oldest frame copy that waits for a port of group g is dropped (R25, R207). -/
def State.dropCrossing (s : State) (g : Nat) : State :=
  match s.net.frames.findSome? fun f => (f.ports.find? fun q => q < 32 && q / 8 = g).map fun q => (f, q) with
  | some (f, q) => (s.count Reg.swc_SWC_DROP_XING).dropCopy f.id q
  | none => s

/-- The oldest frame that a port of group g holds for the switch core is dropped. -/
def State.dropArrival (s : State) (g : Nat) : State :=
  match s.net.arrivals.find? fun a => a.port < 32 && a.port / 8 = g with
  | some a => State.count { s with net := { s.net with arrivals := s.net.arrivals.erase a } } Reg.swc_SWC_DROP_XING
  | none => s

/-- XING_WAIT_EXPIRY (R25): a source island has waited 10 µs for a destination island in reset and discards its item. -/
def execXingWaitExpiry (src dst : Nat) (s : State) : Host.Outcome State Fault Refusal :=
  .next (if s.islandRuns dst || !s.islandRuns src then s
    else
      let s := s.count Reg.pwr_PWR_XING_ABORT dst
      if 16 ≤ dst && dst < 20 && src = 20 then s.dropCrossing (dst - 16)
      else if dst = 20 && 16 ≤ src && src < 20 then s.dropArrival (src - 16)
      else s)

end Sys2Proof.Machine
end

