-- ==== Sys2Proof/Machine/Physical.lean ====
section
/-!
DEFINITION. What chapter 22 gives the module to do: the comparators of the cell and of the die, thermal shutdown, the
declared ambient with the ceiling of the quad clocks, and what the LEDs and TX_DISABLE show.
-/

namespace Sys2Proof.Machine

/-! ### Comparators (R616, R627, R632) -/

/-- VBAT_LOW_CHANGE (R616, R632). The comparator lies in PD0; its event needs PD1. -/
def execVbatLowChange (low : Bool) (s : State) : Host.Outcome State Fault Refusal :=
  .next (if s.flag Reg.pwr_VBAT_LOW = low then s
    else
      let s := s.wrFlag Reg.pwr_VBAT_LOW 0 low
      if s.domainOn 1 then s.raise 108 (if low then 0x0108 else 0x0109) (s.raw Reg.adcch_CH_RES 15 % 2 ^ 16) else s)

/-- DIE_TEMP_CHANGE (R627, R632): set at 110 °C, cleared at 100 °C. -/
def execDieTempChange (hot : Bool) (s : State) : Host.Outcome State Fault Refusal :=
  .next (if s.flag Reg.pwr_DIE_HOT = hot then s
    else (s.wrFlag Reg.pwr_DIE_HOT 0 hot).raise 108 (if hot then 0x0106 else 0x0107) 0)

/-- THERMAL_SHUTDOWN (R627): the shutdown steps with code 0x010A, and the module off for 60 s. -/
def execThermalShutdown (t : Nat) (s : State) : Host.Outcome State Fault Refusal :=
  .next (if !s.pwr.valid then s
    else
      let s := (s.advance t).shutDown 0x010A 4
      { s with pwr := { s.pwr with thermal := some (60 * unitsSec) } })

/-- THERMAL_RESTART (R627): 60 s have passed; the module restarts under R531 with LAST_CAUSE 4. -/
def execThermalRestart (s : State) : Host.Outcome State Fault Refusal :=
  .next (if (s.pwr.thermal).isNone then s
    else State.supplyUp { s with pwr := { s.pwr with thermal := none } } 0)

/-! ### Ambient (R625, R626) -/

/-- A MAX_AMBIENT value within the variant's range (R625). -/
def State.ambientRange (s : State) (v : Nat) : Nat := min v (if s.ident.variant = 0 then 70 else 85)

/-- QCLK_CEIL of a MAX_AMBIENT value (R625). -/
def ambientCeil (v : Nat) : Nat := if v ≤ 70 then 12 else if v ≤ 78 then 8 else 4

/-- MAX_AMBIENT as it is applied: the highest value whose ceiling no quad with admitted instances exceeds (R626). -/
def State.heldAmbient (s : State) (v : Nat) : Nat :=
  let v := s.ambientRange v
  let top := (List.range 16).foldl (fun m q => if s.quadUsed q then max m (s.rd Reg.quad_QCLK q) else m) 0
  if top ≤ ambientCeil v then v else if top ≤ 8 then min v 78 else min v 70

/-- A MAX_AMBIENT write: held and counted, and buffered for its Hyper boundary (R626). -/
def State.writeAmbient (s : State) (v info : Nat) : State :=
  let r := s.ambientRange v
  let h := s.heldAmbient v
  let s := s.buffer Reg.pwr_MAX_AMBIENT 0 h info
  if h = r then s else s.count Reg.pwr_PWR_AMB_HELD

/-- MAX_AMBIENT_WRITE (R625, R626). -/
def execMaxAmbientWrite (v : Nat) (s : State) : Host.Outcome State Fault Refusal :=
  .next (s.writeAmbient (v % 128) (Reg.pwr_MAX_AMBIENT.addr 0))

/-- MAX_AMBIENT takes effect at a hyperperiod boundary, held against the quads of that moment: QCLK_CEIL follows, and quads
without admitted instances above it are lowered (R626). -/
def State.applyAmbient (s : State) : State :=
  let v := s.raw Reg.pwr_MAX_AMBIENT
  let h := s.heldAmbient v
  let s := if h = s.ambientRange v then s else s.count Reg.pwr_PWR_AMB_HELD
  let c := ambientCeil h
  let s := (s.wr Reg.pwr_MAX_AMBIENT 0 h).wr Reg.pwr_QCLK_CEIL 0 c
  (List.range 16).foldl (fun (s : State) q =>
    if c < s.raw Reg.quad_QCLK q && !s.quadUsed q then s.setClock q c else s) s

/-! ### What the front panel shows (R608, R609) -/

/-- How an LED shows: colour 0 off, 1 green, 2 amber, 3 red; rate 0 steady, 4 or 1 Hz. -/
structure Led where
  colour : Nat := 0
  rate : Nat := 0
  deriving DecidableEq, Repr

/-- LED k: 0 PWR, 1 RUN, 2 SYNC, 3 UNIT, 4 FAULT, 5 KEY (R608). The state listed first in its row wins. -/
def State.led (s : State) (k : Nat) : Led :=
  let mod := s.raw Reg.pwr_MOD_STATE
  let stx := s.raw Reg.stx_STATE
  let unit := s.raw Reg.unit_UNIT_STATE
  let ls := s.raw Reg.bnc_LS_STATE
  let all : Led := { colour := ([1, 1, 1, 1, 3, 2] : List Nat).getD k 0 }
  if !s.pwr.valid then {}
  else if s.mono < s.pwr.validAt + 200 * unitsMs then all
  else if s.pwr.safe then (match k with
    | 0 => { colour := 1 }
    | 4 => { colour := 3, rate := 4 }
    | _ => {})
  else match k with
    | 0 => if mod = 3 then { colour := 1, rate := 1 } else { colour := 1 }
    | 1 => if mod = 1 ∧ s.raw Reg.upd_FW_STATE = 1 then { colour := 1, rate := 4 }
           else if mod = 1 ∨ mod = 2 then { colour := 1 }
           else if mod = 0 then { colour := 1, rate := 1 } else {}
    | 2 => if stx = 2 ∨ stx = 5 then { colour := 1 }
           else if stx = 3 then { colour := 2 }
           else if stx = 4 then { colour := 2, rate := 4 }
           else if stx = 1 then { colour := 2, rate := 1 } else {}
    | 3 => if unit = 4 then { colour := 1 }
           else if unit = 3 then { colour := 2 }
           else if unit = 5 then { colour := 2, rate := 4 }
           else if unit = 1 ∨ unit = 2 then { colour := 2, rate := 1 } else {}
    | 4 => if mod = 2 ∨ s.raw Reg.pwr_DOM_FENCED ≠ 0 ∨ s.raw Reg.snd_PORT_FAIL ≠ 0 ∨ s.flag Reg.snd_OCXO_FAIL
             ∨ s.flag Reg.snd_BNC_KAT_FAIL then { colour := 3 } else {}
    | 5 => if ls = 0 ∨ ls = 2 then { colour := 2 }
           else if ls = 3 then { colour := 2, rate := 4 }
           else if s.flag Reg.bnc_TRIAL then { colour := 2, rate := 1 } else {}
    | _ => {}

/-- TX_DISABLE of the cage of port p: high while LANE_MODE is 0 or LP is 1 (R609). -/
def State.txDisable (s : State) (p : Nat) : Bool := s.raw Reg.prt_LANE_MODE p = 0 || s.flag Reg.prt_LP p

end Sys2Proof.Machine
end

