-- ==== Sys2Proof/Machine/ScanCmd.lean ====
section
/-!
DEFINITION. The commands of the scan engine: Latch, overruns, abandonment, exchange, hold and run, and forces
(chapter 14).
-/

namespace Sys2Proof.Machine

/-! ### When a cycle latches (R429, R432) -/

/-- The first Window boundary after a MONO instant, and the first at or after one, as MONO. -/
def State.winAfter (s : State) (t : Nat) : Nat := s.monoOf ((s.taiOf t / unitsWin + 1) * unitsWin)
def State.winFrom (s : State) (t : Nat) : Nat := s.monoOf (cdiv (s.taiOf t) unitsWin * unitsWin)

/-- Cycle k of a periodic program falls due (R432). -/
def State.dueAt (s : State) (x : Scan) (k : Nat) : Nat := s.winFrom (x.first.getD 0 + k * (x.prog.period * unitsUs))

/-- The first k whose due instant is not before a MONO instant. -/
def State.dueFrom (s : State) (x : Scan) (t : Nat) : Nat :=
  let k := (t - x.first.getD 0) / (x.prog.period * unitsUs) - 1
  if t ≤ s.dueAt x k then k else if t ≤ s.dueAt x (k + 1) then k + 1 else k + 2

/-- A cycle runs to its instant or is skipped: SCN_SKIP counts, and the first skip of a run of them raises its code (R443). -/
def State.skipCycles (s : State) (sl n : Nat) : State :=
  if n = 0 then s
  else
    let x := s.scanOf sl
    let s := (List.range n).foldl (fun s _ => s.count Reg.scn_SCN_SKIP) s
    let s := if x.skipped then s else s.raise 83 0x0105 (sl * 2 ^ 24)
    s.setScan sl { x with due := x.due + n, skipped := true }

/-- The input image at this moment (R430). -/
def State.inputImage (s : State) (p : ScanProg) : Tbl (Nat × Nat) :=
  (p.ins.zip (List.range 4096)).foldl (fun m b => Tbl.put (0, 0) m b.2 (s.readSignal (b.1.2.2 % 2 ^ 18))) []

/-- Latch (R429): the image, the time, the cycle number and the working half are taken. -/
def State.latch (s : State) (sl : Nat) : State :=
  let x := s.scanOf sl
  let first := x.first.getD s.mono
  let c : Cycle := { ctx := { pc := x.prog.entry }, latch := s.mono, tai := s.tai, image := s.inputImage x.prog, work := x.data }
  let y : Scan := { x with cycle := some c, number := (x.number + 1) % 2 ^ 64, first := some first, skipped := false }
  let due := if x.prog.period = 0 then 0 else s.dueFrom y (s.mono + 1)
  (s.setScan sl { y with due := due }).wr Reg.prog_CYCLE_LO sl (x.number % 2 ^ 32)

/-- SCAN_LATCH (R429, R432, R443): at its due Window boundary the program of slice sl starts a cycle. A periodic cycle that
falls due while another has not committed is skipped. -/
def execScanLatch (sl : Nat) (s : State) : Host.Outcome State Fault Refusal :=
  let x := s.scanOf sl
  let exchanged := match x.exch with
    | some e => e.done
    | none => false
  let now := x.prog.period = 0 || x.due = 0
  .next (if s.raw Reg.prog_STATE sl ≠ 1 || x.leaving && x.cycle.isNone || exchanged then s
    else if x.cycle.isSome then
      if x.prog.period = 0 then s else State.skipCycles (s.advance (s.dueAt x x.due)) sl 1
    else if now then State.latch (s.advance (s.winAfter x.ready)) sl
    else
      let k := max x.due (s.dueFrom x x.ready)
      let s := s.skipCycles sl (k - x.due)
      State.latch (s.advance (s.dueAt x k)) sl)

/-! ### Overruns (R441, R442) -/

/-- SCAN_OVERRUN (R441): the time from the Latch passes OVR_LIMIT. -/
def execScanOverrun (sl : Nat) (s : State) : Host.Outcome State Fault Refusal :=
  let x := s.scanOf sl
  .next (match x.cycle with
    | none => s
    | some c =>
      if c.late then s
      else
        let s := s.advance (c.latch + x.prog.ovr * unitsUs)
        let s := s.setScan sl { x with cycle := some { c with late := true } }
        (s.count Reg.scn_SCN_OVERRUN).raise 81 0x0101 (sl * 2 ^ 24 + min (2 ^ 24 - 1) ((s.mono - c.latch) / unitsUs)))

/-- SCAN_ABANDON (R442): the cycle has not reached END after OVR_ABANDON × OVR_LIMIT. -/
def execScanAbandon (sl : Nat) (s : State) : Host.Outcome State Fault Refusal :=
  let x := s.scanOf sl
  .next (match x.cycle with
    | none => s
    | some c =>
      let s := s.advance (c.latch + s.rd Reg.scn_OVR_ABANDON * x.prog.ovr * unitsUs)
      let s := s.setScan sl { x with due := 0 }
      ((s.scanFault sl 0xFF).count Reg.scn_SCN_ABANDON).raise 81 0x0102 (sl * 2 ^ 24))

/-! ### Exchange (R448–R452) -/

/-- A scan migration map for two programs (R451). -/
def State.scanMap (s : State) (sl m : Nat) (old new : ScanProg) : Except AdmRefusal (List Bytes) :=
  if m = 0xFF then .ok []
  else if m < 0x58 || 0x5B < m then .error { reason := adImageFormat }
  else match readMap [0x53, 0x43, 0x4D, 0x31] (s.image (sliceDom sl m)) with
    | .error r => .error { reason := r }
    | .ok (id, v0, v1, es) =>
      if id ≠ old.progId || id ≠ new.progId || v0 ≠ old.progVer || v1 ≠ new.progVer then .error { reason := adBinding } else .ok es

/-- Clamps of a scan map's entries: other kinds are ignored, ranges are cut (R451). -/
def scanMapClamps (old new : ScanProg) (es : List Bytes) : List (Nat × Nat × Nat × Nat) :=
  (es.zip (List.range es.length)).filterMap fun en =>
    let (kind, _, oo, no, len) := mapEntry en.1
    let cut := cutLen old.dataLen new.dataLen oo no len
    if kind ≠ 1 then some (32 + 16 * en.2, kind, kind, 3)
    else if cut ≠ len then some (32 + 16 * en.2 + 12, len, cut, 7) else none

/-- SCAN_EXCHANGE (R448): the program of slice sl gives way to the image in domain d, with map m, or none. -/
def execScanExchange (src : Requester) (sl d m : Nat) (s : State) : Host.Outcome State Fault Refusal :=
  .next (
    let (h, s) := s.newHandle src
    let x := s.scanOf sl
    let refuse := fun (r : AdmRefusal) => (s.admRefused r false).complete h stREFUSED (r.reason + r.item * 2 ^ 16)
    if s.raw Reg.prog_STATE sl = 0 || x.leaving then refuse { reason := adBinding }
    else if x.exch.isSome then s.complete h stBUSY
    else match s.admScan s.admView sl d true with
      | .error r => refuse r
      | .ok (p, cs) => match s.scanMap sl m x.prog p with
        | .error r => refuse r
        | .ok es =>
          let s := (imgClamps (sliceDom sl d) cs).foldl (fun s c => s.clampReport h c.1 c.2.1 c.2.2.1 c.2.2.2) s
          let s := (scanMapClamps x.prog p es).foldl (fun s c =>
            s.clampReport h (sliceDom sl m * 256) (c.1 * 2 ^ 32 + c.2.1) c.2.2.1 c.2.2.2) s
          let s := s.releaseDomain (sliceDom sl d)
          let s := if m = 0xFF then s else s.releaseDomain (sliceDom sl m)
          (s.setScan sl { x with exch := some { at_ := s.admInstant, prog := p, map := es, handle := h } }).wr Reg.prog_EXCH_PEND sl 1)

/-- At X the forces on slots that the exchange leaves without a writer are released (R445). -/
def State.scanForces (s : State) (sl : Nat) : State :=
  let x := s.scanOf sl
  match x.exch with
  | none => s
  | some e =>
    if e.released.isSome || s.tai < e.at_ then s
    else
      let lost := (x.prog.slots.filter fun n => !e.prog.slots.contains n).filter fun n => (s.signal n).forceEn
      lost.foldl (fun s n => s.releaseForce n) (s.setScan sl { x with exch := some { e with released := some lost } })

/-- At a boundary every exchange whose X has come releases its forces. -/
def State.scanExchangesAt (s : State) : State := (s.scan.map (·.1)).foldl State.scanForces s

/-- The report of a scan exchange (R452). -/
def scanReport (h : Nat) (blocks : List (Nat × Nat)) (forces : List Nat) : Bytes :=
  [0x53, 0x43, 0x58, 0x31] ++ leBytes 4 h ++ leBytes 4 blocks.length ++ leBytes 4 forces.length
    ++ (blocks.flatMap fun b => leBytes 4 b.1 ++ leBytes 1 b.2 ++ leBytes 3 0) ++ forces.flatMap (leBytes 4)

/-- The new program takes the place of the old one with its data built (R449, R450). -/
def State.scanSwap (s : State) (sl : Nat) (e : ScanExch) : State :=
  let x := s.scanOf sl
  let outs := x.prog.outs.zip e.prog.outs
  let y : Scan := { x with
    prog := e.prog, data := exchangeData x.prog e.prog x.data e.map x.struck, exch := none, first := none, due := 0,
    skipped := false, struck := false,
    lastOut := x.lastOut.filter fun o => match outs[o.1]? with
      | some (a, b) => a = b
      | none => false }
  let s := s.setScan sl y
  let s := (x.prog.slots.filter fun n => !e.prog.slots.contains n).foldl (fun s n => s.dropWriter n) s
  let s := s.takeSlots sl (e.prog.outs.filterMap fun o => if o.1 = 1 then some (o.2.2 % 2 ^ 18, o.2.1) else none)
  let s := ((s.wr Reg.prog_CORE sl e.prog.core).wr Reg.prog_CT_US sl (e.prog.ct / 1000)).wr Reg.prog_EXCH_PEND sl 0
  (if s.raw Reg.prog_STATE sl = 3 then s.scanState sl 1 else s).syncScan

/-- SCAN_EXCHANGE_APPLY (R449–R452): after the old program's last commit, at the next Window boundary, the new program
latches. A FAULTED program has no cycle to wait for. -/
def execScanExchangeApply (sl : Nat) (s : State) : Host.Outcome State Fault Refusal :=
  .next (
    let x := s.scanOf sl
    match x.exch with
    | none => s
    | some e =>
      let faulted := s.raw Reg.prog_STATE sl = 3
      if x.cycle.isSome || !(e.done || faulted) then s
      else
        let s := s.advance (s.winAfter (if faulted then max x.ready (s.monoOf e.at_) else x.ready))
        let s := s.scanForces sl
        let forces := (((s.scanOf sl).exch.bind (·.released))).getD []
        let blocks := exchangeBlocks x.prog e.prog x.struck
        let s := ((s.scanSwap sl e).renameAdmit 4 sl x.prog.dom e.prog.dom).latch sl
        let s := s.fillDomain (sliceDom sl 0x5C) (scanReport e.handle blocks forces)
        (s.raise 82 0x0103 (sl * 2 ^ 24)).complete e.handle stOK (blocks.length + forces.length))

/-! ### Hold and run (R453) -/

/-- SCAN_HOLD (R453, R459): HELD after the cycle in progress, and after an exchange in progress. -/
def execScanHold (src : Requester) (sl : Nat) (s : State) : Host.Outcome State Fault Refusal :=
  .next (
    let (h, s) := s.newHandle src
    let x := s.scanOf sl
    let s := if s.raw Reg.prog_STATE sl ≠ 1 then s
      else if x.cycle.isNone && x.exch.isNone then s.scanState sl 2
      else s.setScan sl { x with holdPend := true }
    s.complete h stOK)

/-- SCAN_RUN (R453): a HELD program latches at the next Window boundary. -/
def execScanRun (src : Requester) (sl : Nat) (s : State) : Host.Outcome State Fault Refusal :=
  .next (
    let (h, s) := s.newHandle src
    let s := if s.raw Reg.prog_STATE sl ≠ 2 then s
      else State.scanState (s.setScan sl { s.scanOf sl with ready := s.mono, due := 0 }) sl 1
    s.complete h stOK)

/-! ### Forces (R64, R444) -/

/-- Force enable of a slot written: the value applied. At most 4,096 slots are forced. -/
def State.forceEnable (s : State) (n : Nat) (on : Bool) (who : Nat) : Bool × State :=
  let forced := (s.wh.signals.filter fun e => e.2.forceEn).length
  if on && !(s.signal n).forceEn && 4096 ≤ forced then (false, s.clampReport who ((0x100000 + n) * 256 + 3) 1 0 7)
  else (on, ((s.notePast n).setSignal n { s.signal n with forceEn := on }).syncForces)

/-- A force value clamped to its type (R53, R64): a BOOL to 1, a NaN to the default 0. -/
def forceClamp (vt v : Nat) : Nat × Nat :=
  if vt = 1 then (if v < 2 then (v, 0) else (1, 9))
  else if vt = 0x0A then (if bits 30 23 v = 255 ∧ bits 22 0 v ≠ 0 then (0, 6) else (v, 0))
  else if vt = 0x0B then (if bits 62 52 v = 2047 ∧ bits 51 0 v ≠ 0 then (0, 6) else (v, 0))
  else (v, 0)

/-- FORCE_WRITE (R64, R444): subindex .03, force enable, or .04, force value, of slot n; readers see it at once. -/
def execForceWrite (n : Nat) (enable : Option Bool) (v who : Nat) (s : State) : Host.Outcome State Fault Refusal :=
  .next (match enable with
    | some on => (s.forceEnable n on who).2
    | none =>
      let vt := (s.signal n).vtype
      let w := v % 2 ^ (8 * vtSize vt)
      let (y, r) := forceClamp vt w
      let s := (s.notePast n).setSignal n { s.signal n with forceVal := y }
      if r = 0 then s else s.clampReport who ((0x100000 + n) * 256 + 4) w y r)

end Sys2Proof.Machine
end

