-- ==== Sys2Proof/Machine/Sextant.lean ====
section
/-!
DEFINITION. The Sextant: PTP messages as a time receiver, transparent clock and backup master, the servo's states,
jumps, slews and steps, PPS and leap seconds (chapter 04). The layout of PTP messages is that of IEEE 1588-2019, which
R127 names (PRESUMED, log entry 8).
-/

namespace Sys2Proof.Machine

/-! ### Reading a PTP message -/

/-- Where the PTP header of a frame begins. -/
def ptpAt (f : Bytes) : Nat := (headersOf f).payload

def ptpDomain (f : Bytes) : Nat := be (ptpAt f + 4) 1 f
def ptpFlags (f : Bytes) : Nat := be (ptpAt f + 6) 2 f
/-- twoStepFlag. -/
def ptpTwoStep (f : Bytes) : Bool := bit 9 (ptpFlags f)
/-- correctionField in units of 1/9 ns. -/
def ptpCorr (f : Bytes) : Int := toSigned 64 (be (ptpAt f + 8) 8 f) * 9 / 65536
def ptpSource (f : Bytes) : Nat := be (ptpAt f + 20) 10 f
def ptpSeq (f : Bytes) : Nat := be (ptpAt f + 30) 2 f
/-- A PTP timestamp of 10 bytes at `o` of the message, in units of 1/9 ns. -/
def ptpTime (f : Bytes) (o : Nat) : Nat := be (ptpAt f + o) 6 f * unitsSec + be (ptpAt f + o + 6) 4 f * unitsNs

/-- The PTP port identity of port p. -/
def State.portIdentity (s : State) (p : Nat) : Nat := s.clockId * 65536 + p + 1

/-- A PTP frame of the module: destination, type, flags, correction, port, sequenceId, control field and body. -/
def State.ptpFrame (s : State) (dst type flags : Nat) (corr : Nat) (p seq domain ctl : Nat) (body : Bytes) : Bytes :=
  beBytes 6 dst ++ beBytes 6 (s.baseMac + p) ++ beBytes 2 0x88F7 ++
  beBytes 1 type ++ beBytes 1 0x12 ++ beBytes 2 (34 + body.length) ++ beBytes 1 domain ++ beBytes 1 0 ++ beBytes 2 flags ++
  beBytes 8 corr ++ beBytes 4 0 ++ beBytes 10 (s.portIdentity p) ++ beBytes 2 seq ++ beBytes 1 ctl ++
  beBytes 1 (if type = 3 then 0x7F else 0) ++ body

/-- PTP destination addresses of R127. -/
def ptpPeerDst : Nat := 0x0180C200000E
def ptpMainDst : Nat := 0x011B19000000

/-! ### States (R135) -/

/-- A signed count of units of 1/9 ns in whole nanoseconds. -/
def toNs (u : Int) : Int := u / 9

/-- A signed number of ns as the event INFO and registers show it: I32, saturated. -/
def i32 (x : Int) : Nat := satSigned 32 x

/-- STX_TERR and STX_FREQ_ADJ: the spec states no formula for the estimate and none for the servo; both take a free
value, the frequency within ±5 ppm in steps of 2⁻¹⁶ ppb (R136, R137; log entry 3). -/
def State.servoFree (s : State) : State :=
  let (f, s) := s.free 655360001
  let (e, s) := s.free (2 ^ 32 - 1)
  (s.wr Reg.stx_STX_FREQ_ADJ 0 (ofSigned 32 ((f : Int) - 327680000))).wr Reg.stx_STX_TERR 0 e

/-- PPS_OUT runs in LOCKED, DEAD_RECKONING and PPS (R142). -/
def ppsRuns (st : Nat) : Bool := st = 2 || st = 3 || st = 5

/-- The number of the PPS_OUT pin in `Output.pin`. -/
def pinPpsOut : Nat := 0

/-- A change of state: the event, the advertised clockClass, the second counters, PPS_OUT (R135, R142). -/
def State.setStx (s : State) (new : Nat) : State :=
  let old := s.raw Reg.stx_STATE
  if old = new then s
  else
    let s := s.refresh (if old = 2 then Reg.stx_STX_DISC_SEC.base else Reg.stx_STX_DR_SEC.base)
    let s := s.wr Reg.stx_STATE 0 new
    let s := if new = 2 then
        (State.wr { s with stx := { s.stx with lockedAt := s.mono } } Reg.stx_STX_DISC_SEC 0 0)
      else if new = 3 then
        (State.wr { s with stx := { s.stx with drAt := s.mono } } Reg.stx_STX_DR_SEC 0 0)
      else s
    let s := match new with
      | 0 => s.wr Reg.stx_CLOCK_CLASS 0 248
      | 3 => s.wr Reg.stx_CLOCK_CLASS 0 7
      | 4 => s.wr Reg.stx_CLOCK_CLASS 0 187
      | 5 => s.wr Reg.stx_CLOCK_CLASS 0 248
      | _ => s
    let s := if new = 3 then s else s.wr Reg.stx_MASTER 0 (if new = 4 then s.raw Reg.stx_MASTER else 0)
    let s := { s with stx := { s.stx with good := 0, backupSince := if new = 3 then s.mono else s.stx.backupSince } }
    let s := if s.stx.ppsOut && !ppsRuns new then
        State.emit { s with stx := { s.stx with ppsOut := false } } (.pin pinPpsOut 0)
      else s
    s.raise 40 0x0100 (new + old * 16)

/-- Clears a pending jump and its count (R138). -/
def State.clearJump (s : State) : State :=
  let s := s.wr Reg.stx_JUMP_PEND 0 0
  let s := if s.flag Reg.stx_STEP_NOW || s.stx.confirmed then
      State.wr { s with stx := { s.stx with step := none } } Reg.stx_STEP_NOW 0 0
    else s
  { s with stx := { s.stx with jump := [], confirmed := false } }

/-- Stops a slew at the current time (R150). -/
def State.stopSlew (s : State) : State :=
  State.wr { s with stx := { s.stx with slew := none } } Reg.stx_SLEWING 0 0

/-! ### Best master clock algorithm (R128, R129) -/

/-- Is candidate `a` better than `b`? The data set comparison of IEEE 1588-2019: different grandmasters by their
quality, one grandmaster by the path. -/
def better (a b : Foreign) : Bool :=
  if a.gmId = b.gmId then
    decide (a.steps < b.steps) || (a.steps = b.steps && (decide (a.source < b.source) || (a.source = b.source && decide (a.port < b.port))))
  else
    let k := fun (f : Foreign) => [f.priority1, f.clockClass, f.accuracy, f.variance, f.priority2, f.gmId]
    decide (k a < k b)

/-- A foreign master record is qualified by two Announces within 4 intervals, and lives 3 intervals after its last. -/
def State.qualified (s : State) (f : Foreign) : Bool :=
  (match f.prevAnnounce with
    | some p => decide (f.lastAnnounce < p + 4 * unitsSec)
    | none => false) &&
  decide (s.mono < f.lastAnnounce + 3 * unitsSec) && s.ptpOn f.port && s.fwd f.port && decide (f.steps < 255)

/-- The best candidate among some records. -/
def bestOf (l : List Foreign) : Option Foreign :=
  l.foldl (fun b f => match b with
    | none => some f
    | some g => if better f g then some f else some g) none

/-- The record of the selected master. -/
def State.masterRec (s : State) : Option Foreign :=
  match s.stx.master with
  | none => none
  | some (p, src) => s.stx.foreign.find? fun f => f.port = p && f.source = src

/-- The module's own data set as a backup master (R135, R137). -/
def State.ownClock (s : State) : Foreign :=
  { port := 0, source := s.portIdentity 0, gmId := s.clockId, priority1 := 128, clockClass := s.raw Reg.stx_CLOCK_CLASS,
    accuracy := 0xFE, variance := 0xFFFF, priority2 := 128, steps := 0, utcOffset := s.raw Reg.stx_STX_UTC_OFFSET,
    flags := 0, lastAnnounce := s.mono, lastSync := s.mono }

/-- UTC data of a master (R123, R146): UTC_VALID follows its flag; the offset and leap flags follow while it is valid. -/
def State.takeUtc (s : State) (f : Foreign) : State :=
  let v := bit 2 f.flags
  let s := s.wrFlag Reg.stx_UTC_VALID 0 v
  if v then
    ((s.wr Reg.stx_STX_UTC_OFFSET 0 f.utcOffset).wrFlag Reg.stx_LEAP61 0 (bit 0 f.flags)).wrFlag Reg.stx_LEAP59 0 (bit 1 f.flags)
  else s

/-- A master becomes the selected one (R129, R135). Selecting one while none was selected, or dropping a jump that was
being confirmed, enters ACQUIRING; another path to the same grandmaster keeps the state. -/
def State.selectMaster (s : State) (f : Foreign) : State :=
  let had := s.stx.master.isSome
  let same := had && s.raw Reg.stx_STX_GM_ID_LO + s.raw Reg.stx_STX_GM_ID_HI * 2 ^ 32 = f.gmId
  let pend := s.flag Reg.stx_JUMP_PEND
  let s := { s with stx := { s.stx with master := some (f.port, f.source) } }
  let s := (s.wr Reg.stx_STX_GM_ID_LO 0 f.gmId).wr Reg.stx_STX_GM_ID_HI 0 (f.gmId / 2 ^ 32)
  let s := s.clearJump
  let s := s.wr Reg.stx_MASTER 0 0
  let s := s.takeUtc f
  if same then s
  else
    let s := s.raise 42 0x0103 f.gmId
    if !had || (pend && s.raw Reg.stx_STATE = 3) then s.setStx 1 else s

/-- The best master clock algorithm runs again (R128, R129, R137). -/
def State.reselect (s : State) : State :=
  if !s.flag Reg.stx_PTP_EN then s
  else
    match bestOf (s.stx.foreign.filter s.qualified) with
    | none => s
    | some b =>
      let st := s.raw Reg.stx_STATE
      if s.flag Reg.stx_BACKUP_EN && (st = 3 || st = 4) && s.stx.master.isNone && better s.ownClock b then s
      else if s.stx.master = some (b.port, b.source) then s
      else s.selectMaster b

/-- The selected master is gone (R137): dead reckoning, unless another path offers the same grandmaster (R129). `report`
is false where only the state changes (PTP_EN cleared, R150). -/
def State.loseMaster (s : State) (report : Bool) : State :=
  match s.masterRec with
  | none => { s with stx := { s.stx with master := none } }
  | some m =>
    let rest := s.stx.foreign.filter fun f => !(f.port = m.port && f.source = m.source)
    let others := rest.filter fun f => s.qualified f && f.gmId = m.gmId && decide (s.mono < f.lastSync + 3 * unitsSec)
    match (if report then bestOf others else none) with
    | some f => State.selectMaster { s with stx := { s.stx with foreign := rest } } f
    | none =>
      let s := { s with stx := { s.stx with foreign := if report then rest else s.stx.foreign, master := none } }
      let s := s.stopSlew.clearJump
      let s := if report then (s.count Reg.stx_STX_ANN_TIMEOUT).raise 42 0x0104 m.gmId else s
      let s := (s.setStx 3).servoFree
      if report then s.reselect else s

/-! ### The servo (R135–R140) -/

/-- The mean of some offsets. -/
def meanOf (l : List Int) : Int := if l.isEmpty then 0 else l.sum / l.length

/-- A refused measurement (R138). -/
def State.refuseOffset (s : State) (off : Int) : State :=
  let thr : Int := s.rd Reg.stx_STX_JUMP_THR
  let s := (s.count Reg.stx_STX_JUMP_REFUSED).raise 41 0x0101 (i32 off)
  let s := if s.flag Reg.stx_SLEWING then { s.stopSlew with stx := { s.stopSlew.stx with jump := [], confirmed := false } } else s
  let s := (s.setStx 3).wr Reg.stx_JUMP_PEND 0 1
  let l := off :: s.stx.jump
  let s := { s with stx := { s.stx with jump := l } }
  let n := s.rd Reg.stx_STX_JUMP_PERSIST
  let w := l.take n
  let m := meanOf w
  if n ≤ w.length && (w.all fun x => decide ((x - m).natAbs ≤ thr.toNat)) && !s.stx.confirmed then
    let s := s.raise 41 0x0102 (i32 m)
    if s.flag Reg.stx_STEP_MODE then { s with stx := { s.stx with step := some (-m * 9), confirmed := true } }
    else
      let s := s.clearJump
      State.wr { s with stx := { s.stx with slew := some m } } Reg.stx_SLEWING 0 1
  else s

/-- A measurement within the threshold (R135, R138). -/
def State.useOffset (s : State) (off : Int) : State :=
  let pend := s.flag Reg.stx_JUMP_PEND
  let s := (s.count Reg.stx_STX_SYNC_RX).clearJump.servoFree
  match s.raw Reg.stx_STATE with
  | 1 =>
    let g := if off.natAbs ≤ 100 then s.stx.good + 1 else 0
    let s := { s with stx := { s.stx with good := g } }
    if 16 ≤ g then s.setStx 2 else s
  | 3 => if pend then s.setStx 1 else s
  | _ => s

/-- One offset measured against the selected master, in ns (R136, R138). -/
def State.measure (s : State) (off : Int) : State :=
  let s := s.wr Reg.stx_STX_OFFSET 0 (i32 off)
  if !s.stx.firstDone then
    let s := s.count Reg.stx_STX_SYNC_RX
    { s with stx := { s.stx with firstDone := true, secondsSet := true, step := some (-off * 9) } }
  else if s.stx.step.isSome && !s.flag Reg.stx_JUMP_PEND then s
  else if s.rd Reg.stx_STX_JUMP_THR < off.natAbs then s.refuseOffset off
  else s.useOffset off

/-- An offset of TAI units from the Sync's ingress, origin, corrections, link delay and asymmetry, in ns (R131). -/
def State.offsetOf (s : State) (arrived origin : Nat) (corr path : Int) : Int :=
  toNs ((s.taiOf arrived : Int) - origin - corr - path)

/-- Link delay and asymmetry of a port in units of 1/9 ns (R131, R147). -/
def State.pathOf (s : State) (p : Nat) : Int :=
  (s.raw Reg.stxp_STX_LINK_DELAY p * 9 : Nat) + toSigned 32 (s.rd Reg.stxp_STX_ASYM p) * 9

/-- Is this message from the selected master, over its port and in the module's domain, with PTP on? -/
def State.fromMaster (s : State) (p : Nat) (f : Bytes) : Bool :=
  s.flag Reg.stx_PTP_EN && s.stx.master = some (p, ptpSource f) && ptpDomain f = s.raw Reg.stx_DOMAIN

/-- A Sync of a candidate has come. -/
def State.syncSeen (s : State) (p : Nat) (f : Bytes) : State :=
  { s with stx := { s.stx with foreign := s.stx.foreign.map fun x =>
      if x.port = p ∧ x.source = ptpSource f then { x with lastSync := s.mono } else x } }

/-- A PTP message received on a port that takes part: full duplex, forwarding and PTP_PORT_EN 1 (R130, R147). -/
def State.ptpIn (s : State) (p : Nat) : Bool := p < 32 && s.rxRaw Reg.stxp_PTP_PORT_EN p ≠ 0 && s.fwd p && s.fullDuplex p

/-- SYNC_RX (R131, R132, R134, R138). -/
def execSyncRx (p t : Nat) (bytes : Bytes) (s : State) : Host.Outcome State Fault Refusal :=
  let s := s.advance t
  let at_ := s.stampIn p t
  .next (if !s.ptpIn p then s
    else if s.raw Reg.stxp_STX_LINK_DELAY p = 0xFFFFFFFF then s.count Reg.stx_STX_TC_NOLINK
    else
      let path := s.pathOf p
      let two := ptpTwoStep bytes
      let m : PtpMark := { kind := b2n two, base := path, arrived := at_, source := ptpSource bytes,
                           seq := ptpSeq bytes, domain := ptpDomain bytes }
      let s := s.syncSeen p bytes
      let ports := (s.ptpPorts p).1
      let s := if two && decide (s.stx.syncRecs.length < 256) then
          { s with stx := { s.stx with syncRecs := s.stx.syncRecs ++ [({
              source := m.source, seq := m.seq, domain := m.domain, port := p, arrived := at_,
              correction := ptpCorr bytes, waiting := ports } : SyncRec)] } }
        else s
      let s := s.forwardPtp p at_ bytes (some m)
      if !two && s.fromMaster p bytes then
        s.measure (s.offsetOf at_ (ptpTime bytes 34) (ptpCorr bytes) path)
      else s)

/-- FOLLOW_UP_RX (R132). -/
def execFollowUpRx (p t : Nat) (bytes : Bytes) (s : State) : Host.Outcome State Fault Refusal :=
  let s := s.advance t
  .next (if !s.ptpIn p then s
    else
      match s.stx.syncRecs.find? (fun r => r.source = ptpSource bytes && r.seq = ptpSeq bytes && r.domain = ptpDomain bytes) with
      | none => (s.count Reg.stx_STX_TC_NOMATCH).forwardPtp p (s.stampIn p t) bytes none
      | some r =>
        let m : PtpMark := { kind := 2, base := 0, arrived := t, source := r.source, seq := r.seq, domain := r.domain }
        let s := s.updSync m fun r => { r with matched := true }
        let s := s.forwardPtp p (s.stampIn p t) bytes (some m)
        if s.fromMaster p bytes && r.port = p then
          s.measure (s.offsetOf r.arrived (ptpTime bytes 34) (r.correction + ptpCorr bytes) (s.pathOf p))
        else s)

/-- What an Announce says of its clock. -/
def announceOf (p now : Nat) (f : Bytes) (old : Option Foreign) : Foreign :=
  let o := ptpAt f
  { port := p, source := ptpSource f, gmId := be (o + 53) 8 f, priority1 := be (o + 47) 1 f, clockClass := be (o + 48) 1 f,
    accuracy := be (o + 49) 1 f, variance := be (o + 50) 2 f, priority2 := be (o + 52) 1 f, steps := be (o + 61) 2 f,
    utcOffset := be (o + 44) 2 f, flags := be (o + 7) 1 f, lastAnnounce := now,
    lastSync := (old.map (·.lastSync)).getD now, prevAnnounce := old.map (·.lastAnnounce) }

/-- ANNOUNCE_RX (R123, R127–R129): passed on by the transparent clock; in the module's domain it feeds the selection. -/
def execAnnounceRx (p t : Nat) (bytes : Bytes) (s : State) : Host.Outcome State Fault Refusal :=
  let s := s.advance t
  .next (if !s.ptpIn p then s
    else
      let s := s.forwardPtp p (s.stampIn p t) bytes none
      if !s.flag Reg.stx_PTP_EN || ptpDomain bytes ≠ s.raw Reg.stx_DOMAIN || ptpSource bytes / 65536 = s.clockId then s
      else
        let mine := fun (f : Foreign) => f.port = p && f.source = ptpSource bytes
        let f := announceOf p s.mono bytes (s.stx.foreign.find? mine)
        let s := { s with stx := { s.stx with foreign := s.stx.foreign.filter (fun x => !mine x) ++ [f] } }
        let s := if s.stx.master = some (p, f.source) then s.takeUtc f else s
        s.reselect)

/-! ### Peer delay (R131, R134) -/

/-- PDELAY_REQ_RX (R131): the one-step answer; the turnaround time enters its correctionField as it leaves. -/
def execPdelayReqRx (p t : Nat) (bytes : Bytes) (s : State) : Host.Outcome State Fault Refusal :=
  let s := s.advance t
  .next (if !s.ptpIn p then s
    else
      let o := ptpAt bytes
      let body := beBytes 10 0 ++ slice (o + 20) 10 bytes
      let f := s.ptpFrame ptpPeerDst 3 0 (be (o + 8) 8 bytes) p (ptpSeq bytes) (ptpDomain bytes) 5 body
      s.queuePtp 35 (s.stampIn p t) f [p]
        (some { kind := 4, base := 0, arrived := s.stampIn p t, source := 0, seq := 0, domain := 0 }))

/-- PDELAY_RESP_RX (R134): half of the round trip less the partner's turnaround is one measurement. -/
def execPdelayRespRx (p t : Nat) (bytes : Bytes) (s : State) : Host.Outcome State Fault Refusal :=
  let s := s.advance t
  let x := Tbl.look ({} : Pdelay) s.stx.pdelay p
  .next (match x.asked with
    | none => s
    | some (seq, t1) =>
      if !s.ptpIn p || ptpSeq bytes ≠ seq || be (ptpAt bytes + 44) 10 bytes ≠ s.portIdentity p || ptpTwoStep bytes then s
      else
        let d := (((s.stampIn p t : Int) - t1 - ptpCorr bytes) / 2).toNat
        let l := (d :: x.meas).take 8
        let s := { s with stx := { s.stx with
          pdelay := Tbl.put ({} : Pdelay) s.stx.pdelay p { x with meas := l, valid := true, missed := 0, asked := none } } }
        s.wr Reg.stxp_STX_LINK_DELAY p (min (l.sum / l.length / 9) 0xFFFFFFFE))

/-- PDELAY_REQ_SEND (R134): the third request in a row without a valid response makes the delay invalid. -/
def execPdelayReqSend (p t : Nat) (s : State) : Host.Outcome State Fault Refusal :=
  let s := s.advance t
  .next (if !s.ptpIn p then s
    else
      let x := Tbl.look ({} : Pdelay) s.stx.pdelay p
      let missed := if x.asked.isSome then x.missed + 1 else x.missed
      let bad := x.asked.isSome && missed = 3
      let s := { s with stx := { s.stx with
        pdelay := Tbl.put ({} : Pdelay) s.stx.pdelay p
          { x with seq := (x.seq + 1) % 65536, asked := some (x.seq, s.mono), missed := missed,
                   valid := if bad then false else x.valid } } }
      let s := if bad then
          ((s.wr Reg.stxp_STX_LINK_DELAY p 0xFFFFFFFF).count Reg.stxp_STX_PDELAY_FAIL p).raise 45 0x0109 p
        else s
      let f := s.ptpFrame ptpPeerDst 2 0 0 p x.seq (s.raw Reg.stx_DOMAIN) 5 (beBytes 20 0)
      s.queuePtp 35 s.mono f [p] (some { kind := 3, base := 0, arrived := s.mono, source := 0, seq := x.seq, domain := 0 }))

/-- SYNC_RECORD_EXPIRY (R132): the oldest record has lasted 1 s; one whose Follow_Up never came is counted. -/
def execSyncRecordExpiry (s : State) : Host.Outcome State Fault Refusal :=
  .next (match s.stx.syncRecs with
    | [] => s
    | r :: rest =>
      let s := s.advance (r.arrived + unitsSec)
      let s := { s with stx := { s.stx with syncRecs := rest } }
      if r.matched then s else s.count Reg.stx_STX_TC_NOMATCH)

/-! ### Master loss and backup (R135, R137) -/

/-- MASTER_LOSS_TIMEOUT (R137): 3 s without an Announce, or without a Sync, from the master. -/
def execMasterLossTimeout (s : State) : Host.Outcome State Fault Refusal :=
  .next (match s.masterRec with
    | none => s
    | some m => (s.advance (min m.lastAnnounce m.lastSync + 3 * unitsSec)).loseMaster true)

/-- HOLDOVER_EXPIRED (R135). -/
def execHoldoverExpired (s : State) : Host.Outcome State Fault Refusal :=
  .next (if s.raw Reg.stx_STATE ≠ 3 then s
    else
      let s := (s.advance (s.stx.drAt + s.rd Reg.stx_STX_HOLD_LIMIT * 60 * unitsSec)).setStx 4
      s.raise 44 0x0107 (s.raw Reg.stx_STX_TERR))

/-- The Announce of the module on a port (R127, R135). -/
def State.announceFrame (s : State) (p : Nat) : Bytes :=
  let flags := b2n (s.flag Reg.stx_LEAP61) + 2 * b2n (s.flag Reg.stx_LEAP59) + 4 * b2n (s.flag Reg.stx_UTC_VALID) + 8
  let body := beBytes 10 0 ++ beBytes 2 (s.raw Reg.stx_STX_UTC_OFFSET) ++ beBytes 1 0 ++ beBytes 1 128 ++
    beBytes 1 (s.raw Reg.stx_CLOCK_CLASS) ++ beBytes 1 0xFE ++ beBytes 2 0xFFFF ++ beBytes 1 128 ++ beBytes 8 s.clockId ++
    beBytes 2 0 ++ beBytes 1 0xA0 ++ (if s.raw Reg.stx_PROFILE = 1 then Config.c37Tlv (s.raw Reg.stx_STX_TERR) else [])
  s.ptpFrame ptpMainDst 0xB flags 0 p s.stx.announceSeq (s.raw Reg.stx_DOMAIN) 5 body

/-- MASTER_SEND (R137): in DEAD_RECKONING or HOLDOVER_EXPIRED with BACKUP_EN, an Announce on every PTP port; after 3
intervals with no better Announce the module is the selected master and sends Sync as well. -/
def execMasterSend (t : Nat) (s : State) : Host.Outcome State Fault Refusal :=
  let s := s.advance t
  let st := s.raw Reg.stx_STATE
  .next (if !(s.flag Reg.stx_PTP_EN && s.flag Reg.stx_BACKUP_EN && (st = 3 || st = 4) && s.stx.master.isNone) then s
    else
      let better := (s.stx.foreign.filter s.qualified).any fun f => better f s.ownClock
      let s := if !s.flag Reg.stx_MASTER && !better && decide (s.stx.backupSince + 3 * unitsSec ≤ s.mono) then
          (s.wr Reg.stx_MASTER 0 1).raise 42 0x0103 s.clockId
        else s
      let ports := (List.range 32).filter fun p => s.ptpIn p
      let s := ports.foldl (fun s p => s.queuePtp 35 s.mono (s.announceFrame p) [p] none) s
      let s := { s with stx := { s.stx with announceSeq := (s.stx.announceSeq + 1) % 65536 } }
      if s.flag Reg.stx_MASTER then
        let s := ports.foldl (fun s p =>
          s.queuePtp 35 s.mono (s.ptpFrame ptpMainDst 0 0 0 p s.stx.syncSeq (s.raw Reg.stx_DOMAIN) 0 (beBytes 10 0)) [p]
            (some { kind := 5, base := 0, arrived := s.mono, source := 0, seq := 0, domain := 0 })) s
        { s with stx := { s.stx with syncSeq := (s.stx.syncSeq + 1) % 65536 } }
      else s)

/-! ### Steps, slews, leap seconds (R123, R139, R140, R143) -/

/-- STEP_APPLY (R140): at a hyperperiod boundary, in all islands at once. The next frame starts at the first hyperperiod
boundary of the new time at least one frame after the step. -/
def execStepApply (s : State) : Host.Outcome State Fault Refusal :=
  .next (match s.stx.step with
    | none => s
    | some d =>
      if s.tai ≠ s.stx.lastHyper * unitsHyper then s
      else
        let pend := s.flag Reg.stx_JUMP_PEND
        let s := { s with stx := { s.stx with off := s.stx.off + d, step := none } }
        let h := cdiv (s.tai + unitsFrame) unitsHyper
        let t0 := s.taiOf s.mono - d.toNat + (-d).toNat
        let s := { s with stx := { s.stx with lastHyper := h - 1, lastFrame := 12 * h - 1, lastWin := s.tai / unitsWin } }
        let s := s.streamsStep t0 s.tai (h * unitsHyper)
        let s := ((s.wr Reg.stx_STEP_NOW 0 0).count Reg.stx_STX_STEP_COUNT).raise 46 0x010A (i32 (toNs d))
        if pend then
          let s := s.clearJump
          if s.stx.master.isSome then s.setStx 1 else s
        else s)

/-- SLEW_DONE (R139). -/
def execSlewDone (s : State) : Host.Outcome State Fault Refusal :=
  .next (if !s.flag Reg.stx_SLEWING then s else (s.stopSlew.setStx 1).raise 46 0x010B 0)

/-- LEAP_SECOND_APPLY (R123): at the TAI instant that ends the UTC day. -/
def execLeapSecondApply (s : State) : Host.Outcome State Fault Refusal :=
  let off := s.raw Reg.stx_STX_UTC_OFFSET
  let run := fun (new : Nat) =>
    let day := (s.tai / unitsSec - new) / 86400 + 1
    let s := s.advance (s.monoOf ((day * 86400 + new) * unitsSec))
    let s := ((s.wr Reg.stx_STX_UTC_OFFSET 0 new).wr Reg.stx_LEAP61 0 0).wr Reg.stx_LEAP59 0 0
    s.raise 47 0x010C new
  .next (if s.flag Reg.stx_LEAP61 then run (off + 1) else if s.flag Reg.stx_LEAP59 then run (off - 1) else s)

/-- TIME_LATCH_READ (R146): the read latches the whole time for the two registers that follow. -/
def State.latchTime (s : State) : State :=
  let t := s.tai
  ((s.wr Reg.stx_STX_TIME_SEC_LO 0 (t / unitsSec)).wr Reg.stx_STX_TIME_SEC_HI 0 (t / unitsSec / 2 ^ 32)).wr
    Reg.stx_STX_TIME_NS 0 (t % unitsSec / unitsNs)

def execTimeLatchRead (a : Access) (s : State) : Host.Outcome State Fault Refusal :=
  .next (if s.linkUp a.link && a.sizeOk && s.reach a.addr then s.latchTime.hostReadAccess a else s.hostReadAccess a)

/-- STEP_NOW (R146, R150): without a pending jump the bit clears at once. -/
def execStepNow (s : State) : Host.Outcome State Fault Refusal :=
  .next (if !s.flag Reg.stx_JUMP_PEND then s
    else
      let m := meanOf s.stx.jump
      State.wr { s with stx := { s.stx with step := some (-m * 9) } } Reg.stx_STEP_NOW 0 1)

/-- SET_TIME (R143): a step in FREERUN, or of the seconds alone in PPS; elsewhere counted and ignored. -/
def execSetTime (s : State) : Host.Outcome State Fault Refusal :=
  let sec := s.raw Reg.stx_STX_SET_SEC_LO + s.raw Reg.stx_STX_SET_SEC_HI * 2 ^ 32
  let ns := s.rd Reg.stx_STX_SET_NS
  let step := fun (d : Int) => { s with stx := { s.stx with step := some d, secondsSet := true } }
  .next (match s.raw Reg.stx_STATE with
    | 0 => step ((sec * unitsSec + ns * unitsNs : Nat) - s.tai)
    | 5 => step (((sec : Int) - (s.tai / unitsSec : Nat)) * unitsSec)
    | _ => s.count Reg.stx_STX_SET_IGNORED)

/-! ### PPS (R141, R142) -/

/-- An edge's distance from the nearest whole second of Sextant time, in ns. -/
def State.edgeOffset (s : State) : Int :=
  let ph := s.tai % unitsSec
  if ph < unitsSec / 2 then toNs ph else toNs ((ph : Int) - unitsSec)

/-- PPS_IN_EDGE (R141). -/
def execPpsInEdge (t : Nat) (s : State) : Host.Outcome State Fault Refusal :=
  let s := s.advance t
  let off := s.edgeOffset
  .next (if !s.flag Reg.stx_PPS_IN_EN then s
    else
      let s := s.wr Reg.stx_STX_PPS_OFFSET 0 (i32 off)
      if s.stx.master.isSome then { s with stx := { s.stx with ppsEdge := s.mono } }
      else if off.natAbs ≤ 100000 then
        let s := { s with stx := { s.stx with ppsGood := s.stx.ppsGood + 1, ppsEdge := s.mono } }
        if 4 ≤ s.stx.ppsGood then (s.wr Reg.stx_PPS_OK 0 1).setStx 5 else s
      else
        let s := { s with stx := { s.stx with ppsGood := 0, ppsEdge := s.mono } }
        (s.count Reg.stx_STX_PPS_REFUSED).raise 43 0x0105 (i32 off))

/-- PPS_IN_LOST (R141). -/
def execPpsInLost (s : State) : Host.Outcome State Fault Refusal :=
  .next (if !s.flag Reg.stx_PPS_OK then s
    else
      let s := s.advance (s.stx.ppsEdge + 2 * unitsSec)
      let s := State.wr { s with stx := { s.stx with ppsGood := 0 } } Reg.stx_PPS_OK 0 0
      let s := if s.raw Reg.stx_STATE = 5 then s.setStx 3 else s
      s.raise 43 0x0106 0)

/-- PPS_OUT_PULSE (R142): the next edge of PPS_OUT, its rise at a whole second or its fall STX_PPS_OUT_W later. -/
def execPpsOutPulse (s : State) : Host.Outcome State Fault Refusal :=
  .next (if s.stx.ppsOut then
      let s := s.advance s.stx.ppsFall
      State.emit { s with stx := { s.stx with ppsOut := false } } (.pin pinPpsOut 0)
    else if ppsRuns (s.raw Reg.stx_STATE) then
      let s := s.advance (s.monoOf (cdiv s.tai unitsSec * unitsSec))
      State.emit { s with stx := { s.stx with
        ppsOut := true, ppsFall := s.mono + s.rd Reg.stx_STX_PPS_OUT_W * unitsMs } } (.pin pinPpsOut 1)
    else s)

/-- The Window boundary's part: PTP_EN at 0 drops the master and its role (R146, R150). -/
def State.ptpWindow (s : State) : State :=
  if s.flag Reg.stx_PTP_EN then s
  else
    let s := s.wr Reg.stx_MASTER 0 0
    let s := if s.stx.master.isSome then s.loseMaster false else s
    { s with stx := { s.stx with foreign := [] } }

end Sys2Proof.Machine
end

