-- ==== Sys2Proof/Machine/DictObj.lean ====
section
/-!
DEFINITION. The objects of the dictionary: the index map, types, rights, reads, and writes with their clamps (R46–R56,
R64, R65, R148, R177 and the like rules of the other blocks).
-/

namespace Sys2Proof.Machine

/-! ### Types (R14) -/

def tyBOOL : Nat := 0x01
def tyU8 : Nat := 0x06
def tyU16 : Nat := 0x07
def tyU32 : Nat := 0x08
def tyU64 : Nat := 0x09
def tyTIME96 : Nat := 0x0C
def tySTR : Nat := 0x0D
def tyDOMAIN : Nat := 0x0E
def tyHANDLE : Nat := 0x0F
def tyENUM : Nat := 0x10
def tyBITS : Nat := 0x11

/-- Bytes of a value of a type; BITS, STR and DOMAIN take their size from the object. -/
def typeSize (t : Nat) : Nat := ([0, 1, 1, 2, 4, 8, 1, 2, 4, 8, 4, 8, 12, 0, 0, 4, 2, 0] : List Nat).getD t 0

/-- The characters of a text as bytes. -/
def strBytes (t : String) : Bytes := t.toList.map fun c => BitVec.ofNat 8 c.toNat

/-- Bytes of the first UTF-8 sequence, 0 where there is none. -/
def utf8Len (bs : Bytes) : Nat :=
  let b := fun k => (bs.getD k 0).toNat
  let cont := fun k => decide (k < bs.length) && decide (0x80 ≤ b k) && decide (b k < 0xC0)
  let first := b 0
  if bs.isEmpty then 0
  else if first < 0x80 then 1
  else if 0xC2 ≤ first ∧ first < 0xE0 then (if cont 1 then 2 else 0)
  else if 0xE0 ≤ first ∧ first < 0xF0 then
    (if cont 1 && cont 2 && !(first = 0xE0 && b 1 < 0xA0) && !(first = 0xED && 0xA0 ≤ b 1) then 3 else 0)
  else if 0xF0 ≤ first ∧ first < 0xF5 then
    (if cont 1 && cont 2 && cont 3 && !(first = 0xF0 && b 1 < 0x90) && !(first = 0xF4 && 0x90 ≤ b 1) then 4 else 0)
  else 0

/-- The longest prefix that is UTF-8. -/
def utf8Cut : Nat → Bytes → Bytes
  | 0, _ => []
  | n + 1, bs =>
    let k := utf8Len bs
    if k = 0 then [] else bs.take k ++ utf8Cut n (bs.drop k)

/-- A string cut to its limit and its encoding (R53, reason 5). -/
def strClamp (limit : Nat) (bs : Bytes) : Bytes := utf8Cut limit (bs.take limit)

/-! ### Objects (R46–R48, R51) -/

/-- What an index and a subindex name. Command kinds: 0 operating, 1 configuration, 2 security, 3 service (R51). -/
inductive Obj where
  | const (type : Nat) (val : Bytes)
  | mgmt (k : Nat)
  | reg (addr : Nat)
  | grant (sl g f : Nat)
  | label (sl : Nat)
  | clampNext
  | clamp (e f : Nat)
  | complNext
  | compl (e f : Nat)
  | counter (ii ss : Nat)
  | command (kind : Nat)
  | domain (ro : Bool) (limit : Nat)
  | peer (p f : Nat)
  | signal (n f : Nat)
  deriving DecidableEq, Repr

/-- The directory: First index, Last index, Owner (R48). -/
def directory : List (Nat × Nat × String) :=
  [(0x000000, 0x000FFF, ""), (0x001000, 0x001FFF, "PRT_"), (0x002000, 0x002FFF, "SWC_"), (0x003000, 0x003FFF, "RED_"),
   (0x004000, 0x004FFF, "STX_"), (0x005000, 0x005FFF, "SVI_"), (0x006000, 0x006FFF, "FLT_"), (0x007000, 0x007FFF, "TOR_"),
   (0x008000, 0x008FFF, "ADM_"), (0x009000, 0x009FFF, "SCN_"), (0x00A000, 0x00AFFF, "CAP_"), (0x00B000, 0x00B7FF, "ADC_"),
   (0x00B800, 0x00BFFF, "PWR_"), (0x00C000, 0x00CFFF, "BNC_"), (0x00D000, 0x00DFFF, "UPD_"), (0x00E000, 0x00E7FF, "LOG_"),
   (0x00E800, 0x00EFFF, "SND_"), (0x00F000, 0x00F7FF, "EVT_"), (0x00F800, 0x00FFFF, "HIF_"), (0x010000, 0x01FFFF, "SLC_"),
   (0x020000, 0x02FFFF, ""), (0x030000, 0x03FFFF, ""), (0x040000, 0x04FFFF, ""), (0x080000, 0x08FFFF, ""),
   (0x100000, 0x13FFFF, "")]

/-- An object that has subindex 0 alone. -/
def onlySub (sub : Nat) (o : Obj) : Except Nat Obj := if sub = 0 then .ok o else .error stNO_SUBINDEX

/-- An object with subindices `lo` to `hi`. -/
def subRange (lo hi sub : Nat) (o : Obj) : Except Nat Obj := if lo ≤ sub ∧ sub ≤ hi then .ok o else .error stNO_SUBINDEX

/-- Identity, directory and management access (R5, R48, R49). -/
def State.identObj (s : State) (index sub : Nat) : Except Nat Obj :=
  if index = 0 then onlySub sub (.const tyU16 (beBytes 2 25))
  else if index = 0x10 then onlySub sub (.const tySTR (strBytes "RZM-4410"))
  else if index = 0x11 then onlySub sub (.const tyENUM (beBytes 2 s.ident.variant))
  else if index = 0x12 then onlySub sub (.const tyU16 (beBytes 2 0x4201))
  else if index = 0x13 then onlySub sub (.const tySTR s.ident.serial)
  else if index = 0x14 then onlySub sub (.const tyBOOL [1])
  else if index = 0x15 then onlySub sub (.const tyU64 (beBytes 8 (s.ident.baseMac % 2 ^ 48)))
  else if 0x101 ≤ index ∧ index ≤ 0x119 then
    let (first, last, owner) := directory.getD (index - 0x101) (0, 0, "")
    match sub with
    | 1 => .ok (.const tyU32 (beBytes 4 first))
    | 2 => .ok (.const tyU32 (beBytes 4 last))
    | 3 => .ok (.const tySTR (strBytes owner))
    | 4 => .ok (.const tyU16 (beBytes 2 1))
    | _ => .error stNO_SUBINDEX
  else if 0x200 ≤ index ∧ index ≤ 0x206 then onlySub sub (.mgmt (index - 0x200))
  else .error stNO_OBJECT

/-- The register that a block configuration object is: offset o of the block is object base + o/4. The areas of EVT_ and
HIF_ hold no object that the spec names (log entry 29). -/
def objAddr (index : Nat) : Option Nat :=
  if index < 0x1000 then none
  else if index < 0xB000 then some (0x100000 + (index / 0x1000 - 1) * 0x80000 + index % 0x1000 * 4)
  else if index < 0xB800 then some (0x600000 + (index - 0xB000) * 4)
  else if index < 0xC000 then some (0x880000 + (index - 0xB800) * 4)
  else if index < 0xD000 then some (0x680000 + (index - 0xC000) * 4)
  else if index < 0xE000 then some (0x700000 + (index - 0xD000) * 4)
  else if index < 0xE800 then some (0x780000 + (index - 0xE000) * 4)
  else if index < 0xF000 then some (0x800000 + (index - 0xE800) * 4)
  else none

/-- A register at an address is an object where the spec lists one there. -/
def State.regObj (s : State) (a sub : Nat) : Except Nat Obj :=
  if (Reg.fieldsAt a).isEmpty && (s.sliceView a).isNone then .error stNO_OBJECT else onlySub sub (.reg a)

/-- Slice areas (R396, R399): the words of the entry, the grants, Label and the slice's bound records. -/
def State.sliceObj (s : State) (index sub : Nat) : Except Nat Obj :=
  let sl := (index - 0x10000) / 0x200
  let k := (index - 0x10000) % 0x200
  if k < 8 then s.regObj (0x980000 + 0x20 * sl + 4 * k) sub
  else if 0x10 ≤ k ∧ k < 0x110 then subRange 1 4 sub (.grant sl (k - 0x10) sub)
  else if k = 0x1E0 then onlySub sub (.label sl)
  else if k = 0x1F0 then onlySub sub (.domain true 0)
  else .error stNO_OBJECT

/-- Status and counters (R56, R61, R62, R80–R82). -/
def statusObj (index sub : Nat) : Except Nat Obj :=
  if index = 0x02007F then onlySub sub .clampNext
  else if 0x020080 ≤ index ∧ index < 0x0200C0 then subRange 1 6 sub (.clamp (index - 0x020080) sub)
  else if index = 0x0207FF then onlySub sub .complNext
  else if 0x020800 ≤ index ∧ index < 0x020900 then subRange 1 4 sub (.compl (index - 0x020800) sub)
  else if index = 0x020100 ∨ index = 0x020101 then subRange 0 0x14 sub (.counter (index - 0x020100) sub)
  else if index = 0x020102 then subRange 1 7 sub (.counter 2 sub)
  else if index = 0x020103 then subRange 1 2 sub (.counter 3 sub)
  else .error stNO_OBJECT

/-- Kind of a command object (R51 and the command tables of the chapters). -/
def commandKind (index : Nat) : Option Nat :=
  let operating : List Nat := [0x030301, 0x030700, 0x030701, 0x030A01, 0x030A02, 0x030B01, 0x030C04]
  let security : List Nat := [0x030C00, 0x030C01, 0x030C02, 0x030C03, 0x030C06, 0x030C07, 0x031000]
  let service : List Nat := [0x030F00, 0x030F01]
  let config : List Nat := [0x030200, 0x030300, 0x030702, 0x030703, 0x030800, 0x030A00, 0x030B00, 0x030C05, 0x030D00, 0x031001]
  if operating.contains index then some 0
  else if config.contains index || decide (0x030901 ≤ index) && decide (index ≤ 0x030908)
    || decide (0x030E00 ≤ index) && decide (index ≤ 0x030E06) then some 1
  else if security.contains index then some 2
  else if service.contains index then some 3
  else none

/-- The largest DOMAIN of R14, for a domain whose size no rule declares. -/
def domainMax : Nat := 4294967295

/-- Domains of the slices (R311, R353, R354, R420, R424, R446, R451, R452): read-only, and the largest size. -/
def sliceDomainSpec (d : Nat) : Option (Bool × Nat) :=
  if d < 0x48 then some (false, domainMax)
  else if d = 0x48 ∨ d = 0x5C ∨ d = 0x7E then some (true, 0)
  else if 0x50 ≤ d ∧ d < 0x54 ∨ 0x58 ≤ d ∧ d < 0x5C ∨ d = 0x7F then some (false, domainMax)
  else none

/-- Every domain object: read-only, and the largest size (R79 and the owning chapters). -/
def domainSpec (index : Nat) : Option (Bool × Nat) :=
  if 0x048000 ≤ index then (if index < 0x04C000 then sliceDomainSpec ((index - 0x048000) % 0x80) else none)
  else if 0x040600 ≤ index ∧ index < 0x040640 then some (true, 0)
  else match index with
    | 0x040200 => some (false, 131072)
    | 0x040201 => some (false, 8192)
    | 0x040300 => some (false, 32768)
    | 0x040400 => some (false, 32768)
    | 0x040401 => some (false, 32768)
    | 0x040500 => some (false, 131072)
    | 0x040501 => some (false, 4194304)
    | 0x040700 => some (true, 0)
    | 0x040701 => some (true, 0)
    | 0x040800 => some (false, 4096)
    | 0x040801 => some (false, 65536)
    | 0x040900 => some (false, 10240)
    | 0x040901 => some (true, 0)
    | 0x040902 => some (false, 188)
    | 0x040903 => some (true, 0)
    | 0x040904 => some (false, 16384)
    | 0x040905 => some (true, 0)
    | 0x040A00 => some (false, 268435456)
    | 0x040A01 => some (true, 0)
    | 0x040B00 => some (false, domainMax)
    | 0x040B01 => some (true, 0)
    | 0x040C00 => some (true, 0)
    | 0x040C01 => some (true, 0)
    | 0x040D00 => some (false, 1024)
    | 0x040D01 => some (false, 6144)
    | 0x040D10 => some (true, 0)
    | 0x040D11 => some (true, 0)
    | _ => none

/-- The object of an index and a subindex, or NO_OBJECT or NO_SUBINDEX (R46). -/
def State.findObj (s : State) (index sub : Nat) : Except Nat Obj :=
  if index < 0x1000 then s.identObj index sub
  else if index < 0x10000 then (match objAddr index with
    | some a => s.regObj a sub
    | none => .error stNO_OBJECT)
  else if index < 0x20000 then s.sliceObj index sub
  else if index < 0x30000 then statusObj index sub
  else if index < 0x40000 then (match commandKind index with
    | some k => onlySub sub (.command k)
    | none => .error stNO_OBJECT)
  else if index < 0x50000 then (match domainSpec index with
    | some (ro, n) => onlySub sub (.domain ro n)
    | none => .error stNO_OBJECT)
  else if 0x80000 ≤ index ∧ index < 0x90000 then subRange 1 9 sub (.peer (index - 0x80000) sub)
  else if 0x100000 ≤ index ∧ index < 0x140000 then subRange 0 6 sub (.signal (index - 0x100000) sub)
  else .error stNO_OBJECT

/-- The type of an object (R14). -/
def State.objType (s : State) (o : Obj) : Nat :=
  match o with
  | .const t _ => t
  | .mgmt k => ([tyU32, tyBOOL, tyU16, tyU8, tyENUM, tyU16, tyBOOL] : List Nat).getD k 0
  | .reg _ => tyU32
  | .grant _ _ f => ([tyENUM, tyU32, tyU32, tyBITS] : List Nat).getD (f - 1) 0
  | .label _ => tySTR
  | .clampNext => tyU8
  | .clamp _ f => ([tyHANDLE, tyU32, tyU64, tyU64, tyENUM, tyTIME96] : List Nat).getD (f - 1) 0
  | .complNext => tyU8
  | .compl _ f => ([tyHANDLE, tyU8, tyU32, tyTIME96] : List Nat).getD (f - 1) 0
  | .counter _ _ => tyU32
  | .command _ => 0
  | .domain _ _ => tyDOMAIN
  | .peer _ f => ([tyENUM, tyU64, tyU16, tyU16, tySTR, tyU32, tyENUM, tyTIME96, tyU64] : List Nat).getD (f - 1) 0
  | .signal n f =>
    ([(s.signal n).vtype, tyBITS, tyTIME96, tyBOOL, (s.signal n).vtype, tyU8, tyENUM] : List Nat).getD f 0

/-- The bytes of an object's value, none for a string. -/
def State.objSize (s : State) (o : Obj) : Option Nat :=
  let t := s.objType o
  if t = tySTR then none
  else match o with
    | .grant _ _ 4 => some 1
    | .signal _ 1 => some 2
    | _ => some (typeSize t)

/-- A field that software writes. -/
def Fld.writable (f : Fld) : Bool := f.acc = .rw || f.acc = .rwb || f.acc = .wo || f.acc = .w1c || f.acc = .w1s

/-- An object that a write may change; the others are RO (R55). -/
def objWritable (o : Obj) : Bool :=
  match o with
  | .mgmt _ => true
  | .reg a => (Reg.fieldsAt a).any fun fi => fi.1.writable
  | .grant _ _ _ => true
  | .label _ => true
  | .peer _ f => f < 7
  | .signal _ f => f = 3 || f = 4
  | .domain ro _ => !ro
  | _ => false

/-! ### Rights (R49–R52) -/

/-- What a request does with an object. -/
inductive Right where
  | r | w | x
  deriving DecidableEq, Repr

/-- Role and slice of a request (R49, R85): a manager's request keeps the role of its submission. Wheelhouse's own requests
act as the Engineer. -/
def State.roleOf (s : State) (r : Request) : Nat × Nat :=
  match r.src with
  | .session id => match s.wh.sessions.find? fun x => x.id = id with
    | some x => (x.role, x.slice)
    | none => (0, 0)
  | .manager _ => (r.gen, 0)
  | .slice sl => (5, sl)
  | .block _ => (2, 0)
  | .wheelhouse => (2, 0)

/-- Diagnostic domains: the recovery report, the fault map and the Logbook's areas (R50, R596; log entry 29). -/
def diagDomain (index : Nat) : Bool := index = 0x040C00 || index = 0x040C01 || index = 0x040D10 || index = 0x040D11

/-- A role's right on the domain range (R50, R51, R596): the key and user domains are those of the Binnacle. -/
def domainRight (role sl index : Nat) (op : Right) : Bool :=
  match role with
  | 2 => op ≠ .x
  | 3 => op ≠ .x && decide (0x040900 ≤ index) && decide (index < 0x040A00) || op = .r && (index = 0x040D10 || index = 0x040D11)
  | 4 => op = .r && diagDomain index
  | 5 => op ≠ .x && decide (0x048000 + sl * 0x80 ≤ index) && decide (index < 0x048000 + sl * 0x80 + 0x80)
  | _ => false

/-- A role's right on a command (R50, R51); the Slice role's own commands are checked with their arguments. -/
def commandRight (role index : Nat) : Bool :=
  match commandKind index with
  | none => decide (0 < role) && decide (role < 5)
  | some k => match role with
    | 1 => k = 0
    | 2 => k < 2
    | 3 => k = 2
    | 4 => k = 3
    | 5 => ([0x030700, 0x030701, 0x030702, 0x030703, 0x030800, 0x030A00, 0x030A01, 0x030A02, 0x030B01] : List Nat).contains index
    | _ => false

/-- The rights of R50. -/
def State.right (s : State) (r : Request) (index sub : Nat) (op : Right) : Bool :=
  let (role, sl) := s.roleOf r
  if index < 0x1000 then op = .r || op = .w && role = 2
  else if index < 0x10000 then
    if 0xC000 ≤ index ∧ index < 0xD000 then op ≠ .x && role = 3
    else op = .r && role < 5 || op = .w && role = 2
  else if index < 0x20000 then
    if role = 5 then (index - 0x10000) / 0x200 = sl && (op = .r || op = .w && (index - 0x10000) % 0x200 = 0x1E0)
    else op = .r && role < 4 || op = .w && role = 2
  else if index < 0x30000 then op = .r && role < 5
  else if index < 0x40000 then op = .x && commandRight role index
  else if index < 0x50000 then domainRight role sl index op
  else if 0x80000 ≤ index ∧ index < 0x90000 then op = .r && role < 5 || op = .w && role = 2
  else if 0x100000 ≤ index ∧ index < 0x140000 then
    if role = 5 then op = .r && sub ≠ 3 && sub ≠ 4 && s.granted sl 2 (index - 0x100000) 0
    else if sub = 3 ∨ sub = 4 then op = .r && role < 4 || op = .w && (role = 1 || role = 2)
    else op = .r && role < 4
  else true

/-! ### Reads -/

/-- A register read through its object, with the side effects of RC and of latching reads (R13, R146, R176, R488). -/
def State.readReg (s : State) (a : Nat) : Nat × State :=
  let s := (if a = Reg.stx_STX_TIME_SEC_LO.base then s.latchTime else s).refresh a
  let v := s.readWord a
  ((Reg.fieldsAt a).foldl (fun (s : State) fi => s.clearOnRead fi.1 fi.2) s).adcRead a v

/-- A write of a peer entry made in it. -/
def PeerWrite.make (w : PeerWrite) (p : Peer) : Peer :=
  match w.field with
  | 1 => { p with kind := w.value }
  | 2 => { p with mac := w.value }
  | 3 => { p with vlan := w.value }
  | 4 => { p with appid := w.value }
  | 5 => { p with reference := w.text }
  | _ => { p with fleet := w.value }

/-- A peer entry as it was last written (R13, R65). -/
def State.peerWritten (s : State) (p : Nat) : Peer :=
  let b := Tbl.look ({} : Peer) s.newestEpoch.peers p
  let b := (s.net.changes.flatMap (·.peers)).foldl (fun (b : Peer) e => if e.1 = p then e.2 else b) b
  s.wh.peerWrites.foldl (fun (b : Peer) w => if w.peer = p then w.make b else b) b

/-- A grant entry as it was last written. -/
def State.grantWritten (s : State) (sl g : Nat) : Grant :=
  (s.sli sl).grantPend.foldl (fun (x : Grant) p => if p.1 = g then (match p.2.1 with
    | 1 => { x with kind := p.2.2.1 }
    | 2 => { x with first := p.2.2.1 }
    | 3 => { x with count := p.2.2.1 }
    | _ => { x with rights := p.2.2.1 }) else x) (Tbl.look ({} : Grant) (s.sli sl).grants g)

/-- A management access value (R49). -/
def State.mgmt (s : State) (k : Nat) : Nat :=
  match k with
  | 0 => s.wh.fleet
  | 1 => b2n s.wh.fleetAssigned
  | 2 => s.wh.idleTimeout
  | 3 => s.wh.maxSessions
  | 4 => s.wh.mgrRole
  | 5 => s.wh.mgmtVlan
  | _ => b2n s.wh.switchedEn

/-- The value of an object in its wire form, big-endian (R9, R14), and the state after the read. -/
def State.readObj (s : State) (o : Obj) : Bytes × State :=
  let n := (s.objSize o).getD 0
  match o with
  | .const _ v => (v, s)
  | .mgmt k => (beBytes n (s.mgmt k), s)
  | .reg a => ((beBytes 4 (s.readReg a).1), (s.readReg a).2)
  | .grant sl g f =>
    let x := s.grantWritten sl g
    (match f with
      | 1 => beBytes 2 x.kind
      | 2 => beBytes 4 x.first
      | 3 => beBytes 4 x.count
      | _ => beBytes 1 x.rights, s)
  | .label sl => ((s.sli sl).label, s)
  | .clampNext => (beBytes 1 s.wh.clampNext, s)
  | .clamp e f =>
    let x := Tbl.look ({} : ClampEntry) s.wh.clamps e
    (match f with
      | 1 => beBytes 4 x.requester
      | 2 => beBytes 4 x.object
      | 3 => beBytes 8 x.written
      | 4 => beBytes 8 x.applied
      | 5 => beBytes 2 x.reason
      | _ => time96 x.time, s)
  | .complNext => (beBytes 1 s.wh.complNext, s)
  | .compl e f =>
    let x := Tbl.look ({} : ComplEntry) s.wh.completions e
    (match f with
      | 1 => beBytes 4 x.handle
      | 2 => beBytes 1 x.status
      | 3 => beBytes 4 x.result
      | _ => time96 x.time, s)
  | .counter ii ss => (beBytes 4 (Tbl.look 0 s.wh.counters (ii * 256 + ss)), s)
  | .command _ => ([], s)
  | .domain _ _ => ([], s)
  | .peer p f =>
    let x := s.peerWritten p
    let y := Tbl.look ({} : Peer) s.wh.peers p
    (match f with
      | 1 => beBytes 2 x.kind
      | 2 => beBytes 8 x.mac
      | 3 => beBytes 2 x.vlan
      | 4 => beBytes 2 x.appid
      | 5 => x.reference
      | 6 => beBytes 4 x.fleet
      | 7 => beBytes 2 y.state
      | 8 => time96 y.lastSeen
      | _ => beBytes 8 y.frames, s)
  | .signal k f =>
    let x := s.signal k
    (match f with
      | 0 => beBytes n (s.readSignal k).1
      | 1 => leBytes 2 x.quality
      | 2 => time96 x.time
      | 3 => beBytes 1 (b2n x.forceEn)
      | 4 => beBytes n x.forceVal
      | 5 => beBytes 1 x.writer
      | _ => beBytes 2 x.vtype, s)

/-! ### Writes (R53–R56) -/

/-- Who writes: the requester of the clamp report, the commit that the write belongs to, and the link of a mailbox for
the INFO of R113. -/
structure Writer where
  who : Nat
  txn : Option Nat := none
  link : Nat := 0
  deriving DecidableEq, Repr

/-- The first 8 bytes of a value, zero-extended (R56). -/
def first8 (v : Bytes) : Nat := ofBe (v.take 8)

/-- What a field takes when a value is written through an object, and the clamp reason, 0 for none (R53). -/
def Fld.clampWrite (f : Fld) (cur v : Nat) : Nat × Nat :=
  match f.clamp with
  | .any => (v, 0)
  | .range lo hi => if v < lo then (lo, 1) else if hi < v then (hi, 2) else (v, 0)
  | .srange lim =>
    let x := toSigned f.wid v
    if x < -(lim : Int) then (ofSigned f.wid (-(lim : Int)), 1) else if (lim : Int) < x then (ofSigned f.wid lim, 2) else (v, 0)
  | .asVal lo hi w => if lo ≤ v ∧ v ≤ hi ∧ v ≠ w then (w, if w < v then 2 else 1) else (v, 0)
  | .keepAbove m => if m < v then (cur, 3) else (v, 0)
  | .bytesMin1 => let e := f.clamp.eff f.wid v; if e = v then (v, 0) else (e, 1)

/-- Clamps that depend on the port or the variant: SPEED of ports 0–19 (R176), a LANE_MODE that the port lacks (R151), and
MAX_AMBIENT (R625). -/
def State.clampField (s : State) (f : Fld) (i v : Nat) : Nat × Nat :=
  if f = Reg.prt_SPEED && i < 20 && v < 2 then (2, 1)
  else if f = Reg.prt_LANE_MODE && !laneAllowed i v then (s.lastWritten f i, 3)
  else if f = Reg.pwr_MAX_AMBIENT && s.ambientRange v ≠ v then (s.ambientRange v, 2)
  else f.clampWrite (s.lastWritten f i) v

/-- The next state of a command that Wheelhouse carries out. -/
def State.ran (s : State) (o : Host.Outcome State Fault Refusal) : State :=
  match o with
  | .next t => t
  | _ => s

/-- The number of a share field, if it is one (R396). -/
def shareNumber (f : Fld) : Option Nat :=
  ([Reg.slc_TOR_SHARE, Reg.slc_SCAN_SHARE, Reg.slc_BUF_SHARE, Reg.slc_BOB_COUNT, Reg.slc_DESC_SHARE, Reg.slc_CAP_SHARE].zip
    (List.range 6)).findSome? fun x => if x.1 = f then some x.2 else none

/-- A field whose write is a command of its own (R13), written through its object as the word `word`. -/
def State.writeOwn (s : State) (f : Fld) (i v word info : Nat) : State :=
  if f = Reg.stx_STEP_NOW then (if v = 1 then s.ran (execStepNow s) else s)
  else if f = Reg.stx_SET_TIME then (if v = 1 then s.ran (execSetTime s) else s)
  else if f = Reg.prt_LANE_MODE then s.writeLane i v (s.clampField Reg.prt_SPEED i (Reg.prt_SPEED.cut word)).1 info
  else if f = Reg.prt_LP_REQ then s.writeLp i (v != 0) info
  else if f = Reg.prt_PAUSE_IMMUNE then s.writeImmune i v info
  else if f = Reg.prt_MAX_FRAME then s.writeMaxFrame i v info
  else if f = Reg.unit_UNIT_EN then s.buffer f 0 v info
  else if f = Reg.unit_RELINQUISH then (if v = 1 then s.ran (execRelinquish s) else s)
  else if f = Reg.unit_TAKEOVER then (if v = 1 then s.ran (execTakeover s) else s)
  else if f = Reg.quad_QCLK then s.writeQclk i v info
  else if f = Reg.adcrq_START then (if v = 1 then s.ran (execAdcStart i s) else s)
  else if f = Reg.pwr_MAX_AMBIENT then s.writeAmbient v info
  else match shareNumber f with
    | some k => s.writeShare k i v info none 0
    | none => s

/-- The buffered write of a key belongs to a commit and a requester. -/
def State.stamp (s : State) (key : Nat) (w : Writer) : State :=
  { s with hif := { s.hif with shadow := s.hif.shadow.map fun (b : Buffered) =>
      if b.key = key && b.txn.isNone then { b with txn := w.txn, who := w.txn.getD w.who } else b } }

/-- The buffered write of a key no longer belongs to this commit: a later write of the same commit takes its place. -/
def State.unstamp (s : State) (key : Nat) (w : Writer) : State :=
  { s with hif := { s.hif with shadow := s.hif.shadow.map fun (b : Buffered) =>
      if b.key = key && w.txn.isSome && b.txn = w.txn then { b with txn := none } else b } }

/-- One field written through its object, and the clamp reason. -/
def State.writeObjField (s : State) (f : Fld) (i word info : Nat) (w : Writer) : Nat × State :=
  if !f.writable then (0, s)
  else
    let (y, r) := s.clampField f i (f.cut word)
    let key := f.key i
    let s := s.unstamp key w
    let s := if r = 3 then s else if f.own then s.writeOwn f i y word info else s.writeField f i y info
    let s := s.stamp key w
    let held := (f.acc = .rw || f.acc = .rwb) && s.lastWritten f i ≠ y
    (if r ≠ 0 then r else if held then 7 else 0, s)

/-- A register written through its object: each clamped field has a clamp entry of the whole word (R53, R56). Answers
whether a value was clamped, and the word as it then reads. -/
def State.writeReg (s : State) (a v object : Nat) (w : Writer) : Bool × Nat × State :=
  let info := a % 2 ^ 24 + 2 ^ 30 + w.link * 2 ^ 31
  let (rs, s) := (Reg.fieldsAt a).foldl (fun (z : List Nat × State) fi =>
    let (r, t) := z.2.writeObjField fi.1 fi.2 v info w
    (if r = 0 then z.1 else z.1 ++ [r], t)) ([], s)
  let word := s.readWord a
  (!rs.isEmpty, word, rs.foldl (fun (s : State) r => s.clampReport w.who object v word r) s)

/-- The configuration CRC of a block once its buffered writes have applied. -/
def State.futureCrc (s : State) (b : Nat) : Nat :=
  ((s.hif.shadow.filter fun x => x.blk = b && decide (x.bnd ≠ .cfgRef)).foldl State.applyOne s).cfgCrc b

/-- While AUTO is 1, Wheelhouse writes the reference of a block whose configuration it has changed (R107). -/
def State.autoRef (s : State) (b : Nat) : State :=
  if s.flag Reg.evt_AUTO && b < 19 then s.bufferRef b (s.futureCrc b) else s

/-- The block whose reference follows a write of an object. -/
def objBlock (o : Obj) : Option Nat :=
  match o with
  | .reg a => ((Reg.fieldsAt a).head?).map fun fi => fi.1.blk
  | _ => none

/-- A management access value clamped: applied, and the reason (R49, R53). -/
def mgmtClamp (k v : Nat) : Nat × Nat :=
  let range := fun lo hi => if v < lo then (lo, 1) else if hi < v then (hi, 2) else (v, 0)
  let bool := if v < 2 then (v, 0) else (1, 9)
  match k with
  | 0 => if v < 2 ^ 20 then (v, 0) else (v % 2 ^ 20, 4)
  | 1 => bool
  | 2 => range 10 3600
  | 3 => range 1 16
  | 4 => range 0 2
  | 5 => range 0 4094
  | _ => bool

/-- A management access value in force at once (R49). -/
def State.setMgmt (s : State) (k v : Nat) : State :=
  { s with wh := (match k with
    | 0 => { s.wh with fleet := v }
    | 1 => { s.wh with fleetAssigned := v != 0 }
    | 2 => { s.wh with idleTimeout := v }
    | 3 => { s.wh with maxSessions := v }
    | 4 => { s.wh with mgrRole := v }
    | 5 => { s.wh with mgmtVlan := v }
    | _ => { s.wh with switchedEn := v != 0 }) }

/-- A number of a peer entry clamped (R65); `cur` is the Kind last written. -/
def peerClamp (f cur v : Nat) : Nat × Nat :=
  match f with
  | 1 => if v ≤ 5 then (v, 0) else (cur, 3)
  | 2 => if v < 2 ^ 48 then (v, 0) else (v % 2 ^ 48, 4)
  | 3 => if v ≤ 4094 then (v, 0) else (4094, 2)
  | 6 => if v < 2 ^ 20 then (v, 0) else (v % 2 ^ 20, 4)
  | _ => (v, 0)

/-- A clamp entry where there is a reason. -/
def State.clampIf (s : State) (w : Writer) (object written applied reason : Nat) : State :=
  if reason = 0 then s else s.clampReport w.who object written applied reason

/-- A value of the right type and length written to an object (R53–R56): whether it was clamped, the applied value in wire
form, and the state. A grant's First and Count are checked when they apply (R399). -/
def State.writeObj (s : State) (o : Obj) (object : Nat) (v : Bytes) (w : Writer) : Bool × Bytes × State :=
  let x := ofBe v
  match o with
  | .mgmt k =>
    let (y, r) := mgmtClamp k x
    (decide (r ≠ 0), beBytes v.length y, (s.setMgmt k y).clampIf w object x y r)
  | .reg a =>
    let (c, y, s) := s.writeReg a x object w
    (c, beBytes 4 y, s)
  | .grant sl g f =>
    let (y, r) : Nat × Nat := if f = 1 then (if x ≤ 2 then (x, 0) else ((s.grantWritten sl g).kind, 3))
      else if f = 4 then (x % 4, if x < 4 then 0 else 4) else (x, 0)
    let s := if r = 3 then s else s.writeGrant sl g f y (w.txn.getD w.who)
    (decide (r ≠ 0), beBytes v.length y, s.clampIf w object x y r)
  | .label sl =>
    let y := strClamp 32 v
    let r := if y = v then 0 else 5
    (decide (r ≠ 0), y, (s.setSli sl { s.sli sl with label := y }).clampIf w object (first8 v) (first8 y) r)
  | .peer p f =>
    if f = 5 then
      let y := strClamp 129 v
      let r := if y = v then 0 else 5
      let e : PeerWrite := { peer := p, field := f, text := y, at_ := s.mono, txn := w.txn }
      (decide (r ≠ 0), y, State.clampIf { s with wh := { s.wh with peerWrites := s.wh.peerWrites ++ [e] } } w object (first8 v) (first8 y) r)
    else
      let (y, r) := peerClamp f (s.peerWritten p).kind x
      let e : PeerWrite := { peer := p, field := f, value := y, at_ := s.mono, txn := w.txn }
      let s : State := if r = 3 then s else { s with wh := { s.wh with peerWrites := s.wh.peerWrites ++ [e] } }
      (decide (r ≠ 0), beBytes v.length y, s.clampIf w object x y r)
  | .signal n f =>
    if f = 3 then
      let r := if x < 2 then 0 else 9
      let (on, t) := (s.clampIf w object x 1 r).forceEnable n (x != 0) w.who
      (decide (r ≠ 0) || (x != 0) != on, [BitVec.ofNat 8 (b2n on)], t)
    else
      let (y, r) := forceClamp (s.signal n).vtype x
      (decide (r ≠ 0), beBytes v.length y, (s.ran (execForceWrite n none y w.who s)).clampIf w object x y r)
  | _ => (false, v, s)

/-! ### Peers at a Window boundary (R65, R186) -/

/-- The peer writes that landed 2 ms before the boundary join one change, which becomes current at it; while a change
waits for room among the live versions, they join that one. -/
def State.joinPeers (s : State) : State :=
  let due := s.wh.peerWrites.filter fun w => w.at_ + 2 * unitsMs ≤ s.mono
  if due.isEmpty then s
  else
    let ps := (due.map (·.peer)).eraseDups
    let old := fun (p : Nat) => (s.net.changes.flatMap (·.peers)).foldl
      (fun (b : Peer) e => if e.1 = p then e.2 else b) (Tbl.look ({} : Peer) s.newestEpoch.peers p)
    let new := ps.map fun p => (p, due.foldl (fun (b : Peer) w => if w.peer = p then w.make b else b) (old p))
    let hs := (due.filterMap (·.txn)).eraseDups
    let s : State := { s with wh := { s.wh with peerWrites := s.wh.peerWrites.filter fun w => !due.contains w } }
    match s.net.changes.getLast? with
    | some c =>
      { s with net := { s.net with
        changes := s.net.changes.dropLast ++ [{ c with peers := c.peers ++ new, txns := c.txns ++ hs }] } }
    | none =>
      let full := decide (4 ≤ s.net.epochs.length)
      let s := s.submitChange { peers := new, txns := hs }
      if full then s else s.activateAll

end Sys2Proof.Machine
end

