-- ==== Sys2Proof/Machine/Update.lean ====
section
/-!
DEFINITION. Firmware and settings update (chapter 19), and how Wheelhouse starts from its settings (R536).
-/

namespace Sys2Proof.Machine

/-! ### Refusals (R559) -/

def upPkgFormat : Nat := 0x0201
def upPkgIncomplete : Nat := 0x0202
def upWrongTarget : Nat := 0x0203
def upSigEc : Nat := 0x0204
def upSigHss : Nat := 0x0205
def upDigest : Nat := 0x0206
def upRollback : Nat := 0x0207
def upIncompat : Nat := 0x0208
def upTrialOpen : Nat := 0x0209
def upNotInstalled : Nat := 0x020A
def upPairActive : Nat := 0x020B
def upHoldup : Nat := 0x020C
def upNoTrial : Nat := 0x020D
def upFlashFail : Nat := 0x020E
def upSettingsFormat : Nat := 0x020F

/-- An update command is refused: counters, LAST_REASON and LAST_COMP, and the handle (R554, R559). -/
def State.updRefused (s : State) (h reason : Nat) (comp : Nat := 0) : State :=
  let s := s.count Reg.upd_UPD_REFUSE
  let s := if upSigEc ≤ reason ∧ reason ≤ upDigest then s.count Reg.upd_UPD_SIG_FAIL
    else if reason = upRollback then s.count Reg.upd_UPD_ROLLBACK
    else if reason = upFlashFail then s.count Reg.upd_UPD_FLASH_FAIL else s
  let s := (s.wr Reg.upd_LAST_REASON 0 reason).wr Reg.upd_LAST_COMP 0 comp
  s.complete h stREFUSED (reason + if reason = upIncompat then comp * 2 ^ 16 else 0)

/-- A trial runs (R557). -/
def State.inTrial (s : State) : Bool := (s.fwRec).trial

/-- MOD_STATE is HOLDUP (R539). -/
def State.inHoldup (s : State) : Bool := s.pwr.holdAt.isSome

/-! ### Checks of a package (R552–R554) -/

/-- Numbers that rise strictly. -/
def risingFrom : Nat → List Nat → Bool
  | _, [] => true
  | lo, x :: xs => decide (lo ≤ x) && risingFrom (x + 1) xs

/-- The magic "UPM1". -/
def upm1 : Bytes := ascii [0x55, 0x50, 0x4D, 0x31]

/-- Step 1 of R552: the format of a manifest in a package of `len` bytes. -/
def manFormOk (m : Bytes) (len : Nat) : Bool :=
  let es := manEntries m
  m.take 4 = upm1 && le 4 2 m = 1 && 1 ≤ manCount m && manCount m ≤ 5 && le 12 4 m = manLen m && manLen m ≤ len
    && manPkgLen m ≤ len && risingFrom 1 (es.map entComp)
    && es.all fun e => entComp e ≤ 5 && entImgOff e % 1024 = 0 && 1 ≤ entImgLen e && entImgLen e ≤ slotSize (entComp e)
      && entImgOff e + entImgLen e ≤ manPkgLen m

/-- The entries of components 1–5 in the slots that the record names. -/
def State.activeSet (s : State) : List (Nat × Bytes) :=
  ([1, 2, 3, 4, 5] : List Nat).filterMap fun c =>
    (manEntry (s.fwSlot c ((s.fwRec).named c)).man c).map fun e => (c, e)

/-- The first pair of a set that does not fit: the requiring and the required component. -/
def setClash (l : List (Nat × Bytes)) : Option (Nat × Nat) :=
  l.findSome? fun a => l.findSome? fun b =>
    let q := entReq a.2 b.1
    if a.1 ≠ b.1 && !(q.1 ≤ entIfRev b.2 && entIfRev b.2 ≤ q.2) then some (a.1, b.1) else none

/-- The package's components applied one at a time, in the order of R554: the first pair that does not fit. -/
def compatClash (m : Bytes) : List Nat → List (Nat × Bytes) → Option (Nat × Nat)
  | [], _ => none
  | c :: cs, l => match manEntry m c with
    | none => compatClash m cs l
    | some e =>
      let l := ((l.filter fun x => x.1 < c) ++ [(c, e)]) ++ l.filter fun x => c < x.1
      match setClash l with
      | some x => some x
      | none => compatClash m cs l

/-- The staged manifest, as far as PKG_LEN and the longest manifest reach. -/
def State.stagedMan (s : State) : Bytes :=
  let m := s.domBytes 0x040A00 0 (min s.stagedLen 6516)
  m.take (manLen m)

/-- The checks of R552 in order: the manifest, or the reason and the component. -/
def State.checkPackage (s : State) : Except (Nat × Nat) Bytes :=
  let m := s.stagedMan
  let es := manEntries m
  let r := s.fwRec
  if !manFormOk m s.stagedLen then .error (upPkgFormat, 0)
  else if le 24 2 m ≠ 0x4201 || !bit s.ident.variant (le 26 2 m) then .error (upWrongTarget, 0)
  else if !sigEcOk m then .error (upSigEc, 0)
  else if !sigHssOk m then .error (upSigHss, 0)
  else match es.find? fun e => Config.sha384 (s.domBytes 0x040A00 (entImgOff e) (entImgLen e)) ≠ entDigest e with
    | some e => .error (upDigest, entComp e)
    | none => match es.find? fun e => entSecVer e < r.min (entComp e) with
      | some e => .error (upRollback, entComp e)
      | none => match compatClash m [3, 4, 5, 2, 1] s.activeSet with
        | some (a, b) => .error (upIncompat, a + b * 2 ^ 8)
        | none => .ok m

/-! ### Installation (R517, R552) -/

/-- A slot of a component replaced. -/
def State.setFwSlot (s : State) (c b : Nat) (x : FwSlot) : State :=
  { s with upd := { s.upd with slots := Tbl.put ({} : FwSlot) s.upd.slots (2 * (c - 1) + b) x } }

/-- UPD_INSTALL (R552): a COMPLETE staging is checked; its images then go into the slots that the record does not name,
which count as unverified meanwhile (R567). -/
def execUpdInstall (src : Requester) (s : State) : Host.Outcome State Fault Refusal :=
  .next (
    let (h, s) := s.newHandle src
    if s.inTrial then s.updRefused h upTrialOpen
    else if s.raw Reg.upd_STAGE ≠ 2 then s.updRefused h upPkgIncomplete
    else match s.checkPackage with
      | .error (r, c) => (s.raise 93 0x0103 r).updRefused h r c
      | .ok m =>
        let r := s.fwRec
        let s := (manEntries m).foldl (fun (s : State) e => s.setFwSlot (entComp e) (1 - r.named (entComp e)) {}) (s.raise 93 0x0102 0)
        State.syncStage { s with upd := { s.upd with installing := some h } })

/-- The expected C5: the digests of a manifest, and those of the components it leaves alone (R499, R517). -/
def State.expectedChain (s : State) (m : Bytes) : Bytes :=
  (List.range 5).foldl (fun (c : Bytes) k =>
    Config.sha384 (c ++ match manEntry m (k + 1) with
      | some e => entDigest e
      | none => s.bnc.digests.getD k [])) (List.replicate 48 0)

/-- The reseal area is prepared for a manifest whose signatures the Binnacle verifies (R517). The spec names no reason for
a signature that fails here: IMPORT_AUTH is the model's (log entry 24). -/
def State.prepareReseal (s : State) (m : Bytes) (handle : Option Nat) : State :=
  let refuse := fun (s : State) (r : Nat) => match handle with
    | some h => s.bncRefused h r
    | none => s.bncRefuse r
  match s.changeBar with
  | some r => refuse s r
  | none =>
    if !(sigEcOk m && sigHssOk m) then refuse s rsImportAuth
    else s.queueCommit { what := 7, data := [s.expectedChain m], handle := handle }

/-- BNC_PREPARE_RESEAL (R517). -/
def execBncPrepareReseal (src : Requester) (s : State) : Host.Outcome State Fault Refusal :=
  .next (
    let (h, s) := s.newHandle src
    s.prepareReseal s.stagedMan (some h))

/-- INSTALL_COMPLETE (R552): the flash writes and read-backs finish; in HOLDUP they wait (R539). -/
def execInstallComplete (ok : Bool) (s : State) : Host.Outcome State Fault Refusal :=
  .next (match s.upd.installing with
    | none => s
    | some h =>
      if !s.wheelRuns || s.inHoldup then s
      else
        let s : State := { s with upd := { s.upd with installing := none } }
        if !ok then (s.syncStage).updRefused h upFlashFail
        else
          let m := s.stagedMan
          let r := s.fwRec
          let s := (manEntries m).foldl (fun (s : State) e =>
            s.setFwSlot (entComp e) (1 - r.named (entComp e)) { man := m, image := s.domBytes 0x040A00 (entImgOff e) (entImgLen e) }) s
          let s := if s.raw Reg.bnc_LS_STATE = 0 then s else s.prepareReseal m none
          let s := State.syncStage { s with upd := { s.upd with installed := true } }
          (s.raise 94 0x0104 (manCount m)).complete h stOK)

/-! ### Activation, trial and fall-back (R556–R558) -/

/-- UPD_ACTIVATE (R556): the record of the trial is written, the handle completes, and the module makes a warm reset. -/
def execUpdActivate (src : Requester) (ok : Bool) (s : State) : Host.Outcome State Fault Refusal :=
  .next (
    let (h, s) := s.newHandle src
    let r := s.fwRec
    if s.inHoldup then s.updRefused h upHoldup
    else if s.raw Reg.upd_STAGE ≠ 4 then s.updRefused h upNotInstalled
    else if r.trial then s.updRefused h upTrialOpen
    else if s.raw Reg.unit_UNIT_STATE = 4 && s.flag Reg.unit_PARTNER_SEEN then s.updRefused h upPairActive
    else if !ok then (s.tearRec).updRefused h upFlashFail
    else
      let m := s.stagedMan
      let active := (manEntries m).foldl (fun (a : Nat) e => putBit (entComp e - 1) (!bit (entComp e - 1) r.active) a) r.active
      let s := s.putRec { r with active := active, prev := r.active, trial := true, left := 3, pkgId := manPkgId m }
      (s.complete h stOK).warmReset 3)

/-- What follows the moment of confirmation (R558): the reseal area becomes the journal, the other settings position is
erased, and the staging ends. -/
def State.confirmRest (s : State) : State :=
  let r := s.fwRec
  let s := if s.flag Reg.bnc_TRIAL && s.bnc.reseal.isSome && !(s.bnc.commits.any fun c => c.what = 6)
    then s.queueCommit { what := 6 } else s
  let s : State := { s with upd := { s.upd with gens := s.upd.gens.filter fun e => e.1 / 2 = r.setPos } }
  ((s.discardStage).syncUpd).raise 96 0x0106 r.active

/-- The trial is confirmed (R558): SEC_MIN rises to the SEC_VER of every running component, and SET_POS names the trial's
settings position. -/
def State.confirm (s : State) : State :=
  let r := s.fwRec
  let mins := (List.range 5).map fun k => max (r.min (k + 1)) (s.raw Reg.comp_SEC_VER k)
  (s.putRec { r with trial := false, secMin := mins, setPos := r.position }).confirmRest

/-- The trial is given up (R557): the fall-back record with cause 3, and a warm reset. -/
def State.revert (s : State) (h : Nat) : State :=
  let s := s.fallBack 13
  (s.complete h stOK).warmReset 3

/-- UPD_CONFIRM (R558). In HOLDUP no record write starts: it waits (R539). -/
def execUpdConfirm (src : Requester) (ok : Bool) (s : State) : Host.Outcome State Fault Refusal :=
  .next (
    let (h, s) := s.newHandle src
    if !s.inTrial then s.updRefused h upNoTrial
    else if s.inHoldup then { s with upd := { s.upd with waiting := s.upd.waiting ++ [(2, h)] } }
    else if !ok then (s.tearRec).updRefused h upFlashFail
    else (s.confirm).complete h stOK)

/-- UPD_REVERT (R557). In HOLDUP no record write starts: it waits (R539). -/
def execUpdRevert (src : Requester) (ok : Bool) (s : State) : Host.Outcome State Fault Refusal :=
  .next (
    let (h, s) := s.newHandle src
    if !s.inTrial then s.updRefused h upNoTrial
    else if s.inHoldup then { s with upd := { s.upd with waiting := s.upd.waiting ++ [(3, h)] } }
    else if !ok then (s.tearRec).updRefused h upFlashFail
    else s.revert h)

/-- Record writes that waited for the end of HOLDUP start (R540). -/
def State.deferred (s : State) : State :=
  let w := s.upd.waiting
  w.foldl (fun (s : State) x =>
    if !s.inTrial then (if s.wh.handles.any fun o => o.handle = x.2 then s.updRefused x.2 upNoTrial else s)
    else if x.1 = 2 then (s.confirm).complete x.2 stOK else s.revert x.2)
    { s with upd := { s.upd with waiting := [] } }

/-- SUPPLY_RETURN (R540): the supply is back above 8.8 V; deferred writes start. -/
def execSupplyReturn (t : Nat) (s : State) : Host.Outcome State Fault Refusal :=
  .next (match s.pwr.holdAt with
    | none => s
    | some h =>
      let s := (s.advance t).wr Reg.pwr_BROWNOUT 0 0
      let s : State := { s with pwr := { s.pwr with holdAt := none, runSince := if s.pwr.before = 1 then some s.mono else none } }
      let s := (s.wr Reg.pwr_MOD_STATE 0 s.pwr.before).raise 109 0x0102 ((s.mono - h) / unitsUs)
      (s.startCommits).deferred)

/-- AUTO_CONFIRM (R558): MOD_STATE has been RUN for AUTO_CONFIRM_S with DOM_FENCED at 0. -/
def execAutoConfirm (s : State) : Host.Outcome State Fault Refusal :=
  .next (match s.pwr.runSince with
    | none => s
    | some t0 =>
      let n := s.raw Reg.upd_AUTO_CONFIRM_S
      if n = 0 || !s.inTrial || !s.wheelRuns || s.raw Reg.pwr_MOD_STATE ≠ 1 || s.raw Reg.pwr_DOM_FENCED ≠ 0 then s
      else (s.advance (t0 + n * unitsSec)).confirm)

/-! ### Staging ends (R551) -/

/-- A staging is discarded with its event. -/
def State.dropStage (s : State) : State :=
  let n := s.stagedLen
  (s.discardStage).raise 92 0x0101 n

/-- UPD_DISCARD (R551, R559). While UPD_INSTALL reads the staging it completes with BUSY (DESIGN CHOICE, log entry 26). -/
def execUpdDiscard (src : Requester) (s : State) : Host.Outcome State Fault Refusal :=
  .next (
    let (h, s) := s.newHandle src
    if s.inTrial then s.updRefused h upTrialOpen
    else if s.upd.installing.isSome then s.complete h stBUSY
    else (if s.raw Reg.upd_STAGE = 0 then s.discardStage else s.dropStage).complete h stOK)

/-- STAGE_EXPIRY (R551): no block for 604,800 s of the operating-seconds counter. -/
def execStageExpiry (s : State) : Host.Outcome State Fault Refusal :=
  .next (if s.raw Reg.upd_STAGE = 0 || s.upd.installing.isSome || !s.wheelRuns then s
    else ((s.advance (s.upd.lastBlock + 604800 * unitsSec - s.opBase)).count Reg.upd_UPD_STAGE_EXPIRED).dropStage)

/-! ### The settings store (R561–R563) -/

/-- The current generation of a position: the one with the higher COUNTER, with its number. -/
def State.curGen (s : State) (p : Nat) : Option (Nat × SetGen) :=
  let a := Tbl.look ({} : SetGen) s.upd.gens (2 * p)
  let b := Tbl.look ({} : SetGen) s.upd.gens (2 * p + 1)
  if a.counter = 0 && b.counter = 0 then none
  else if a.counter < b.counter then some (2 * p + 1, b) else some (2 * p, a)

/-- Where a new generation of a position goes, and its COUNTER. -/
def State.nextGenAt (s : State) (p : Nat) : Nat × Nat :=
  match s.curGen p with
  | none => (2 * p, 1)
  | some (k, g) => (if k = 2 * p then 2 * p + 1 else 2 * p, g.counter + 1)

/-- A new generation of a position is written. -/
def State.newGen (s : State) (p sfmt : Nat) (recs : List SetRecord) : State :=
  let (k, n) := s.nextGenAt p
  let g : SetGen := { counter := n, sfmt := sfmt, created := s.tai, recs := recs }
  { s with upd := { s.upd with gens := Tbl.ins g s.upd.gens k } }

/-- A generation whose write fails its read-back: the one before it stays current (R562). -/
def State.failGen (s : State) (p : Nat) : State :=
  let (k, _) := s.nextGenAt p
  let s : State := { s with upd := { s.upd with gens := Tbl.drop s.upd.gens k } }
  (s.count Reg.upd_UPD_SET_WRITE_FAIL).raise 98 0x0109 0

/-- The formats that the running WHEELHOUSE reads (R547). -/
def State.readsFormat (s : State) (f : Nat) : Bool :=
  let q := entSfmt (s.runEntry 2)
  decide (q.1 ≤ f) && decide (f ≤ q.2.1)

/-- A record in its image form (R563). -/
def SetRecord.image (r : SetRecord) : Bytes :=
  leBytes 4 r.object ++ leBytes 1 r.type ++ leBytes 1 r.kind ++ [0, 0] ++ leBytes 4 r.bytes.length ++ List.replicate 4 0
    ++ padTo (cdiv r.bytes.length 8 * 8) r.bytes

/-- A generation as a settings image (R563). -/
def SetGen.image (g : SetGen) : Bytes :=
  let body := (g.recs.map SetRecord.image).flatten
  let head := [0x53, 0x54, 0x47, 0x31] ++ leBytes 2 1 ++ leBytes 2 g.sfmt ++ leBytes 8 g.counter ++ leBytes 4 (64 + body.length)
    ++ leBytes 4 g.recs.length
  let tail := time96le g.created ++ List.replicate 24 0
  head ++ leBytes 4 (crc32c (head ++ List.replicate 4 0 ++ tail ++ body)) ++ tail ++ body

/-- The records of an image. -/
def readSetRecs : Nat → Bytes → Option (List SetRecord)
  | 0, _ => some []
  | n + 1, b =>
    let len := le 8 4 b
    if b.length < 16 + len then none
    else (readSetRecs n (b.drop (16 + cdiv len 8 * 8))).map fun l =>
      { object := le 0 4 b, type := le 4 1 b, kind := le 5 1 b, bytes := slice 16 len b } :: l

/-- SFMT and the records of a settings image that is well formed. -/
def readSettings (b : Bytes) : Option (Nat × List SetRecord) :=
  let total := le 16 4 b
  if b.length < 64 || b.take 4 ≠ [0x53, 0x54, 0x47, 0x31] || le 4 2 b ≠ 1 || total < 64 || b.length < total || !crcHolds b 24 total then none
  else (readSetRecs (le 20 4 b) (slice 64 (total - 64) b)).map fun l => (le 6 2 b, l)

/-- The object of a register, where it has one in the block areas or in the slice areas (R47, R396). -/
def addrObj (a : Nat) : Option Nat :=
  let one := fun (base index n : Nat) => if base ≤ a ∧ a < base + 4 * n then some (index + (a - base) / 4) else none
  if 0x100000 ≤ a ∧ a < 0x600000 then
    let o := (a - 0x100000) % 0x80000
    if o < 0x4000 then some (((a - 0x100000) / 0x80000 + 1) * 0x1000 + o / 4) else none
  else if 0x980000 ≤ a ∧ a < 0x981000 then
    some (0x10000 + (a - 0x980000) / 0x20 * 0x200 + (a - 0x980000) % 0x20 / 4)
  else [one 0x600000 0xB000 0x800, one 0x880000 0xB800 0x800, one 0x680000 0xC000 0x1000, one 0x700000 0xD000 0x1000,
        one 0x780000 0xE000 0x800, one 0x800000 0xE800 0x800].findSome? id

/-- A field that the store keeps (R563). -/
def Fld.stored (f : Fld) : Bool := f.acc = .rw || f.acc = .rwb

/-- The value records of the registers: every RW and RWB configuration object, and the words of the slices. -/
def State.regRecords (s : State) : List SetRecord :=
  let addrs := addrsOf (Reg.all.filter fun f => f.stored && (addrObj f.base).isSome)
  addrs.filterMap fun a => (addrObj a).map fun x =>
    { object := x * 256, type := tyU32, kind := 1,
      bytes := leBytes 4 (((Reg.fieldsAt a).filter fun fi => fi.1.stored).map fun fi => s.lastWritten fi.1 fi.2 * 2 ^ fi.1.lo).sum }

/-- A value record of an object. -/
def State.valueRecord (s : State) (index sub : Nat) (o : Obj) : SetRecord :=
  let v := (s.readObj o).1
  let t := s.objType o
  { object := index * 256 + sub, type := t, kind := 1, bytes := if t = tySTR then v else v.reverse }

/-- The configuration of a peer entry alone (R65). -/
def Peer.config (p : Peer) : Peer := { p with state := 0, lastSeen := 0, frames := 0 }

/-- Peer entries that hold something (R65). -/
def State.peersUsed (s : State) : List Nat :=
  ((sortBy (fun a b => decide (a ≤ b)) ((s.newestEpoch.peers.map (·.1)) ++ (s.net.changes.flatMap fun c => c.peers.map (·.1))
    ++ s.wh.peerWrites.map (·.peer))).eraseDups).filter fun p => (s.peerWritten p).config ≠ {}

/-- The chain words of all slots, which domain 0x040400.00 holds (R282). -/
def State.chainWords (s : State) : Bytes :=
  (List.range 8192).flatMap fun c => leBytes 4 (s.lastWritten Reg.slot_S1_SEL c + 16 * s.lastWritten Reg.slot_S2_SEL c)

/-- Staged tables of the domain range (R563). -/
def stagedTables : List Nat :=
  [0x040200, 0x040201, 0x040300, 0x040401, 0x040500, 0x040501, 0x040800, 0x040801, 0x040D00, 0x040D01]

/-- The slice domains that the store holds: programs, instance sets, maps, scan programs and their maps (R563). -/
def keptSliceDomains : List Nat :=
  (List.range 0x48) ++ [0x50, 0x51, 0x52, 0x53, 0x58, 0x59, 0x5A, 0x5B]

/-- Everything that the store holds, in its order (R563). -/
def State.settings (s : State) : List SetRecord :=
  let mgmt := (List.range 7).map fun k => s.valueRecord (0x200 + k) 0 (.mgmt k)
  let slices := s.slices.flatMap fun e =>
    let base := 0x10000 + e.1 * 0x200
    ((List.range 256).filter fun g => s.grantWritten e.1 g ≠ {}).flatMap (fun g =>
      ([1, 2, 3, 4] : List Nat).map fun f => s.valueRecord (base + 0x10 + g) f (.grant e.1 g f))
    ++ if e.2.label.isEmpty then [] else [s.valueRecord (base + 0x1E0) 0 (.label e.1)]
  let peers := (s.peersUsed).flatMap fun p => ([1, 2, 3, 4, 5, 6] : List Nat).map fun f => s.valueRecord (0x80000 + p) f (.peer p f)
  let dom := fun (index : Nat) (b : Bytes) => ({ object := index * 256, type := tyDOMAIN, kind := 2, bytes := b } : SetRecord)
  let held := fun (index : Nat) => if (s.domain index 0).len = 0 then [] else [dom index (s.image index)]
  let chains := s.chainWords
  let doms := stagedTables.flatMap held
    ++ (if chains.all (· = 0) then [] else [dom 0x040400 chains])
    ++ (if s.bnc.users.isEmpty then [] else
        [dom 0x040900 ((List.range 64).flatMap fun u => padTo 160 (Tbl.look ([] : Bytes) s.bnc.users u))])
    ++ (List.range 128).flatMap fun sl => keptSliceDomains.flatMap fun d => held (sliceDom sl d)
  sortBy (fun a b => decide (a.object ≤ b.object)) (mgmt ++ s.regRecords ++ slices ++ peers ++ doms)
    ++ s.upd.admits.map fun a => { object := 0x03080000, type := tyU32, kind := 3, bytes := a }

/-- SETTINGS_WRITE (R562): the changes since the last generation are written as one; in HOLDUP the write waits. -/
def execSettingsWrite (ok : Bool) (s : State) : Host.Outcome State Fault Refusal :=
  .next (if (s.upd.dirty).isNone || s.inHoldup || !s.wheelRuns then s
    else
      let s : State := { s with upd := { s.upd with dirty := none } }
      let p := (s.fwRec).position
      if ok then s.newGen p (s.raw Reg.upd_SFMT_RUN) s.settings else s.failGen p)

/-- A generation given by a command is written, and the module makes a warm reset (R562). -/
def State.loadGen (s : State) (h sfmt : Nat) (recs : List SetRecord) (ok : Bool) : State :=
  let p := (s.fwRec).position
  if !ok then (s.failGen p).updRefused h upFlashFail
  else ((s.newGen p sfmt recs).complete h stOK).warmReset 3

/-- UPD_SET_LOAD (R562). An image that is not well formed is refused as its format is (DEDUCED, log entry 26). -/
def execUpdSetLoad (src : Requester) (ok : Bool) (s : State) : Host.Outcome State Fault Refusal :=
  .next (
    let (h, s) := s.newHandle src
    if s.inHoldup then s.updRefused h upHoldup
    else
      let b := s.image 0x040B00
      let s := s.releaseDomain 0x040B00
      match readSettings b with
      | none => s.updRefused h upSettingsFormat
      | some (f, l) => if !s.readsFormat f then s.updRefused h upSettingsFormat else s.loadGen h f l ok)

/-- UPD_SET_DEFAULTS (R562). -/
def execUpdSetDefaults (src : Requester) (ok : Bool) (s : State) : Host.Outcome State Fault Refusal :=
  .next (
    let (h, s) := s.newHandle src
    if s.inHoldup then s.updRefused h upHoldup else s.loadGen h (s.raw Reg.upd_SFMT_RUN) [] ok)

/-! ### Settings applied at start-up (R536, R561) -/

/-- A chain written through the domain of the chain words, and whether it was clamped (R280, R282). -/
def State.chainWrite (s : State) (c word : Nat) (w : Writer) : Bool × State :=
  let old := s.lastWritten Reg.slot_S1_SEL c + 16 * s.lastWritten Reg.slot_S2_SEL c
  let want := word % 256
  let held := s.slotRead c
  let s := s.ran (execFilterChainWrite c (want % 16) (want / 16) s)
  let s := (s.stamp (Reg.slot_S1_SEL.key c) w).stamp (Reg.slot_S2_SEL.key c) w
  let new := s.lastWritten Reg.slot_S1_SEL c + 16 * s.lastWritten Reg.slot_S2_SEL c
  if held && want ≠ old then (true, s.clampReport w.who 0x04040000 (c * 2 ^ 32 + word) old 7)
  else if !held && new ≠ want then (true, s.clampReport w.who 0x04040000 (c * 2 ^ 32 + word) new 3)
  else (false, s)

/-- A shadow that nears its 256 registers applies its writes, so that none is dropped: at start-up boundaries pass between
the values that Wheelhouse writes (log entry 26). -/
def State.drainShadow (s : State) (b : Nat) : State :=
  let n := ((s.hif.shadow.filter fun x => x.blk = b).map (·.addr)).eraseDups.length
  if n < 200 then s
  else if b = 5 then s.applyChains (s.chainDue none) 0
  else (if b = 17 then s.limitShares else s).applyBoundary fun x => x.blk = b

/-- The writer of a stored value. -/
def bootWriter : Writer := { who := 0xFFFF0000 }

/-- A stored value applied with clamping, none for an object that the running image does not implement (R563). -/
def State.applyValue (s : State) (r : SetRecord) : Option State :=
  match s.findObj (r.object / 256) (r.object % 256) with
  | .error _ => none
  | .ok o =>
    if !objWritable o || s.objType o ≠ r.type || s.objType o = tyDOMAIN || (s.objSize o).any (· ≠ r.bytes.length) then none
    else
      let v := if r.type = tySTR then r.bytes else r.bytes.reverse
      let t := (s.writeObj o r.object v bootWriter).2.2
      some (match objBlock o with
        | some b => t.drainShadow b
        | none => t)

/-- A stored domain applied. -/
def State.applyStoredDomain (s : State) (r : SetRecord) : Option State :=
  let index := r.object / 256
  match domainSpec index with
  | some (false, limit) =>
    if r.object % 256 ≠ 0 || limit < r.bytes.length then none
    else if index = 0x040400 then
      some ((List.range (r.bytes.length / 4)).foldl (fun (s : State) c => ((s.chainWrite c (le (4 * c) 4 r.bytes) bootWriter).2).drainShadow 5) s)
    else if index = 0x040900 then some ((s.fillDomain index r.bytes).applyUsers bootWriter.who).2
    else some (s.fillDomain index r.bytes)
  | _ => none

/-- A record applied; one that the image does not implement is skipped and logged, with values that nothing gives (R563). -/
def State.applyRecord (s : State) (r : SetRecord) : State :=
  let t := match r.kind with
    | 1 => s.applyValue r
    | 2 => s.applyStoredDomain r
    | 3 => some { s with upd := { s.upd with admits := s.upd.admits ++ [padTo 4 (r.bytes.take 4)] } }
    | _ => none
  match t with
  | some t => t
  | none =>
    let (c, s) := s.free (2 ^ 16)
    let (i, s) := s.free (2 ^ 32)
    s.logNote c i

/-- A slice whose settings hold admitted functions enters FROZEN with generation 0, with the PASID and LINK of its entry
(R536). -/
def State.freezeStored (s : State) : State :=
  let sls := (s.upd.admits.filterMap fun a => if le 0 1 a = 2 ∨ le 0 1 a = 4 then some (le 1 1 a) else none).eraseDups
  (sls.filter (· < 128)).foldl (fun (s : State) sl =>
    (s.setSli sl { s.sli sl with pasid := s.raw Reg.slc_PASID sl, link := s.raw Reg.slc_LINK sl }).wr Reg.slc_STATE sl 4) s

/-- The store that this boot applies, none for defaults: at the first trial boot that of the confirmed image, if the image
reads its format (R561). -/
def State.bootGen (s : State) : Option SetGen :=
  let r := s.fwRec
  let first := r.trial && r.left = 2
  match s.curGen (if first then r.setPos else r.position) with
  | none => none
  | some (_, g) => if s.readsFormat g.sfmt then some g else none

/-- SETTINGS_APPLY (R536, R558, R561): Wheelhouse finishes a confirmation that power cut short, applies the settings store,
and at the first trial boot writes it to the trial's position. -/
def execSettingsApply (t : Nat) (s : State) : Host.Outcome State Fault Refusal :=
  .next (if !s.wheelRuns || s.pwr.settled then s
    else
      let s := s.advance t
      let s : State := { s with pwr := { s.pwr with settled := true }, upd := { s.upd with admits := [] } }
      let r := s.fwRec
      let s := if !r.trial && s.flag Reg.bnc_TRIAL then s.confirmRest else s
      let g := s.bootGen
      let recs := (g.map (·.recs)).getD []
      let s := recs.foldl State.applyRecord s
      let filled := fun (s : State) (l : List Nat) => l.any fun d => (s.domain d 0).len ≠ 0
      let s := if filled s [0x040200, 0x040201] then s.ran (execClsCommit .wheelhouse s) else s
      let s := if filled s [0x040D00, 0x040D01] then s.ran (execLogApply .wheelhouse s) else s
      let s : State := { s with pwr := { s.pwr with capDue := filled s [0x040800, 0x040801] } }
      let s := s.freezeStored
      if r.trial && r.left = 2 then
        let s := (s.newGen r.position (s.raw Reg.upd_SFMT_RUN) recs).wrFlag Reg.upd_SET_FROM_DEFAULTS 0 g.isNone
        s.raise 98 0x0108 (b2n g.isNone)
      else s)

/-- READMISSION_START (R536): the Sextant is LOCKED or in PPS, or START_SYNC_S has passed since supply valid; the stored
functions are submitted in order. -/
def execReadmissionStart (t : Nat) (s : State) : Host.Outcome State Fault Refusal :=
  .next (if !s.wheelRuns || !s.pwr.settled || s.pwr.started || s.pwr.boot.isSome then s
    else
      let s := s.advance t
      let st := s.raw Reg.stx_STATE
      if st ≠ 2 && st ≠ 5 && s.mono < s.pwr.validAt + s.rd Reg.pwr_START_SYNC_S * unitsSec then s
      else State.checkBoot { s with pwr := { s.pwr with boot := some [], bootLeft := s.upd.admits } })

/-! ### Recovery over the service UART (R564) -/

/-- RECOVERY_PACKAGE: in SAFE a package of PILOT alone is verified under R548, written into slot A and followed by a cold
reset; one that fails is answered with CAN. -/
def execRecoveryPackage (bytes : Bytes) (s : State) : Host.Outcome State Fault Refusal :=
  .next (if !s.pwr.safe then s
    else
      let m := bytes.take (manLen bytes)
      let r := s.fwRec
      let good := match manEntries m with
        | [e] => if manFormOk m bytes.length && entComp e = 1 then
            let x : FwSlot := { man := m, image := slice (entImgOff e) (entImgLen e) bytes }
            if slotOk x 1 (r.min 1) then some x else none
          else none
        | _ => none
      match good with
      | none => s.emit (.uartByte 0x18)
      | some x =>
        let s := (s.setFwSlot 1 0 x).putRec { r with active := clearBit 0 r.active, trial := false }
        State.coldReset { s with pwr := { s.pwr with valid := false } })

end Sys2Proof.Machine
end

