-- ==== Sys2Proof/WellFormed.lean ====
section
/-!
DEFINITION. Which commands are well formed: every operand lies in the range that the spec gives its kind of thing.
-/

namespace Sys2Proof

/-- A register access of a link: link 0 or 1, inside its BAR (R88, R115), of 1, 2, 4 or 8 bytes. -/
def Access.wf (a : Access) : Bool :=
  a.link < 2 && (a.bar = 0 && a.off < 0x1000000 || a.bar = 2 && a.off < 0x800000
      || (a.bar = 11 || a.bar = 12) && a.off < 0x10000)
    && (a.size = 1 || a.size = 2 || a.size = 4 || a.size = 8)

/-- A requester that sends operations: a session, a manager mailbox of a link or a slice mailbox (R83). -/
def Requester.asks : Requester → Bool
  | .session id => id < 2 ^ 32
  | .manager l => l < 2
  | .slice sl => sl < 128
  | _ => false

/-- A requester that is a mailbox (R85). -/
def Requester.mailbox : Requester → Bool
  | .manager _ => true
  | .slice _ => true
  | _ => false

/-- A message whose header fields have their widths (R68). -/
def Msg.wf (m : Msg) : Bool := m.session < 2 ^ 32 && m.seq < 2 ^ 64 && m.fleet < 2 ^ 20 && m.vlan < 4096 && m.cls < 8

/-- Operands in the ranges of the spec. -/
def Instr.wf (i : Instr) : Bool :=
  match i with
  | .registerWrite a _ => a.wf
  | .rcCounterRead a => a.wf
  | .counter64Read a => a.wf
  | .xaccTimeout a _ => a.wf
  | .compatWrite a _ => a.wf
  | .compatModeSwitch link => link < 2
  | .postedWriteLand link => link < 2
  | .cfgHoldWrite a _ => a.wf
  | .cfgRefWrite a _ => a.wf
  | .cfgCheckPass b => b < 19
  | .eventPendClear n _ => n < 128
  | .eventMaskWrite n _ => n < 128
  | .msixUnmask link fn _ => link < 2 && fn < 3
  | .slcVecMaskWrite a _ => a.wf
  | .slcVecPendClear a _ _ => a.wf
  | .accountingWindow => true
  | .prickingFrameBoundary => true
  | .hyperperiodBoundary => true
  | .sampleBoundary k => k < 1024
  | .xingWaitExpiry src dst => src < 28 && dst < 28
  | .quadClockApply q => q < 16
  | .hello m => m.wf
  | .helloReply id _ => id < 2 ^ 32
  | .auth m => m.wf
  | .authTimeout id => id < 2 ^ 32
  | .authBlockExpiry _ => true
  | .data m => m.wf
  | .close m => m.wf
  | .sessionIdleTimeout id => id < 2 ^ 32
  | .wheelhouseServeRequest => true
  | .read src reqId _ => src.asks && reqId < 2 ^ 16
  | .write src reqId _ => src.asks && reqId < 2 ^ 16
  | .blockRead src reqId _ => src.asks && reqId < 2 ^ 16
  | .blockWrite src reqId _ => src.asks && reqId < 2 ^ 16
  | .execute src reqId _ => src.asks && reqId < 2 ^ 16
  | .txnOpen src reqId _ => src.asks && reqId < 2 ^ 16
  | .txnCommit src reqId _ => src.asks && reqId < 2 ^ 16
  | .txnAbort src reqId _ => src.asks && reqId < 2 ^ 16
  | .txnTimeout src => src.asks
  | .subscribe id reqId _ => id < 2 ^ 32 && reqId < 2 ^ 16
  | .ack id note => id < 2 ^ 32 && note < 2 ^ 32
  | .notifyResend id note => id < 2 ^ 32 && note < 2 ^ 32
  | .keepalive id reqId _ => id < 2 ^ 32 && reqId < 2 ^ 16
  | .mbxGo m _ => m.asks && m.mailbox
  | .mbxAbort m => m.asks && m.mailbox
  | .mbxResponse => true
  | .timeLatchRead a => a.wf
  | .stepNow => true
  | .setTime => true
  | .syncRx p _ _ => p < 32
  | .followUpRx p _ _ => p < 32
  | .announceRx p _ _ => p < 32
  | .pdelayReqRx p _ _ => p < 32
  | .pdelayRespRx p _ _ => p < 32
  | .pdelayReqSend p _ => p < 32
  | .syncRecordExpiry => true
  | .masterLossTimeout => true
  | .masterSend _ => true
  | .holdoverExpired => true
  | .stepApply => true
  | .slewDone => true
  | .leapSecondApply => true
  | .ppsInEdge _ => true
  | .ppsInLost => true
  | .ppsOutPulse => true
  | .portFrameRx p _ _ _ => p < 32
  | .pauseRx p _ _ => p < 32
  | .pauseExpiry p => p < 32
  | .pauseRefresh p => p < 32
  | .sgmiiControlWord p _ _ _ => p < 32
  | .linkUp p fec => p < 32 && fec < 4
  | .linkDown p => p < 32
  | .forwarding p => p < 32
  | .heldFrameExpiry p => p < 32
  | .flapHoldExpiry p => p < 32
  | .collision p _ => p < 32
  | .backoffExpiry p => p < 32
  | .quarantineExpiry p => p < 32
  | .lpReqWrite p _ => p < 32
  | .pauseImmuneWrite p _ => p < 32
  | .laneModeWrite p lane speed => p < 32 && lane < 8 && speed < 4
  | .maxFrameWrite p _ => p < 32
  | .groupPowerOff g => g < 4
  | .wakePattern p _ => p < 32
  | .groupPowerUp g => g < 4
  | .superFrameTx q => q < 36
  | .portMRx _ _ => true
  | .portMLinkChange _ _ => true
  | .cagePresenceChange cage _ => cage < 4
  | .switchIngress q => q < 36
  | .tagCheckDone => true
  | .egressSchedule q _ => q < 36
  | .txComplete q => q < 36
  | .starvePromote q c => q < 36 && c < 4
  | .staleFrameDrop => true
  | .fdbAgeOut _ _ => true
  | .clsCommit _ => true
  | .epochActivate => true
  | .epochRetire => true
  | .auditPass _ _ => true
  | .supervisionSend _ => true
  | .proxyNodeAge mac => mac < 2 ^ 48
  | .lanSilentTimeout k _ => k < 8
  | .ringOpenTimeout r => r < 4
  | .unitEnWrite _ => true
  | .heartbeatSend _ => true
  | .heartbeat _ _ => true
  | .partnerLost => true
  | .soloActiveTimeout => true
  | .takeoverEpochWritten _ => true
  | .relinquish => true
  | .takeover => true
  | .epochClear _ => true
  | .unfitRelease _ => true
  | .mirror _ _ => true
  | .mirrorLate => true
  | .resyncStoreReady => true
  | .resyncReq _ _ => true
  | .resyncData _ _ => true
  | .resyncAck _ _ => true
  | .svFrameIngest => true
  | .reckonCheck k => k < 1024
  | .substituteDeclare k => k < 1024
  | .streamLostTimeout k => k < 1024
  | .sampleStoreEcc k _ word => k < 1024 && word < 2 ^ 24
  | .apertureRead link off _ => link < 2 && off < 0x4000000
  | .filterChainWrite c s1 s2 => c < 8192 && s1 < 16 && s2 < 16
  | .evalStart t _ => t < 64
  | .add u rd ra rb => u < 192 && rd < 64 && ra < 64 && rb < 64
  | .sub u rd ra rb => u < 192 && rd < 64 && ra < 64 && rb < 64
  | .mul u rd ra rb => u < 192 && rd < 64 && ra < 64 && rb < 64
  | .and u rd ra rb => u < 192 && rd < 64 && ra < 64 && rb < 64
  | .or u rd ra rb => u < 192 && rd < 64 && ra < 64 && rb < 64
  | .xor u rd ra rb => u < 192 && rd < 64 && ra < 64 && rb < 64
  | .shl u rd ra rb => u < 192 && rd < 64 && ra < 64 && rb < 64
  | .shr u rd ra rb => u < 192 && rd < 64 && ra < 64 && rb < 64
  | .sra u rd ra rb => u < 192 && rd < 64 && ra < 64 && rb < 64
  | .slt u rd ra rb => u < 192 && rd < 64 && ra < 64 && rb < 64
  | .addi u rd ra imm => u < 192 && rd < 64 && ra < 64 && imm < 2 ^ 14
  | .ori u rd ra imm => u < 192 && rd < 64 && ra < 64 && imm < 2 ^ 14
  | .lui u rd imm => u < 192 && rd < 64 && imm < 2 ^ 20
  | .fadd u rd ra rb _ => u < 192 && rd < 64 && ra < 64 && rb < 64
  | .fsub u rd ra rb _ => u < 192 && rd < 64 && ra < 64 && rb < 64
  | .fmul u rd ra rb _ => u < 192 && rd < 64 && ra < 64 && rb < 64
  | .fdiv u rd ra rb _ => u < 192 && rd < 64 && ra < 64 && rb < 64
  | .fma u rd ra rb _ => u < 192 && rd < 64 && ra < 64 && rb < 64
  | .fsqrt u rd ra _ => u < 192 && rd < 64 && ra < 64
  | .fminmax u rd ra rb _ _ => u < 192 && rd < 64 && ra < 64 && rb < 64
  | .fsgn u rd ra rb _ sel => u < 192 && rd < 64 && ra < 64 && rb < 64 && sel < 3 && (sel = 2 || rb = 0)
  | .fcmp u rd ra rb _ sel => u < 192 && rd < 64 && ra < 64 && rb < 64 && sel < 4
  | .fcvt u rd ra sel => u < 192 && rd < 64 && ra < 64 && sel < 6
  | .fatan2 u rd ra rb _ => u < 192 && rd < 64 && ra < 64 && rb < 64
  | .fsincos u rd ra _ => u < 192 && 1 ≤ rd && rd < 63 && ra < 64
  | .vadd u vd va vb _ => u < 192 && vd < 16 && va < 16 && vb < 16
  | .vsub u vd va vb _ => u < 192 && vd < 16 && va < 16 && vb < 16
  | .vmul u vd va vb _ => u < 192 && vd < 16 && va < 16 && vb < 16
  | .vfma u vd va vb _ => u < 192 && vd < 16 && va < 16 && vb < 16
  | .vcmac u vd va vb _ => u < 192 && vd < 16 && va < 16 && vb < 16
  | .vsum u va rs _ => u < 192 && va < 16 && rs < 64
  | .vsplat u vd rs _ => u < 192 && vd < 16 && rs < 64
  | .vext u va rs p lane => u < 192 && va < 16 && rs < 64 && lane < (if p then 2 else 4)
  | .vld u vd rs fn => u < 192 && vd < 16 && rs < 64 && fn < 256
  | .vst u vd rs fn => u < 192 && vd < 16 && rs < 64 && fn < 256
  | .ld u rd ra imm ecc word => u < 192 && rd < 64 && ra < 64 && imm < 2 ^ 14 && ecc < 3 && word < 2 ^ 24
  | .st u rd ra imm => u < 192 && rd < 64 && ra < 64 && imm < 2 ^ 14
  | .ldin u rd ra imm => u < 64 && rd < 64 && ra < 64 && imm < 2 ^ 14
  | .ldss u rd ra imm => u < 64 && rd < 64 && ra < 64 && imm < 2 ^ 14
  | .ldssDataArrive u inst _ => u < 64 && inst < 65536
  | .ldfl u rd ra imm => u < 64 && rd < 64 && ra < 64 && imm < 2 ^ 14
  | .ldsg u rd imm => u < 192 && rd < 64 && imm < (if u < 64 then 2 ^ 7 else 2 ^ 13)
  | .out u rd ra rb fn => u < 192 && rd < 64 && ra < 64 && rb < 64 && fn < 32 && (64 ≤ u || rd = 0)
  | .ldtm u rd fn => u < 192 && rd < 64 && fn < 6
  | .beq u ra rb off => u < 192 && ra < 64 && rb < 64 && off < 2 ^ 14
  | .bne u ra rb off => u < 192 && ra < 64 && rb < 64 && off < 2 ^ 14
  | .blt u ra rb off => u < 192 && ra < 64 && rb < 64 && off < 2 ^ 14
  | .bge u ra rb off => u < 192 && ra < 64 && rb < 64 && off < 2 ^ 14
  | .jal u rd off => u < 192 && rd < 64 && off < 2 ^ 20
  | .jalr u rd ra imm => u < 192 && rd < 64 && ra < 64 && imm < 2 ^ 14
  | .endEval u => u < 192
  | .sfb u rd ra imm => 64 ≤ u && u < 192 && rd < 64 && ra < 64 && imm < 2 ^ 11
  | .illegal u => u < 192
  | .verdictReceive t => t < 64
  | .replay t => t < 64
  | .commitEvaluation t => t < 64
  | .gooseRepeat p => p < 4096
  | .evalLost inst => inst < 65536
  | .farFixComplete inst => inst < 65536
  | .farFixLate inst => inst < 65536
  | .tileFailure ts => ts.all (· < 64)
  | .spareLoadDone t => t < 64
  | .fbDisable _ inst E => inst < 65536 && E < 2 ^ 32
  | .fbEnable _ inst => inst < 65536
  | .fbExchange _ sl old new m => sl < 256 && old < 256 && new < 256 && m < 256
  | .exchangeApply inst => inst < 65536
  | .tileMode _ l _ => l < 64
  | .tileModeApply t => t < 64
  | .qclkWrite q _ => q < 16
  | .admitStreams _ _ => true
  | .admitInstanceSet _ sl e _ _ => sl < 256 && e < 256
  | .admitPublications _ _ => true
  | .admitScanProgram _ sl d _ => sl < 256 && d < 256
  | .admitWithdrawSet _ sl e _ => sl < 256 && e < 256
  | .admitWithdrawScan _ sl _ => sl < 256
  | .admitQuadClock _ c q _ => c < 256 && q < 256
  | .admitFilterChains _ _ => true
  | .admissionComputed _ => true
  | .admissionApply => true
  | .bind _ sl => sl < 256
  | .unbind _ sl => sl < 256
  | .reset _ sl _ => sl < 256
  | .sliceResetDrained sl => sl < 128
  | .freeze _ sl => sl < 256
  | .freezeDrained sl => sl < 128
  | .thaw _ sl => sl < 256
  | .save _ sl => sl < 256
  | .restore _ sl => sl < 256
  | .rebind _ sl => sl < 256
  | .sqTail sl b v => sl < 128 && b < 32 && v < 2 ^ 17
  | .cqHead sl b v => sl < 128 && b < 32 && v < 2 ^ 17
  | .descriptorFetch sl b bytes => sl < 128 && b < 32 && bytes.length = 32
  | .dmaReadCompletion sl b idx gen _ => sl < 128 && b < 32 && idx < 2 ^ 17 && gen < 2 ^ 16
  | .dmaError sl b idx gen info => sl < 128 && b < 32 && idx < 2 ^ 17 && gen < 2 ^ 16 && (info = 1 || info = 2)
  | .dmaTimeout sl b idx gen => sl < 128 && b < 32 && idx < 2 ^ 17 && gen < 2 ^ 16
  | .sendComplete sl b idx => sl < 128 && b < 32 && idx < 2 ^ 17
  | .hostFrameDeliver => true
  | .bobbinEnWrite sl b _ => sl < 128 && b < 32
  | .shareWrite k sl v who => k < 6 && sl < 128 && v < 2 ^ 17 && who < 2 ^ 32
  | .grantWrite sl g f v who => sl < 128 && g < 256 && 1 ≤ f && f < 5 && v < 2 ^ 32 && who < 2 ^ 32
  | .scanLatch sl => sl < 128
  | .scanOverrun sl => sl < 128
  | .scanAbandon sl => sl < 128
  | .scanExchange _ sl d m => sl < 128 && d < 256 && m < 256
  | .scanExchangeApply sl => sl < 128
  | .scanHold _ sl => sl < 128
  | .scanRun _ sl => sl < 128
  | .forceWrite n _ v who => n < 2 ^ 18 && v < 2 ^ 64 && who < 2 ^ 32
  | .capApply _ => true
  | .capApplyTakeEffect => true
  | .capTrigger _ k => k < 256
  | .captureTick k _ => k < 64
  | .triggerEdge line _ _ => line < 5
  | .captureFrameRx => true
  | .xtrigPulseEnd line => line < 4
  | .captureFlushTimeout k => k < 64
  | .rateRestoreTimeout k => k < 64
  | .postTriggerHoldEnd k => k < 64
  | .adcRequestDue r _ => r < 8
  | .adcStart r => r < 8
  | .adcConversionDone code ovr => code < 65536 && ovr < 3
  | .adcResultRead a => a.wf
  | .adcPowerDown => true
  | .adcWakeDone => true
  | .adcTestStep pos _ => pos < 26
  | .fanPeriodStart k _ => k < 2
  | .bncGenesis _ => true
  | .bncImport _ => true
  | .bncDelete _ n => n < 65536
  | .bncInvalidate _ n => n < 65536
  | .bncAttest _ nonce => nonce.length = 32
  | .bncPrepareReseal _ => true
  | .bncUser _ => true
  | .bncPairRoll _ => true
  | .tagGen req n _ _ _ _ => req < 7 && n < 65536
  | .tagChk req n _ _ _ _ _ => req < 7 && n < 65536
  | .sign req n _ => req < 7 && n < 65536
  | .verify req n _ _ => req < 7 && n < 65536
  | .sealOp req n _ _ _ => req < 7 && n < 65536
  | .openOp req n _ _ _ => req < 7 && n < 65536
  | .agree req n _ _ _ => req < 7 && n < 65536
  | .measurementExtend d => d.length = 48
  | .journalCommitDone _ => true
  | .tamper which => which = 1 || which = 2
  | .supplyValid _ _ => true
  | .powerGood d _ _ => 1 ≤ d && d < 12
  | .settingsApply _ => true
  | .readmissionStart _ => true
  | .hostLinkTrained link _ => link < 2
  | .warmReset _ => true
  | .controlProcessorReset _ => true
  | .portGroupReset _ g => g < 256
  | .watchdogExpiry _ => true
  | .wheelhouseResume _ => true
  | .hostLinkReset link _ => link < 2
  | .brownout _ => true
  | .supplyReturn _ => true
  | .shutdown _ => true
  | .holdupCharged _ => true
  | .updInstall _ => true
  | .updActivate _ _ => true
  | .updConfirm _ _ => true
  | .updRevert _ _ => true
  | .updDiscard _ => true
  | .updSetLoad _ _ => true
  | .updSetDefaults _ _ => true
  | .stageExpiry => true
  | .autoConfirm => true
  | .settingsWrite _ => true
  | .recoveryPackage _ => true
  | .scrubPass _ => true
  | .soundingStep _ _ _ _ => true
  | .sndPass _ => true
  | .sndClearMap _ => true
  | .logRecordWrite _ => true
  | .logClear _ scope => scope < 256
  | .logApply _ => true
  | .vbatLowChange _ => true
  | .dieTempChange _ => true
  | .thermalShutdown _ => true
  | .thermalRestart => true
  | .maxAmbientWrite v => v < 256
  | .installComplete _ => true
  | .logClearComplete => true
  | .programReloadComplete t ty => t < 64 && ty < 2 ^ 32
  | .firmwareRegionEccError word => word < 2 ^ 32

end Sys2Proof
end

