-- ==== Sys2Proof/Machine/Dict.lean ====
section
/-!
DEFINITION. The operations of the dictionary and what serves them: reads, writes, blocks, commands, transactions,
subscriptions, the mailboxes and Wheelhouse's queue (chapter 02).
-/

namespace Sys2Proof.Machine

/-! ### Requests and responses (R78, R81) -/

/-- What a request keeps from its submission: the generation of a slice (R391), the role of a manager (R49). -/
def State.stampOf (s : State) (src : Requester) : Nat :=
  match src with
  | .slice sl => s.raw Reg.slc_GEN sl
  | .manager _ => s.wh.mgrRole
  | _ => 0

/-- A request made now. -/
def State.request (s : State) (src : Requester) (op reqId : Nat) (body : Bytes) : Request :=
  { src := src, reqId := reqId % 2 ^ 16, op := op, body := body, gen := s.stampOf src }

/-- A response leaves to a session at once, or waits for its mailbox (R78, R86); each completion is counted (R81). A body
goes with OK and CLAMPED alone. -/
def State.respond (s : State) (r : Request) (status : Nat) (body : Bytes) : State :=
  let bytes := responseHead r.op status r.reqId ++ if status < 2 then body else []
  match r.src with
  | .session id => match s.wh.sessions.find? fun x => x.id = id with
    | some x => (s.countStatus 0 status).sendSession x 0x10 bytes
    | none => s
  | .manager _ => { s with wh := { s.wh with responses := s.wh.responses ++ [{ src := r.src, status := status, bytes := bytes, gen := r.gen }] } }
  | .slice _ => { s with wh := { s.wh with responses := s.wh.responses ++ [{ src := r.src, status := status, bytes := bytes, gen := r.gen }] } }
  | _ => s

/-- The link of a mailbox that carries a write, 0 for a session (R113). -/
def State.writeLink (s : State) (src : Requester) : Nat :=
  match src with
  | .manager l => l
  | .slice sl => s.sliceLink sl
  | _ => 0

/-- The requester of a single write in the clamp report (R56). -/
def Request.who (r : Request) : Nat := 0xFFFF0000 + r.reqId

/-! ### READ (R50, R78, R79) -/

/-- READ: TYPE, LEN and value. -/
def State.opRead (s : State) (r : Request) : Nat × Bytes × State :=
  let index := be 0 3 r.body
  let sub := be 3 1 r.body
  if r.body.length ≠ 4 then (stBAD_LENGTH, [], s)
  else if !s.right r index sub .r then (stACCESS_DENIED, [], s)
  else match s.findObj index sub with
    | .error e => (e, [], s)
    | .ok o =>
      if s.objType o = tyDOMAIN then (stTYPE_MISMATCH, [], s)
      else
        let (v, t) := s.readObj o
        (stOK, beBytes 1 (s.objType o) ++ beBytes 2 v.length ++ v, t)

/-! ### WRITE and transactions (R53–R61, R641) -/

/-- An object lies in the scope of a transaction (R57). -/
def Txn.covers (x : Txn) (index : Nat) : Bool :=
  match x.scope with
  | none => decide (0x200 ≤ index) && decide (index < 0x20000) || decide (0x80000 ≤ index) && decide (index < 0x90000)
  | some sl => decide (0x10000 + sl * 0x200 ≤ index) && decide (index < 0x10000 + sl * 0x200 + 0x200)

/-- An object that the settings store holds (R563). -/
def storedObj (o : Obj) : Bool :=
  match o with
  | .mgmt _ => true
  | .reg _ => true
  | .grant _ _ _ => true
  | .label _ => true
  | .peer _ _ => true
  | _ => false

/-- What follows the write of an object: the reference of its block, and the settings store (R107, R562). -/
def State.wrote (s : State) (o : Obj) : State :=
  let s := match objBlock o with
    | some b => s.autoRef b
    | none => s
  if storedObj o then s.changed else s

/-- The checks of a write in their order (R55, R58, R641), or the object. -/
def State.writeCheck (s : State) (r : Request) (index sub type : Nat) (v : Bytes) : Except Nat Obj :=
  if !s.right r index sub .w then .error stACCESS_DENIED
  else match s.findObj index sub with
    | .error e => .error e
    | .ok o =>
      if s.objType o = tyDOMAIN || type ≠ s.objType o then .error stTYPE_MISMATCH
      else if (s.objSize o).any (· ≠ v.length) then .error stBAD_LENGTH
      else if !objWritable o then .error stREAD_ONLY
      else if s.wh.txns.any fun x => x.owner ≠ r.src && x.covers index then .error stTXN_BUSY
      else .ok o

/-- WRITE: the value takes effect with its clamps, or is staged in the requester's transaction (R57–R59). -/
def State.opWrite (s : State) (r : Request) : Nat × Bytes × State :=
  let index := be 0 3 r.body
  let sub := be 3 1 r.body
  let type := be 4 1 r.body
  let v := r.body.drop 7
  if r.body.length < 7 || v.length ≠ be 5 2 r.body then (stBAD_LENGTH, [], s)
  else match s.writeCheck r index sub type v with
    | .error e => (e, [], s)
    | .ok o => match s.wh.txns.find? fun x => x.owner = r.src && x.covers index with
      | some x =>
        if 1024 ≤ x.writes.length || 65536 < ((x.writes.map fun w => w.value.length).sum + v.length) then (stTXN_FULL, [], s)
        else
          let add := fun (y : Txn) => if y.owner = r.src then { y with writes := y.writes ++ [{ index := index, sub := sub, value := v }] } else y
          (stOK, r.body, { s with wh := { s.wh with txns := s.wh.txns.map add } })
      | none =>
        let (c, y, t) := s.writeObj o (index * 256 + sub) v { who := r.who, link := s.writeLink r.src }
        (if c then stCLAMPED else stOK, r.body.take 5 ++ beBytes 2 y.length ++ y, t.wrote o)

/-- TXN_OPEN (R57). -/
def State.opTxnOpen (s : State) (r : Request) : Nat × Bytes × State :=
  let (role, own) := s.roleOf r
  if r.body.length ≠ 1 || 1 < be 0 1 r.body then (stBAD_LENGTH, [], s)
  else if (be 0 1 r.body = 1) ≠ (role = 5) then (stACCESS_DENIED, [], s)
  else
    let scope := if role = 5 then some own else none
    if s.wh.txns.any fun x => x.owner = r.src || x.scope = scope then (stTXN_BUSY, [], s)
    else (stOK, [], { s with wh := { s.wh with txns := s.wh.txns ++ [{ owner := r.src, scope := scope, lastMsg := s.mono }] } })

/-- The staged writes of a commit, applied in ascending order (R54, R641). -/
def State.commitWrites (s : State) (h link : Nat) (ws : List Staged) : State :=
  let ws := sortBy (fun a b => decide (a.index * 256 + a.sub ≤ b.index * 256 + b.sub)) ws
  let s := ws.foldl (fun (s : State) x => match s.findObj x.index x.sub with
    | .error _ => s
    | .ok o => (s.writeObj o (x.index * 256 + x.sub) x.value { who := h, txn := some h, link := link }).2.2) s
  let os := ws.filterMap fun x => (s.findObj x.index x.sub).toOption
  let s := ((os.filterMap objBlock).eraseDups).foldl (fun (s : State) b => s.autoRef b) s
  let s := if os.any storedObj then s.changed else s
  s.finishTxns [some h]

/-- TXN_COMMIT (R60, R641): what follows the response, which carries the handle. -/
def State.commitTxn (s : State) (r : Request) (x : Txn) : State :=
  let (h, s) := s.newHandle r.src
  let s : State := { s with wh := { s.wh with txns := s.wh.txns.filter fun y => y.owner ≠ r.src } }
  s.commitWrites h (s.writeLink r.src) x.writes

/-- TXN_ABORT (R61). -/
def State.opTxnAbort (s : State) (r : Request) : Nat × Bytes × State :=
  if r.body.length ≠ 0 then (stBAD_LENGTH, [], s)
  else if !(s.wh.txns.any fun x => x.owner = r.src) then (stNO_TXN, [], s)
  else (stOK, [], { s with wh := { s.wh with txns := s.wh.txns.filter fun y => y.owner ≠ r.src } })

/-- The owner's last message moves on (R61). -/
def State.touchTxn (s : State) (src : Requester) : State :=
  { s with wh := { s.wh with txns := s.wh.txns.map fun (x : Txn) => if x.owner = src then { x with lastMsg := s.mono } else x } }

/-! ### Blocks (R79, R549) -/

/-- The slot table (R503). -/
def State.slotTable (s : State) (off len : Nat) : Bytes :=
  (List.range len).map fun k =>
    let x := s.slot ((off + k) / 16)
    (leBytes 1 x.state ++ leBytes 1 x.kind ++ leBytes 2 x.usage ++ leBytes 2 x.parent ++ leBytes 1 x.owner ++ [0]
      ++ leBytes 4 x.keyId ++ leBytes 4 x.version).getD ((off + k) % 16) 0

/-- The module's public keys (R520). A slot without a key gives zeros. -/
def State.publicKeys (s : State) : Bytes :=
  let key := fun (n len : Nat) (f : Bytes → Bytes) =>
    if (s.slot n).state = 1 then padTo len ((f (s.slot n).key).take len) else List.replicate len 0
  key 1 97 Config.ecPublic ++ key 2 60 Config.hssPublic ++ key 3 97 Config.ecPublic

/-- The map of staged granules (R550). -/
def State.granuleMap (s : State) : Bytes :=
  let n := s.upd.granules.foldl (fun (m : Nat) e => max m (e.1 + 1)) (cdiv s.stagedLen 1024)
  (List.range (cdiv n 8)).map fun b =>
    BitVec.ofNat 8 ((List.range 8).map fun k => b2n (Tbl.look false s.upd.granules (8 * b + k)) * 2 ^ k).sum

/-- Bytes of a Logbook area; an erased slot reads 0xFF (R585, R596). -/
def areaBytes (m : Tbl Bytes) (off len : Nat) : Bytes :=
  (List.range len).map fun k =>
    let b := Tbl.look ([] : Bytes) m ((off + k) / 256)
    if b.isEmpty then 0xFF else b.getD ((off + k) % 256) 0

/-- The current length of a domain (R79): of what the module shows live, or of what has been written. -/
def State.domainLen (s : State) (index : Nat) : Nat :=
  if index = 0x040901 then 65536
  else if index = 0x040903 then 254
  else if index = 0x040A01 then s.granuleMap.length
  else if index = 0x040B01 then (((s.curGen (s.fwRec).position).map fun g => g.2.image).getD []).length
  else if index = 0x040400 then 32768
  else if index = 0x040D10 then 2097152
  else if index = 0x040D11 then 16777216
  else (s.domain index 0).len

/-- Bytes of a domain below its current length. -/
def State.domainRead (s : State) (index off len : Nat) : Bytes :=
  if index = 0x040901 then s.slotTable off len
  else if index = 0x040903 then slice off len s.publicKeys
  else if index = 0x040A01 then slice off len s.granuleMap
  else if index = 0x040B01 then slice off len (((s.curGen (s.fwRec).position).map fun g => g.2.image).getD [])
  else if index = 0x040400 then slice off len s.chainWords
  else if index = 0x040D10 then areaBytes s.log.perm off len
  else if index = 0x040D11 then areaBytes s.log.circ off len
  else s.domBytes index off len

/-- The domain that a block names, or its status: rights, existence, and an object that is no domain (R46, R50, R79). -/
def State.blockObj (s : State) (r : Request) (op : Right) : Except Nat (Bool × Nat) :=
  let index := be 0 3 r.body
  let sub := be 3 1 r.body
  if !s.right r index sub op then .error stACCESS_DENIED
  else match s.findObj index sub with
    | .error e => .error e
    | .ok (.domain ro n) => .ok (ro, n)
    | .ok _ => .error stTYPE_MISMATCH

/-- BLOCK_READ. -/
def State.opBlockRead (s : State) (r : Request) : Nat × Bytes :=
  let index := be 0 3 r.body
  let off := be 4 4 r.body
  let len := be 8 2 r.body
  if r.body.length ≠ 10 || 1348 < len then (stBAD_LENGTH, [])
  else match s.blockObj r .r with
    | .error e => (e, [])
    | .ok _ =>
      let n := s.domainLen index
      if n ≤ off then (stBAD_OFFSET, [])
      else
        let b := s.domainRead index off (min len (n - off))
        (stOK, r.body.take 8 ++ beBytes 2 b.length ++ b)

/-- A domain that an admitted instance or scan program uses (R315, R446). -/
def State.domainLocked (s : State) (index : Nat) : Bool :=
  if index < 0x048000 || 0x04C000 ≤ index then false
  else
    let sl := (index - 0x048000) / 0x80
    let d := (index - 0x048000) % 0x80
    if d < 0x20 then s.tor.insts.any fun e => e.1 / 512 = sl && e.2.prog.dom = d
    else if d < 0x40 then s.tor.insts.any fun e => e.1 / 512 = sl && e.2.set = d - 0x20
    else s.scan.any fun e => e.1 = sl && e.2.prog.dom = d

/-- A block of the update package has its place and its length (R549). A last granule that is shorter is taken once
PKG_LEN is known (DESIGN CHOICE, log entry 26). -/
def State.granuleOk (s : State) (off len : Nat) : Bool :=
  off % 1024 = 0 && (if s.stagedLen = 0 then len = 1024
    else if off + 1024 ≤ s.stagedLen then len = 1024 else off < s.stagedLen && off + len = s.stagedLen)

/-- Bytes put into a domain, which the requester claims; the current length covers them (R79). -/
def State.putBlock (s : State) (src : Requester) (index off : Nat) (b : Bytes) : State :=
  let d := s.domain index 0
  s.setDomain index 0
    { bytes := Memory.writeBytes d.bytes off b, len := if b.isEmpty then d.len else max d.len (off + b.length), owner := some src }

/-- A granule of the package is in flash (R549–R551); a block for an installed staging makes it a new one. -/
def State.putGranule (s : State) (src : Requester) (off : Nat) (b : Bytes) : State :=
  let was := s.raw Reg.upd_STAGE
  let s := s.putBlock src 0x040A00 off b
  let s := State.syncStage { s with upd := { s.upd with
    granules := Tbl.put false s.upd.granules (off / 1024) true, lastBlock := s.opTime, installed := false } }
  if s.raw Reg.upd_STAGE = 2 && was ≠ 2 then s.raise 92 0x0100 s.stagedLen else s

/-- A block of the chain words: each entry whose first byte it covers is written (R282). -/
def State.putChains (s : State) (off : Nat) (b : Bytes) (w : Writer) : Bool × State :=
  ((List.range b.length).filter fun k => (off + k) % 4 = 0).foldl (fun (z : Bool × State) k =>
    let (c, t) := z.2.chainWrite ((off + k) / 4) (le k 1 b) w
    (z.1 || c, t)) (false, s)

/-- Domains whose content the settings store holds (R563). -/
def storedDomain (index : Nat) : Bool :=
  stagedTables.contains index || index = 0x040400 || decide (0x048000 ≤ index) && keptSliceDomains.contains ((index - 0x048000) % 0x80)

/-- BLOCK_WRITE. -/
def State.opBlockWrite (s : State) (r : Request) : Nat × Bytes × State :=
  let index := be 0 3 r.body
  let off := be 4 4 r.body
  let len := be 8 2 r.body
  let b := r.body.drop 10
  if r.body.length < 10 || 1348 < len || b.length ≠ len then (stBAD_LENGTH, [], s)
  else match s.blockObj r .w with
    | .error e => (e, [], s)
    | .ok (ro, limit) =>
      if ro then (stREAD_ONLY, [], s)
      else if index = 0x040A00 && (s.inHoldup || s.upd.installing.isSome) then (stBUSY, [], s)
      else if s.domainLocked index then (stLOCKED, [], s)
      else if (s.domain index 0).owner.any (· ≠ r.src) then (stBUSY, [], s)
      else if limit < off + len then (stDOMAIN_FULL, [], s)
      else if index = 0x040A00 && !s.granuleOk off len then (stBAD_LENGTH, [], s)
      else if index = 0x040A00 then (stOK, r.body.take 10, s.putGranule r.src off b)
      else if index = 0x040400 then
        let s := s.setDomain index 0 { s.domain index 0 with owner := some r.src }
        let (c, t) := s.putChains off b { who := r.who, link := s.writeLink r.src }
        (if c then stCLAMPED else stOK, r.body.take 10, t.changed)
      else
        let t := s.putBlock r.src index off b
        (stOK, r.body.take 10, if storedDomain index then t.changed else t)

/-! ### EXECUTE (R51, R62 and the command tables of the chapters) -/

/-- ADMIT by its KIND (R360). A KIND outside the table goes to the admission unit, which refuses it. -/
def State.runAdmit (s : State) (src : Requester) (kind sl obj flags : Nat) : State :=
  let check := bit 0 flags
  let deep := bit 1 flags
  match kind with
  | 1 => s.ran (execAdmitStreams src check s)
  | 2 => s.ran (execAdmitInstanceSet src sl obj check deep s)
  | 3 => s.ran (execAdmitPublications src check s)
  | 4 => s.ran (execAdmitScanProgram src sl obj check s)
  | 5 => s.ran (execAdmitWithdrawSet src sl obj check s)
  | 6 => s.ran (execAdmitWithdrawScan src sl check s)
  | 7 => s.ran (execAdmitQuadClock src sl obj check s)
  | 8 => s.ran (execAdmitFilterChains src check s)
  | _ => s.requestAdmission src 9 sl obj check deep

/-- Every instance on logical tile l is one of the slice's own (R355). -/
def State.ownTile (s : State) (l sl : Nat) : Bool :=
  !(s.instsOn l).isEmpty && (s.instsOn l).all fun e => e.1 / 512 = sl

/-- A command without arguments. -/
def bare (a : Bytes) (f : State → Host.Outcome State Fault Refusal) : Except Nat (State → State) :=
  if a.isEmpty then .ok fun s => s.ran (f s) else .error stBAD_LENGTH

/-- Why a command on slice `sl`, or on something in it, is not the requester's (R355, R456). -/
def foreign (role own sl : Nat) (there : Bool) : Option Nat :=
  if role = 5 then (if sl = own && there then none else some stACCESS_DENIED)
  else if there then none else some stNO_OBJECT

/-- Commands on tiles, scan programs, capture sets and admission, which the Slice role may execute for its own (R355, R360,
R456, R476). -/
def State.sliceCommand (s : State) (r : Request) (index : Nat) (a : Bytes) : Except Nat (State → State) :=
  let (role, own) := s.roleOf r
  let go := fun (len sl : Nat) (there : Bool) (f : State → Host.Outcome State Fault Refusal) =>
    if a.length ≠ len then Except.error stBAD_LENGTH
    else match foreign role own sl there with
      | some e => .error e
      | none => .ok fun (s : State) => s.ran (f s)
  let sl := be 0 1 a
  let i := be 0 2 a
  match index with
  | 0x030700 => go 6 (i / 512) (s.hasInst i) (execFbDisable r.src i (be 2 4 a))
  | 0x030701 => go 2 (i / 512) (s.hasInst i) (execFbEnable r.src i)
  | 0x030702 => go 4 sl (sl < 128) (execFbExchange r.src sl (be 1 1 a) (be 2 1 a) (be 3 1 a))
  | 0x030703 => go 2 own (sl < 64 && (s.tileOf sl).isSome && (role ≠ 5 || s.ownTile sl own)) (execTileMode r.src sl (be 1 1 a = 1))
  | 0x030A00 => go 3 sl (sl < 128) (execScanExchange r.src sl (be 1 1 a) (be 2 1 a))
  | 0x030A01 => go 1 sl (sl < 128) (execScanHold r.src sl)
  | 0x030A02 => go 1 sl (sl < 128) (execScanRun r.src sl)
  | 0x030B01 => go 1 (setOwner (s.cset sl).entry) (role ≠ 5 || (s.cset sl).on) (execCapTrigger r.src sl)
  | _ =>
    if a.length ≠ 4 then .error stBAD_LENGTH
    else if role = 5 && !(([2, 4, 5, 6] : List Nat).contains sl && be 1 1 a = own) then .error stACCESS_DENIED
    else .ok fun (s : State) => s.runAdmit r.src sl (be 1 1 a) (be 2 1 a) (be 3 1 a)

/-- The command of an index with its arguments. -/
def State.command (s : State) (r : Request) (index : Nat) (a : Bytes) : Except Nat (State → State) :=
  let src := r.src
  let one := fun (n : Nat) (f : State → Host.Outcome State Fault Refusal) =>
    if a.length = n then Except.ok fun (s : State) => s.ran (f s) else .error stBAD_LENGTH
  match index with
  | 0x030200 => bare a (execClsCommit src)
  | 0x030300 => bare a (execEpochClear src)
  | 0x030301 => bare a (execUnfitRelease src)
  | 0x030B00 => bare a (execCapApply src)
  | 0x030C00 => bare a (execBncGenesis src)
  | 0x030C01 => bare a (execBncImport src)
  | 0x030C02 => one 2 (execBncDelete src (be 0 2 a))
  | 0x030C03 => one 2 (execBncInvalidate src (be 0 2 a))
  | 0x030C04 => one 32 (execBncAttest src a)
  | 0x030C05 => bare a (execBncPrepareReseal src)
  | 0x030C06 => bare a (execBncUser src)
  | 0x030C07 => bare a (execBncPairRoll src)
  | 0x030D00 =>
    if a.length ≠ 2 then .error stBAD_LENGTH
    else match be 0 1 a with
      | 1 => one 2 (execWarmReset src)
      | 2 => one 2 (execControlProcessorReset src)
      | 3 => one 2 (execPortGroupReset src (be 1 1 a))
      | _ => .error stBAD_LENGTH
  | 0x030E00 => bare a (execUpdInstall src)
  | 0x030E01 => bare a (execUpdActivate src true)
  | 0x030E02 => bare a (execUpdConfirm src true)
  | 0x030E03 => bare a (execUpdRevert src true)
  | 0x030E04 => bare a (execUpdDiscard src)
  | 0x030E05 => bare a (execUpdSetLoad src true)
  | 0x030E06 => bare a (execUpdSetDefaults src true)
  | 0x030F00 => bare a (execSndPass src)
  | 0x030F01 => bare a (execSndClearMap src)
  | 0x031000 => one 1 (execLogClear src (be 0 1 a))
  | 0x031001 => bare a (execLogApply src)
  | _ => s.sliceCommand r index a

/-- EXECUTE: the status of a request that starts nothing, or what its command does. An object outside the command range
exists or not before its right is asked (R46, R51). -/
def State.opExecute (s : State) (r : Request) : Except Nat (State → State) :=
  let index := be 0 3 r.body
  let sub := be 3 1 r.body
  let a := r.body.drop 6
  if r.body.length < 6 || a.length ≠ be 4 2 r.body then .error stBAD_LENGTH
  else if 0x30000 ≤ index && index < 0x40000 && !s.right r index sub .x then .error stACCESS_DENIED
  else match s.findObj index sub with
    | .error e => .error e
    | .ok (.command _) => s.command r index a
    | .ok _ => .error stACCESS_DENIED

/-! ### Serving (R83) -/

/-- SUBSCRIBE (R78, R80): the sources as BITS, bit 0 in bit 0 of the first byte (R14). -/
def State.opSubscribe (s : State) (r : Request) (id : Nat) : Nat × Bytes × State :=
  if r.body.length ≠ 17 then (stBAD_LENGTH, [], s)
  else
    let put := fun (x : Session) =>
      if x.id = id then { x with sources := le 0 16 r.body, completions := decide (le 16 1 r.body ≠ 0) } else x
    (stOK, [], { s with wh := { s.wh with sessions := s.wh.sessions.map put } })

/-- ACK (R80): the NOTIFY is no longer resent. -/
def State.ackNote (s : State) (id note : Nat) : State :=
  let put := fun (x : Session) => if x.id = id then { x with notes := x.notes.filter fun n => n.id ≠ note } else x
  { s with wh := { s.wh with sessions := s.wh.sessions.map put } }

/-- One request served: its operation and its response. A command runs once its handle has been answered, so that a reset
does not take the response with it. -/
def State.serve (s : State) (r : Request) : State :=
  let done := fun (z : Nat × Bytes × State) => z.2.2.respond r z.1 z.2.1
  match r.op with
  | 1 => done (s.opRead r)
  | 2 => done (s.opWrite r)
  | 3 => let z := s.opBlockRead r; s.respond r z.1 z.2
  | 4 => done (s.opBlockWrite r)
  | 5 => match s.opExecute r with
    | .error e => s.respond r e []
    | .ok f => f (s.respond r stOK (beBytes 4 (s.newHandle r.src).1))
  | 6 => done (s.opTxnOpen r)
  | 7 =>
    if r.body.length ≠ 0 then s.respond r stBAD_LENGTH []
    else match s.wh.txns.find? fun x => x.owner = r.src with
      | none => s.respond r stNO_TXN []
      | some x => (s.respond r stOK (beBytes 4 (s.newHandle r.src).1)).commitTxn r x
  | 8 => done (s.opTxnAbort r)
  | op => match r.src with
    | .session id =>
      if op = 9 then done (s.opSubscribe r id)
      else if op = 0x0B then (if r.body.length = 4 then s.ackNote id (be 0 4 r.body) else s)
      else if op = 0x0C then s.respond r (if r.body.isEmpty then stOK else stBAD_LENGTH) []
      else s.respond r stUNKNOWN_OP []
    | _ => s.respond r stUNKNOWN_OP []

/-- A requester may be served: an authenticated session, a mailbox of a link that is up, or of a bound slice. -/
def State.canAsk (s : State) (src : Requester) : Bool :=
  match src with
  | .session id => s.wh.sessions.any fun x => x.id = id && x.authed
  | .manager l => s.linkUp l
  | .slice sl => s.bound sl && s.linkUp (s.sliceLink sl)
  | _ => false

/-- One operation of a requester served at once. -/
def State.serveNow (s : State) (src : Requester) (op reqId : Nat) (body : Bytes) : State :=
  if s.wheelRuns && s.canAsk src then (s.touchTxn src).serve (s.request src op reqId body) else s

/-- READ (R50, R55, R78). -/
def execRead (src : Requester) (reqId : Nat) (body : Bytes) (s : State) : Host.Outcome State Fault Refusal :=
  .next (s.serveNow src 1 reqId body)

/-- WRITE (R53–R59). -/
def execWrite (src : Requester) (reqId : Nat) (body : Bytes) (s : State) : Host.Outcome State Fault Refusal :=
  .next (s.serveNow src 2 reqId body)

/-- BLOCK_READ (R79). -/
def execBlockRead (src : Requester) (reqId : Nat) (body : Bytes) (s : State) : Host.Outcome State Fault Refusal :=
  .next (s.serveNow src 3 reqId body)

/-- BLOCK_WRITE (R79, R315, R446, R549). -/
def execBlockWrite (src : Requester) (reqId : Nat) (body : Bytes) (s : State) : Host.Outcome State Fault Refusal :=
  .next (s.serveNow src 4 reqId body)

/-- EXECUTE (R51, R62). -/
def execExecute (src : Requester) (reqId : Nat) (body : Bytes) (s : State) : Host.Outcome State Fault Refusal :=
  .next (s.serveNow src 5 reqId body)

/-- TXN_OPEN (R57). -/
def execTxnOpen (src : Requester) (reqId : Nat) (body : Bytes) (s : State) : Host.Outcome State Fault Refusal :=
  .next (s.serveNow src 6 reqId body)

/-- TXN_COMMIT (R60, R641). -/
def execTxnCommit (src : Requester) (reqId : Nat) (body : Bytes) (s : State) : Host.Outcome State Fault Refusal :=
  .next (s.serveNow src 7 reqId body)

/-- TXN_ABORT (R61). -/
def execTxnAbort (src : Requester) (reqId : Nat) (body : Bytes) (s : State) : Host.Outcome State Fault Refusal :=
  .next (s.serveNow src 8 reqId body)

/-- TXN_TIMEOUT (R61): 30 s after the owner's last message. -/
def execTxnTimeout (src : Requester) (s : State) : Host.Outcome State Fault Refusal :=
  .next (match s.wh.txns.find? fun x => x.owner = src with
    | none => s
    | some x => if !s.wheelRuns then s else (s.advance (x.lastMsg + 30 * unitsSec)).discardTxns (fun y => y.owner = src) 1)

/-- SUBSCRIBE (R78, R80). -/
def execSubscribe (id reqId : Nat) (body : Bytes) (s : State) : Host.Outcome State Fault Refusal :=
  .next (s.serveNow (.session id) 9 reqId body)

/-- ACK (R80). -/
def execAck (id note : Nat) (s : State) : Host.Outcome State Fault Refusal :=
  .next (s.serveNow (.session id) 0x0B 0 (beBytes 4 note))

/-- NOTIFY_RESEND (R80): 100 ms after its last sending a NOTIFY is sent again, and after 5 times dropped and counted. -/
def execNotifyResend (id note : Nat) (s : State) : Host.Outcome State Fault Refusal :=
  .next (match s.wh.sessions.find? fun x => x.id = id with
    | none => s
    | some x => match x.notes.find? fun n => n.id = note with
      | none => s
      | some n =>
        if !s.wheelRuns then s
        else
          let s := s.advance (n.last + 100 * unitsMs)
          if 5 ≤ n.resent then (s.ackNote id note).countStatus 3 2
          else
            let again := fun (y : Note) => if y.id = note then { y with resent := y.resent + 1, last := s.mono } else y
            let put := fun (y : Session) => if y.id = id then { y with notes := y.notes.map again } else y
            State.sendSession { s with wh := { s.wh with sessions := s.wh.sessions.map put } } x 0x10
              ([0x0A, 0, 0, 0] ++ n.body))

/-- KEEPALIVE (R76): the message itself keeps the session; the operation answers OK. -/
def execKeepalive (id reqId : Nat) (body : Bytes) (s : State) : Host.Outcome State Fault Refusal :=
  .next (
    let put := fun (x : Session) => if x.id = id then { x with lastMsg := s.mono } else x
    State.serveNow { s with wh := { s.wh with sessions := s.wh.sessions.map put } } (.session id) 0x0C reqId body)

/-! ### Mailboxes (R85–R87) -/

/-- The base address of a mailbox, its instance, and its fields GO, BUSY, DONE, OVERRUN, STATUS, REQLEN, RSPLEN, SERVED, DROP. -/
def mailbox (m : Requester) : Nat × Nat × List Fld :=
  match m with
  | .slice sl => (0x100E000 + 0x10000 * sl, sl,
      [Reg.smbx_GO, Reg.smbx_BUSY, Reg.smbx_DONE, Reg.smbx_OVERRUN, Reg.smbx_STATUS, Reg.smbx_REQLEN, Reg.smbx_RSPLEN,
       Reg.smbx_SERVED, Reg.smbx_DROP])
  | .manager l => (0xE000 + 0x1000 * l, l,
      [Reg.mmbx_GO, Reg.mmbx_BUSY, Reg.mmbx_DONE, Reg.mmbx_OVERRUN, Reg.mmbx_STATUS, Reg.mmbx_REQLEN, Reg.mmbx_RSPLEN,
       Reg.mmbx_SERVED, Reg.mmbx_DROP])
  | _ => (0, 0, [])

/-- Field k of a mailbox. -/
def mbxFld (m : Requester) (k : Nat) : Fld := (mailbox m).2.2.getD k Reg.mmbx_GO

/-- A field of a mailbox read and written. -/
def State.mbxGet (s : State) (m : Requester) (k : Nat) : Nat := s.raw (mbxFld m k) (mailbox m).2.1
def State.mbxPut (s : State) (m : Requester) (k v : Nat) : State := s.wr (mbxFld m k) (mailbox m).2.1 v

/-- The request in the buffer is submitted (R83, R86): queued, or completed at once with BAD_LENGTH or BUSY. -/
def State.submit (s : State) (m : Requester) : State :=
  let s := ((s.mbxPut m 0 1).mbxPut m 1 1).touchTxn m
  let len := s.mbxGet m 5
  let b := Memory.readBytes s.wh.buffers ((mailbox m).1 + 0x400) (min len 1536)
  let r := s.request m (be 0 1 b) (be 2 2 b) (b.drop 4)
  if len < 4 || 1362 < len then (s.mbxPut m 0 0).respond r stBAD_LENGTH []
  else if 64 ≤ s.wh.queue.length then (s.mbxPut m 0 0).respond r stBUSY []
  else { s with wh := { s.wh with queue := s.wh.queue ++ [r] } }

/-- A request that Wheelhouse has not taken is withdrawn: it completes with ABORTED (R86). -/
def State.withdrawRequest (s : State) (m : Requester) : State :=
  if s.wh.queue.any fun r => r.src = m then (s.mbxPut m 0 0).abortMailbox m else s

/-- A mailbox answers accesses: its link is up, and a slice's is bound (R90). -/
def State.mbxLive (s : State) (m : Requester) : Bool := m.mailbox && s.canAsk m

/-- MBX_GO (R86): the request is submitted, or dropped under OVERRUN while BUSY; with ABORT in the same write it is then
withdrawn. -/
def execMbxGo (m : Requester) (abort : Bool) (s : State) : Host.Outcome State Fault Refusal :=
  .next (if !s.mbxLive m then s
    else
      let s := if s.mbxGet m 1 = 1 then (s.mbxPut m 3 1).count (mbxFld m 8) (mailbox m).2.1 else s.submit m
      if abort then s.withdrawRequest m else s)

/-- MBX_ABORT (R86). -/
def execMbxAbort (m : Requester) (s : State) : Host.Outcome State Fault Refusal :=
  .next (if s.mbxLive m then s.withdrawRequest m else s)

/-- A response written: the buffer, BUSY, DONE, STATUS, RSPLEN and the count; then the manager's source or slice vector 31
(R86, R87). A response of an older generation of a slice is discarded, and its request completes with ABORTED (R84). -/
def State.writeResponse (s : State) (r : Response) : State :=
  let m := r.src
  let stale : Bool := match m with
    | .slice sl => r.gen ≠ s.raw Reg.slc_GEN sl
    | _ => false
  let status := if stale then stABORTED else r.status
  let b := if stale then r.bytes.take 1 ++ beBytes 1 stABORTED ++ slice 2 2 r.bytes else r.bytes
  let s : State := { s with wh := { s.wh with buffers := Memory.writeBytes s.wh.buffers ((mailbox m).1 + 0xA00) b } }
  let s := (((s.mbxPut m 1 0).mbxPut m 2 1).mbxPut m 4 status).mbxPut m 6 b.length
  let s := (s.count (mbxFld m 7) (mailbox m).2.1).countStatus 1 status
  match m with
  | .manager l => s.raise (116 + l) 0x0100 status
  | .slice sl => if s.bound sl then s.raiseVector sl 31 else s
  | _ => s

/-- MBX_RESPONSE (R86, R87): Wheelhouse writes the oldest response. -/
def execMbxResponse (s : State) : Host.Outcome State Fault Refusal :=
  .next (match s.wh.responses with
    | [] => s
    | r :: rest =>
      if !s.wheelRuns then s else State.writeResponse { s with wh := { s.wh with responses := rest } } r)

/-- WHEELHOUSE_SERVE_REQUEST (R83): the next request is taken and served. -/
def execWheelhouseServeRequest (s : State) : Host.Outcome State Fault Refusal :=
  .next (match s.wh.queue with
    | [] => s
    | r :: rest =>
      if !s.wheelRuns then s
      else
        let s : State := { s with wh := { s.wh with queue := rest } }
        (if r.src.mailbox then s.mbxPut r.src 0 0 else s).serve r)

end Sys2Proof.Machine
end

