-- ==== Sys2Proof/Machine/Chartroom.lean ====
section
/-!
DEFINITION. Chartroom: handshakes, authentication and the messages of sessions (R66–R78, R505, R513).
-/

namespace Sys2Proof.Machine

/-- Counter 0x020102.c of dropped messages (R82). -/
def State.dropped (s : State) (c : Nat) : State := s.countStatus 2 c

/-- A session by its identifier, and one replaced. -/
def State.session (s : State) (id : Nat) : Option Session := s.wh.sessions.find? fun x => x.id = id
def State.setSession (s : State) (x : Session) : State :=
  { s with wh := { s.wh with sessions := s.wh.sessions.map fun (y : Session) => if y.id = x.id then x else y } }

/-- A message reaches Wheelhouse (R67): port M always; a switched port only in the management VLAN and class 4 while Chartroom
is on there. A session keeps the values under which it started (R49). -/
def State.reaches (s : State) (m : Msg) (se : Option Session) : Bool :=
  s.wheelRuns && (!m.switched || (m.cls = 4 && match se with
    | some x => if x.switched then m.vlan = x.vlan else s.wh.switchedEn && m.vlan = s.wh.mgmtVlan
    | none => s.wh.switchedEn && m.vlan = s.wh.mgmtVlan))

/-- A datagram of Chartroom's size that is no fragment (R66). -/
def msgFits (m : Msg) : Bool := !m.fragment && decide (m.size ≤ 1400)

/-- A cleartext message to a client (R68). -/
def State.sendClear (s : State) (ip type session fleet : Nat) (body : Bytes) : State :=
  s.emit (.chartroom ip (chartHeader type session 0 fleet 0 body.length ++ body))

/-! ### Handshake (R69–R72, R75–R77) -/

/-- HELLOs from an address are ignored (R75). -/
def State.isBlocked (s : State) (ip : Nat) : Bool := s.wh.blocked.any fun e => e.1 = ip && decide (s.mono < e.2)

/-- A HELLO is for this module (R69). -/
def State.isAddressed (s : State) (m : Msg) : Bool := m.any || (s.wh.fleetAssigned && m.fleet = s.wh.fleet % 2 ^ 20)

/-- A handshake starts with the next session identifier. -/
def State.startHandshake (s : State) (m : Msg) : State :=
  let id := s.wh.sessionSeq % (2 ^ 32 - 1) + 1
  let h : Handshake := {
    id := id, ip := m.ip, switched := m.switched, vlan := m.vlan, fleet := s.wh.fleet % 2 ^ 20,
    assigned := s.wh.fleetAssigned, idle := s.wh.idleTimeout, clientPub := m.body.take 97, clientNonce := slice 97 32 m.body }
  { s with wh := { s.wh with sessionSeq := id, handshakes := s.wh.handshakes ++ [h] } }

/-- HELLO (R69, R75, R77): the session limit holds sessions and handshakes together. -/
def execHello (m : Msg) (s : State) : Host.Outcome State Fault Refusal :=
  .next (
    let s := s.advance m.t
    if !s.reaches m none then s
    else if !msgFits m then s.dropped 6
    else if s.isBlocked m.ip then s.dropped 7
    else if !s.isAddressed m || m.body.length ≠ 129 then s
    else if s.wh.maxSessions ≤ s.wh.sessions.length + s.wh.handshakes.length then
      (s.countStatus 0 stSESSION_LIMIT).sendClear m.ip 0x1E 0 (s.wh.fleet % 2 ^ 20) (beBytes 1 stSESSION_LIMIT)
    else if 8 ≤ s.wh.handshakes.length then s.dropped 5
    else s.startHandshake m)

/-- The body of a HELLO_REPLY before its signature (R70). -/
def replyBody (s : State) (h : Handshake) (pub nonce : Bytes) : Bytes :=
  padTo 97 (pub.take 97) ++ padTo 32 (nonce.take 32) ++ beBytes 3 h.fleet ++ beBytes 1 (b2n h.assigned)
    ++ padTo 12 (s.ident.serial.take 12)

/-- The Binnacle's work for a handshake: the agreement, then the signature of the transcript hash by slot 0x0001
(R71, R72, R505). Either may be refused; the handshake then ends with no reply. -/
def State.answerHello (s : State) (h : Handshake) : State :=
  match s.useKey 4 0 2 with
  | (none, s) => s
  | (some _, s) =>
    let (nonce, s) := s.random 32
    match s.agree h.clientPub h.clientNonce nonce with
    | (none, s) => s
    | (some (pub, slot), s) =>
      let body := replyBody s h pub nonce
      let hash := Config.sha384 (h.clientPub ++ h.clientNonce ++ body)
      match s.useKey 1 useSign 2 with
      | (none, s) => s.setSlot slot {}
      | (some k, s) =>
        let x : Session := {
          id := h.id, ip := h.ip, switched := h.switched, vlan := h.vlan, fleet := h.fleet,
          transcript := hash, slot := slot, idle := h.idle, replied := s.mono, lastMsg := s.mono }
        State.sendClear { s with wh := { s.wh with sessions := s.wh.sessions ++ [x] } } h.ip 2 h.id h.fleet
          (body ++ Config.ecSign k hash)

/-- HELLO_REPLY (R70, R71, R76): the handshake is over and the session begins. -/
def execHelloReply (id t : Nat) (s : State) : Host.Outcome State Fault Refusal :=
  .next (match s.wh.handshakes.find? fun h => h.id = id with
    | none => s
    | some h =>
      if !s.wheelRuns then s
      else
        let s := s.advance t
        State.answerHello { s with wh := { s.wh with handshakes := s.wh.handshakes.filter fun x => x.id ≠ id } } h)

/-! ### Messages of a session (R69, R73) -/

/-- An accepted SEQ is noted: the highest, and those seen that the window still holds (R73). -/
def noteSeq (x : Session) (seq : Nat) : Session :=
  let high := max x.seqHigh seq
  { x with seqHigh := high, seen := (seq :: x.seen).filter fun q => decide (high < q + 64) }

/-- A SEQ that R73 accepts. -/
def seqOk (x : Session) (seq : Nat) : Bool := decide (x.seqHigh < seq + 64) && !x.seen.contains seq

/-- A message of a session is opened under its client-to-module key (R73): the session, its SEQ noted, and the plaintext; a
message that fails is dropped and counted. -/
def State.openMsg (s : State) (m : Msg) (type : Nat) (auth : Bool) : Option (Session × Bytes) × State :=
  let se := s.session m.session
  if !s.reaches m se then (none, s)
  else if !msgFits m then (none, s.dropped 6)
  else match se with
    | none => (none, s.dropped 3)
    | some x =>
      if m.fleet ≠ x.fleet then (none, s.dropped 4)
      else if auth && !x.authed then (none, s.dropped 3)
      else if !seqOk x m.seq then (none, s.dropped 2)
      else match s.useKey x.slot useSeal 2 with
        | (none, s) => (none, s)
        | (some k, s) =>
          let hd := chartHeader type x.id m.seq m.fleet (b2n m.any) (m.body.length - 16)
          match Config.gcmOpen (k.take 32) (slice 32 4 k ++ beBytes 8 m.seq) hd m.body with
          | none => (none, s.dropped 1)
          | some p =>
            let y := { noteSeq x m.seq with lastMsg := s.mono }
            (some (y, p), s.setSession y)

/-! ### Authentication (R74, R75, R513) -/

/-- The user whose name an AUTH carries (R74, R513). -/
def State.userNamed (s : State) (name : Bytes) : Option Nat :=
  (List.range 64).find? fun u =>
    let e := Tbl.look ([] : Bytes) s.bnc.users u
    userUsed e && slice 1 (le 0 1 e) e = name

/-- The fields of an AUTH body: user name, role, slice, signature (R74). -/
def authFields (p : Bytes) : Option (Bytes × Nat × Nat × Bytes) :=
  let u := be 0 1 p
  if 1 ≤ u && u ≤ 32 && p.length = u + 99 then some (slice 1 u p, be (u + 1) 1 p, be (u + 2) 1 p, p.drop (u + 3)) else none

/-- The user that an AUTH proves, with the role and slice granted (R49, R74, R513): an active entry that permits the role, the
Vendor Service role on port M alone (R52), and a good signature. -/
def State.authUser (s : State) (m : Msg) (x : Session) (p : Bytes) : Option (Nat × Nat × Nat) :=
  match authFields p with
  | none => none
  | some (name, role, sl, sig) => match s.userNamed name with
    | none => none
    | some u =>
      let e := Tbl.look ([] : Bytes) s.bnc.users u
      if le 35 1 e = 1 && role ≤ 5 && bit role (le 33 1 e) && (role ≠ 5 || sl = le 34 1 e) && (role ≠ 4 || !m.switched)
          && (s.slot (0x90 + u)).state = 1
          && Config.ecVerify (slice 40 97 e)
              (Config.sha384 (x.transcript ++ name ++ beBytes 1 role ++ beBytes 1 sl)) sig
      then some (u, role, sl)
      else none

/-- A failed AUTH is remembered; the fifth within 60 s blocks its address for 60 s (R75). -/
def State.authFailed (s : State) (ip : Nat) : State :=
  let fs := (ip, s.mono) :: s.wh.failures.filter fun e => decide (s.mono ≤ e.2 + 60 * unitsSec)
  if 5 ≤ (fs.filter fun e => e.1 = ip).length then
    { s with wh := { s.wh with
      failures := fs.filter fun e => e.1 ≠ ip,
      blocked := (ip, s.mono + 60 * unitsSec) :: s.wh.blocked.filter fun e => e.1 ≠ ip } }
  else { s with wh := { s.wh with failures := fs } }

/-- A good AUTH (R75, R505): the SESSION slot moves to the user entry, and the reply grants the role. -/
def State.grantAuth (s : State) (x : Session) (u role sl : Nat) : State :=
  let x := { x with authed := true, role := role, slice := sl, user := u }
  let s := (s.setSession x).setSlot x.slot { s.slot x.slot with parent := 0x90 + u }
  (s.countStatus 0 stOK).sendSession x 4 (beBytes 1 stOK ++ beBytes 1 role ++ beBytes 2 x.idle)

/-- AUTH (R74–R76). A second AUTH of a session changes nothing. -/
def execAuth (m : Msg) (s : State) : Host.Outcome State Fault Refusal :=
  .next (
    match (s.advance m.t).openMsg m 3 false with
    | (none, s) => s
    | (some (x, p), s) =>
      if x.authed then s
      else match s.authUser m x p with
        | some (u, role, sl) => s.grantAuth x u role sl
        | none =>
          (((s.countStatus 0 stAUTH_FAILED).sendSession x 4 (beBytes 1 stAUTH_FAILED)).authFailed m.ip).dropSession x.id)

/-- AUTH_TIMEOUT (R76): 5 s after the HELLO_REPLY. -/
def execAuthTimeout (id : Nat) (s : State) : Host.Outcome State Fault Refusal :=
  .next (match s.session id with
    | none => s
    | some x => if x.authed || !s.wheelRuns then s else (s.advance (x.replied + 5 * unitsSec)).dropSession id)

/-- AUTH_BLOCK_EXPIRY (R75). -/
def execAuthBlockExpiry (ip : Nat) (s : State) : Host.Outcome State Fault Refusal :=
  .next (match s.wh.blocked.find? fun e => e.1 = ip with
    | none => s
    | some e =>
      let s := s.advance e.2
      { s with wh := { s.wh with blocked := s.wh.blocked.filter fun x => x.1 ≠ ip } })

/-! ### Session traffic (R76–R78, R83) -/

/-- DATA (R73, R77, R78, R83): its operation joins Wheelhouse's queue, or completes with BUSY when 64 wait. -/
def execData (m : Msg) (s : State) : Host.Outcome State Fault Refusal :=
  .next (
    match (s.advance m.t).openMsg m 0x10 true with
    | (none, s) => s
    | (some (x, p), s) =>
      let src := Requester.session x.id
      let s := s.touchTxn src
      let r := s.request src (be 0 1 p) (be 2 2 p) (p.drop 4)
      if p.length < 4 then s.respond r stBAD_LENGTH []
      else if 64 ≤ s.wh.queue.length then (if r.op = 0x0B then s else s.respond r stBUSY [])
      else { s with wh := { s.wh with queue := s.wh.queue ++ [r] } })

/-- CLOSE (R68, R73, R84). -/
def execClose (m : Msg) (s : State) : Host.Outcome State Fault Refusal :=
  .next (
    match (s.advance m.t).openMsg m 0x1F false with
    | (none, s) => s
    | (some (x, _), s) => s.dropSession x.id)

/-- SESSION_IDLE_TIMEOUT (R76): no valid client message for the idle timeout. -/
def execSessionIdleTimeout (id : Nat) (s : State) : Host.Outcome State Fault Refusal :=
  .next (match s.session id with
    | none => s
    | some x => if !x.authed || !s.wheelRuns then s else (s.advance (x.lastMsg + x.idle * unitsSec)).dropSession id)

end Sys2Proof.Machine
end

