-- ==== Sys2Proof/Machine/Boundaries.lean ====
section
/-!
DEFINITION. The accounting window, the pricking frame and the hyperperiod (R93, R94, R144): what each boundary brings. A
boundary command takes the boundary that follows the last one taken; one that time has passed already is taken late.
-/

namespace Sys2Proof.Machine

/-! ### Buffered values that a boundary reduces -/

/-- The buffered writes that boundary kind `k` is about to apply. -/
def State.dueWrites (s : State) (k : Bnd) : List Buffered := s.hif.shadow.filter fun b => b.bnd = k && !s.held b.blk

/-- A buffered value replaced by the value that will be applied: counted at `c`, and reported under clamp reason 7 when it
came through the dictionary. -/
def State.lowerWrite (s : State) (b : Buffered) (v object : Nat) (c : Option Fld) : State :=
  if v = b.val then s
  else
    let s : State := { s with hif := { s.hif with
      shadow := s.hif.shadow.map fun (x : Buffered) => if x.key = b.key then { x with val := v } else x } }
    let s := match c with
      | some f => s.count f
      | none => s
    if b.who = 0 then s else (s.clampReport b.who object b.val v 7).autoRef b.blk

/-- EARLY_TOL that waits is held to the value that keeps every bound (R384). -/
def State.limitEarly (s : State) : State :=
  match (s.dueWrites .window).find? fun b => b.key = Reg.svi_EARLY_TOL.key 0 with
  | none => s
  | some b => s.lowerWrite b (if s.heldEarly b.val = min b.val 1000 then b.val else s.heldEarly b.val) 0x00500300 (some Reg.adm_ADM_HELD)

/-- Shares that wait are held to their totals (R398); a reference that Wheelhouse keeps follows (R107). -/
def State.limitShareWrites (s : State) : State :=
  let t := s.limitShares
  if t.hif.shadow = s.hif.shadow then t
  else if s.hif.shadow.any fun b => b.blk = Reg.slc_TOR_SHARE.blk && b.who ≠ 0 then t.autoRef Reg.slc_TOR_SHARE.blk
  else t

/-- The tiles of a SPARE_N are all vacant or spare, one in test among them (R316, R322). -/
def State.spareFree (s : State) (n : Nat) : Bool :=
  (s.chosenSpares n).all fun t => s.raw Reg.tile_STATE t ≠ 1 && !s.openedSoon t

/-- SPARE_N that waits is reduced to the largest value whose tiles are free (R316). -/
def State.limitSpares (s : State) : State :=
  match (s.dueWrites .hyper).find? fun b => b.key = Reg.tor_SPARE_N.key 0 with
  | none => s
  | some b =>
    let w := min b.val 8
    let n := ((List.range 9).filter fun k => k ≤ w && s.spareFree k).foldl max 0
    s.lowerWrite b (if n = w then b.val else n) 0x00700100 none

/-- SPARE_N_APPLY (R316): the chosen tiles are SPARE, and former spares are vacant. -/
def State.applySpares (s : State) : State :=
  let mine := s.chosenSpares (s.rd Reg.tor_SPARE_N)
  State.syncTiles ((List.range 64).foldl (fun (s : State) t =>
    let st := s.raw Reg.tile_STATE t
    if mine.contains t && st = 0 then s.tileState t 2
    else if !mine.contains t && st = 2 then s.tileState t 0
    else s) s)

/-! ### The accounting window -/

/-- The object of a RED_ register by its address (R234). -/
def redObject (addr : Nat) : Nat := (0x3000 + (addr - 0x200000) / 4) * 256

/-- Pairs and rings after a Window boundary: a changed membership starts with an empty window, and a configuration that
breaks a rule is BAD and, through the dictionary, reported (R211, R237). -/
def State.applyGroups (s before : State) : State :=
  let s := s.checkGroups
  let s := (List.range 12).foldl (fun (s : State) g =>
    if s.groupPorts g = before.groupPorts g && s.groupEn g = before.groupEn g then s
    else s.setGrp g { s.grp g with window := [], supSent := none }) s
  let due := (before.dueWrites .window).filter fun b => b.who ≠ 0
  (List.range 12).foldl (fun (s : State) g =>
    if !s.groupBad g then s
    else
      let fs := if g < 8 then [Reg.pair_PORT_A, Reg.pair_PORT_B, Reg.pair_EN] else [Reg.ring_PORT_A, Reg.ring_PORT_B, Reg.ring_EN]
      (due.filter fun b => fs.any fun f => f.key (if g < 8 then g else g - 8) = b.key).foldl (fun (s : State) b =>
        s.clampReport b.who (redObject b.addr) b.val b.val 7) s) s

/-- Flow control follows the XOFF and XON in force (R200). -/
def State.syncFlow (s : State) : State := (List.range 32).foldl (fun (s : State) p => s.setBe p (s.raw Reg.swp_BE_CELLS p)) s

/-- The staged capture table of the settings store is applied once the stored functions are (R536). -/
def State.bootCapture (s : State) : State :=
  if s.pwr.capDue && s.pwr.started && s.wheelRuns then
    let s : State := { s with pwr := { s.pwr with capDue := false } }
    s.ran (execCapApply .wheelhouse s)
  else s

/-- The registers of a Window boundary, with what follows from them at once (R93, R94). -/
def State.windowWrites (s : State) : State :=
  let s := (s.limitEarly).limitShareWrites
  let before := s
  let s := s.applyBoundary fun b => decide (b.bnd = .window) || decide (b.bnd = .cycle)
  let s := ((s.applyGroups before).syncShares).syncFlow
  (s.ptpWindow).syncPhase.applyUnit before

/-- ACCOUNTING_WINDOW (R93, R94, R472): buffered registers, grants, peers and the Logbook's tables apply; then the capture
engine drains. -/
def execAccountingWindow (s : State) : Host.Outcome State Fault Refusal :=
  .next (
    let n := max (s.stx.lastWin + 1) (s.tai / unitsWin)
    let s := State.advance { s with stx := { s.stx with lastWin := n } } (s.monoOf (n * unitsWin))
    let s := (((s.windowWrites).applyGrants).joinPeers).logApply
    ((s.scanExchangesAt).bootCapture).captureDrain)

/-! ### The pricking frame -/

/-- PRICKING_FRAME_BOUNDARY (R144): the frame that ends is mirrored (R231); chains of slots without a stream apply (R93,
R279); every allocated tile takes its fix, and at each 64th boundary far fixes begin (R342, R343). -/
def execPrickingFrameBoundary (s : State) : Host.Outcome State Fault Refusal :=
  .next (
    let n := max (s.stx.lastFrame + 1) (s.tai / unitsFrame)
    let s := State.advance { s with stx := { s.stx with lastFrame := n } } (s.monoOf (n * unitsFrame))
    let s := ((s.mirrorSend).compareMirror).pruneOwn
    (s.applyChains (s.chainDue none) 0).takeFixes)

/-! ### The hyperperiod -/

/-- The registers of a Hyper boundary but QCLK, whose quads wait for their crossings (R24, R93). -/
def State.hyperWrites (s : State) : State :=
  let s := s.limitSpares
  let due := fun (f : Fld) => (s.dueWrites .hyper).any fun b => b.key = f.key 0
  let spares := due Reg.tor_SPARE_N
  let ambient := due Reg.pwr_MAX_AMBIENT
  let s := s.applyBoundary fun b => decide (b.bnd = .hyper) && !((List.range 16).any fun q => b.key = Reg.quad_QCLK.key q)
  let s := if spares then s.applySpares else s
  if ambient then s.applyAmbient else s

/-- Tile modes that have fallen due change before an exchange of the same boundary (R359). -/
def State.modesAt (s : State) : State :=
  ((List.range 64).filter fun t => match (s.tile t).modeNext with
    | some (_, at_, _) => decide (at_ ≤ s.tai)
    | none => false).foldl (fun (s : State) t => s.ran (execTileModeApply t s)) s

/-- HYPERPERIOD_BOUNDARY (R144): Hyper-boundary registers apply (R93, R316, R626), a new claim enters (R225), withdrawn
instances leave, modes and exchanges take effect (R347, R351, R363). -/
def execHyperperiodBoundary (s : State) : Host.Outcome State Fault Refusal :=
  .next (
    let n := max (s.stx.lastHyper + 1) (s.tai / unitsHyper)
    let s := State.advance { s with stx := { s.stx with lastHyper := n } } (s.monoOf (n * unitsHyper))
    let s := ((s.hyperWrites).claimApply).sweepLeaving
    let s := (s.modesAt).exchangesAt
    if s.wheelRuns then s.checkBoot else s)

end Sys2Proof.Machine
end

