-- ==== Sys2Proof/Machine/Dispatch.lean ====
section
/-!
DEFINITION. The dispatch: one arm per command, each one direct call of that command's meaning.
-/

namespace Sys2Proof.Machine

/-- The effect of a command on everything but the queue. -/
def exec (i : Instr) (s : State) : Host.Outcome State Fault Refusal :=
  match i with
  | .registerWrite a v => Sys2Proof.Machine.execRegisterWrite a v s
  | .rcCounterRead a => Sys2Proof.Machine.execRcCounterRead a s
  | .counter64Read a => Sys2Proof.Machine.execCounter64Read a s
  | .xaccTimeout a read => Sys2Proof.Machine.execXaccTimeout a read s
  | .compatWrite a v => Sys2Proof.Machine.execCompatWrite a v s
  | .compatModeSwitch link => Sys2Proof.Machine.execCompatModeSwitch link s
  | .postedWriteLand link => Sys2Proof.Machine.execPostedWriteLand link s
  | .cfgHoldWrite a v => Sys2Proof.Machine.execCfgHoldWrite a v s
  | .cfgRefWrite a v => Sys2Proof.Machine.execCfgRefWrite a v s
  | .cfgCheckPass b => Sys2Proof.Machine.execCfgCheckPass b s
  | .eventPendClear n event => Sys2Proof.Machine.execEventPendClear n event s
  | .eventMaskWrite n mask => Sys2Proof.Machine.execEventMaskWrite n mask s
  | .msixUnmask link fn entry => Sys2Proof.Machine.execMsixUnmask link fn entry s
  | .slcVecMaskWrite a v => Sys2Proof.Machine.execSlcVecMaskWrite a v s
  | .slcVecPendClear a v sets => Sys2Proof.Machine.execSlcVecPendClear a v sets s
  | .accountingWindow => Sys2Proof.Machine.execAccountingWindow s
  | .prickingFrameBoundary => Sys2Proof.Machine.execPrickingFrameBoundary s
  | .hyperperiodBoundary => Sys2Proof.Machine.execHyperperiodBoundary s
  | .sampleBoundary k => Sys2Proof.Machine.execSampleBoundary k s
  | .xingWaitExpiry src dst => Sys2Proof.Machine.execXingWaitExpiry src dst s
  | .quadClockApply q => Sys2Proof.Machine.execQuadClockApply q s
  | .hello m => Sys2Proof.Machine.execHello m s
  | .helloReply id t => Sys2Proof.Machine.execHelloReply id t s
  | .auth m => Sys2Proof.Machine.execAuth m s
  | .authTimeout id => Sys2Proof.Machine.execAuthTimeout id s
  | .authBlockExpiry ip => Sys2Proof.Machine.execAuthBlockExpiry ip s
  | .data m => Sys2Proof.Machine.execData m s
  | .close m => Sys2Proof.Machine.execClose m s
  | .sessionIdleTimeout id => Sys2Proof.Machine.execSessionIdleTimeout id s
  | .wheelhouseServeRequest => Sys2Proof.Machine.execWheelhouseServeRequest s
  | .read src reqId body => Sys2Proof.Machine.execRead src reqId body s
  | .write src reqId body => Sys2Proof.Machine.execWrite src reqId body s
  | .blockRead src reqId body => Sys2Proof.Machine.execBlockRead src reqId body s
  | .blockWrite src reqId body => Sys2Proof.Machine.execBlockWrite src reqId body s
  | .execute src reqId body => Sys2Proof.Machine.execExecute src reqId body s
  | .txnOpen src reqId body => Sys2Proof.Machine.execTxnOpen src reqId body s
  | .txnCommit src reqId body => Sys2Proof.Machine.execTxnCommit src reqId body s
  | .txnAbort src reqId body => Sys2Proof.Machine.execTxnAbort src reqId body s
  | .txnTimeout src => Sys2Proof.Machine.execTxnTimeout src s
  | .subscribe id reqId body => Sys2Proof.Machine.execSubscribe id reqId body s
  | .ack id note => Sys2Proof.Machine.execAck id note s
  | .notifyResend id note => Sys2Proof.Machine.execNotifyResend id note s
  | .keepalive id reqId body => Sys2Proof.Machine.execKeepalive id reqId body s
  | .mbxGo m abort => Sys2Proof.Machine.execMbxGo m abort s
  | .mbxAbort m => Sys2Proof.Machine.execMbxAbort m s
  | .mbxResponse => Sys2Proof.Machine.execMbxResponse s
  | .timeLatchRead a => Sys2Proof.Machine.execTimeLatchRead a s
  | .stepNow => Sys2Proof.Machine.execStepNow s
  | .setTime => Sys2Proof.Machine.execSetTime s
  | .syncRx p t bytes => Sys2Proof.Machine.execSyncRx p t bytes s
  | .followUpRx p t bytes => Sys2Proof.Machine.execFollowUpRx p t bytes s
  | .announceRx p t bytes => Sys2Proof.Machine.execAnnounceRx p t bytes s
  | .pdelayReqRx p t bytes => Sys2Proof.Machine.execPdelayReqRx p t bytes s
  | .pdelayRespRx p t bytes => Sys2Proof.Machine.execPdelayRespRx p t bytes s
  | .pdelayReqSend p t => Sys2Proof.Machine.execPdelayReqSend p t s
  | .syncRecordExpiry => Sys2Proof.Machine.execSyncRecordExpiry s
  | .masterLossTimeout => Sys2Proof.Machine.execMasterLossTimeout s
  | .masterSend t => Sys2Proof.Machine.execMasterSend t s
  | .holdoverExpired => Sys2Proof.Machine.execHoldoverExpired s
  | .stepApply => Sys2Proof.Machine.execStepApply s
  | .slewDone => Sys2Proof.Machine.execSlewDone s
  | .leapSecondApply => Sys2Proof.Machine.execLeapSecondApply s
  | .ppsInEdge t => Sys2Proof.Machine.execPpsInEdge t s
  | .ppsInLost => Sys2Proof.Machine.execPpsInLost s
  | .ppsOutPulse => Sys2Proof.Machine.execPpsOutPulse s
  | .portFrameRx p t bytes fcsOk => Sys2Proof.Machine.execPortFrameRx p t bytes fcsOk s
  | .pauseRx p t bytes => Sys2Proof.Machine.execPauseRx p t bytes s
  | .pauseExpiry p => Sys2Proof.Machine.execPauseExpiry p s
  | .pauseRefresh p => Sys2Proof.Machine.execPauseRefresh p s
  | .sgmiiControlWord p up speed full => Sys2Proof.Machine.execSgmiiControlWord p up speed full s
  | .linkUp p fec => Sys2Proof.Machine.execLinkUp p fec s
  | .linkDown p => Sys2Proof.Machine.execLinkDown p s
  | .forwarding p => Sys2Proof.Machine.execForwarding p s
  | .heldFrameExpiry p => Sys2Proof.Machine.execHeldFrameExpiry p s
  | .flapHoldExpiry p => Sys2Proof.Machine.execFlapHoldExpiry p s
  | .collision p t => Sys2Proof.Machine.execCollision p t s
  | .backoffExpiry p => Sys2Proof.Machine.execBackoffExpiry p s
  | .quarantineExpiry p => Sys2Proof.Machine.execQuarantineExpiry p s
  | .lpReqWrite p v => Sys2Proof.Machine.execLpReqWrite p v s
  | .pauseImmuneWrite p v => Sys2Proof.Machine.execPauseImmuneWrite p v s
  | .laneModeWrite p lane speed => Sys2Proof.Machine.execLaneModeWrite p lane speed s
  | .maxFrameWrite p v => Sys2Proof.Machine.execMaxFrameWrite p v s
  | .groupPowerOff g => Sys2Proof.Machine.execGroupPowerOff g s
  | .wakePattern p lpWrite => Sys2Proof.Machine.execWakePattern p lpWrite s
  | .groupPowerUp g => Sys2Proof.Machine.execGroupPowerUp g s
  | .superFrameTx q => Sys2Proof.Machine.execSuperFrameTx q s
  | .portMRx t bytes => Sys2Proof.Machine.execPortMRx t bytes s
  | .portMLinkChange up speed => Sys2Proof.Machine.execPortMLinkChange up speed s
  | .cagePresenceChange cage present => Sys2Proof.Machine.execCagePresenceChange cage present s
  | .switchIngress q => Sys2Proof.Machine.execSwitchIngress q s
  | .tagCheckDone => Sys2Proof.Machine.execTagCheckDone s
  | .egressSchedule q ecc => Sys2Proof.Machine.execEgressSchedule q ecc s
  | .txComplete q => Sys2Proof.Machine.execTxComplete q s
  | .starvePromote q c => Sys2Proof.Machine.execStarvePromote q c s
  | .staleFrameDrop => Sys2Proof.Machine.execStaleFrameDrop s
  | .fdbAgeOut mac vid => Sys2Proof.Machine.execFdbAgeOut mac vid s
  | .clsCommit src => Sys2Proof.Machine.execClsCommit src s
  | .epochActivate => Sys2Proof.Machine.execEpochActivate s
  | .epochRetire => Sys2Proof.Machine.execEpochRetire s
  | .auditPass lost dups => Sys2Proof.Machine.execAuditPass lost dups s
  | .supervisionSend t => Sys2Proof.Machine.execSupervisionSend t s
  | .proxyNodeAge mac => Sys2Proof.Machine.execProxyNodeAge mac s
  | .lanSilentTimeout k isB => Sys2Proof.Machine.execLanSilentTimeout k isB s
  | .ringOpenTimeout r => Sys2Proof.Machine.execRingOpenTimeout r s
  | .unitEnWrite v => Sys2Proof.Machine.execUnitEnWrite v s
  | .heartbeatSend t => Sys2Proof.Machine.execHeartbeatSend t s
  | .heartbeat t f => Sys2Proof.Machine.execHeartbeat t f s
  | .partnerLost => Sys2Proof.Machine.execPartnerLost s
  | .soloActiveTimeout => Sys2Proof.Machine.execSoloActiveTimeout s
  | .takeoverEpochWritten t => Sys2Proof.Machine.execTakeoverEpochWritten t s
  | .relinquish => Sys2Proof.Machine.execRelinquish s
  | .takeover => Sys2Proof.Machine.execTakeover s
  | .epochClear src => Sys2Proof.Machine.execEpochClear src s
  | .unfitRelease src => Sys2Proof.Machine.execUnfitRelease src s
  | .mirror t f => Sys2Proof.Machine.execMirror t f s
  | .mirrorLate => Sys2Proof.Machine.execMirrorLate s
  | .resyncStoreReady => Sys2Proof.Machine.execResyncStoreReady s
  | .resyncReq t f => Sys2Proof.Machine.execResyncReq t f s
  | .resyncData t f => Sys2Proof.Machine.execResyncData t f s
  | .resyncAck t f => Sys2Proof.Machine.execResyncAck t f s
  | .svFrameIngest => Sys2Proof.Machine.execSvFrameIngest s
  | .reckonCheck k => Sys2Proof.Machine.execReckonCheck k s
  | .substituteDeclare k => Sys2Proof.Machine.execSubstituteDeclare k s
  | .streamLostTimeout k => Sys2Proof.Machine.execStreamLostTimeout k s
  | .sampleStoreEcc k a word => Sys2Proof.Machine.execSampleStoreEcc k a word s
  | .apertureRead link off size => Sys2Proof.Machine.execApertureRead link off size s
  | .filterChainWrite c s1 s2 => Sys2Proof.Machine.execFilterChainWrite c s1 s2 s
  | .evalStart t now => Sys2Proof.Machine.execEvalStart t now s
  | .add u rd ra rb => Sys2Proof.Machine.execAdd u rd ra rb s
  | .sub u rd ra rb => Sys2Proof.Machine.execSub u rd ra rb s
  | .mul u rd ra rb => Sys2Proof.Machine.execMul u rd ra rb s
  | .and u rd ra rb => Sys2Proof.Machine.execAnd u rd ra rb s
  | .or u rd ra rb => Sys2Proof.Machine.execOr u rd ra rb s
  | .xor u rd ra rb => Sys2Proof.Machine.execXor u rd ra rb s
  | .shl u rd ra rb => Sys2Proof.Machine.execShl u rd ra rb s
  | .shr u rd ra rb => Sys2Proof.Machine.execShr u rd ra rb s
  | .sra u rd ra rb => Sys2Proof.Machine.execSra u rd ra rb s
  | .slt u rd ra rb => Sys2Proof.Machine.execSlt u rd ra rb s
  | .addi u rd ra imm => Sys2Proof.Machine.execAddi u rd ra imm s
  | .ori u rd ra imm => Sys2Proof.Machine.execOri u rd ra imm s
  | .lui u rd imm => Sys2Proof.Machine.execLui u rd imm s
  | .fadd u rd ra rb p => Sys2Proof.Machine.execFadd u rd ra rb p s
  | .fsub u rd ra rb p => Sys2Proof.Machine.execFsub u rd ra rb p s
  | .fmul u rd ra rb p => Sys2Proof.Machine.execFmul u rd ra rb p s
  | .fdiv u rd ra rb p => Sys2Proof.Machine.execFdiv u rd ra rb p s
  | .fma u rd ra rb p => Sys2Proof.Machine.execFma u rd ra rb p s
  | .fsqrt u rd ra p => Sys2Proof.Machine.execFsqrt u rd ra p s
  | .fminmax u rd ra rb p mx => Sys2Proof.Machine.execFminmax u rd ra rb p mx s
  | .fsgn u rd ra rb p sel => Sys2Proof.Machine.execFsgn u rd ra rb p sel s
  | .fcmp u rd ra rb p sel => Sys2Proof.Machine.execFcmp u rd ra rb p sel s
  | .fcvt u rd ra sel => Sys2Proof.Machine.execFcvt u rd ra sel s
  | .fatan2 u rd ra rb p => Sys2Proof.Machine.execFatan2 u rd ra rb p s
  | .fsincos u rd ra p => Sys2Proof.Machine.execFsincos u rd ra p s
  | .vadd u vd va vb p => Sys2Proof.Machine.execVadd u vd va vb p s
  | .vsub u vd va vb p => Sys2Proof.Machine.execVsub u vd va vb p s
  | .vmul u vd va vb p => Sys2Proof.Machine.execVmul u vd va vb p s
  | .vfma u vd va vb p => Sys2Proof.Machine.execVfma u vd va vb p s
  | .vcmac u vd va vb p => Sys2Proof.Machine.execVcmac u vd va vb p s
  | .vsum u va rs p => Sys2Proof.Machine.execVsum u va rs p s
  | .vsplat u vd rs p => Sys2Proof.Machine.execVsplat u vd rs p s
  | .vext u va rs p lane => Sys2Proof.Machine.execVext u va rs p lane s
  | .vld u vd rs fn => Sys2Proof.Machine.execVld u vd rs fn s
  | .vst u vd rs fn => Sys2Proof.Machine.execVst u vd rs fn s
  | .ld u rd ra imm ecc word => Sys2Proof.Machine.execLd u rd ra imm ecc word s
  | .st u rd ra imm => Sys2Proof.Machine.execSt u rd ra imm s
  | .ldin u rd ra imm => Sys2Proof.Machine.execLdin u rd ra imm s
  | .ldss u rd ra imm => Sys2Proof.Machine.execLdss u rd ra imm s
  | .ldssDataArrive u inst n => Sys2Proof.Machine.execLdssDataArrive u inst n s
  | .ldfl u rd ra imm => Sys2Proof.Machine.execLdfl u rd ra imm s
  | .ldsg u rd imm => Sys2Proof.Machine.execLdsg u rd imm s
  | .out u rd ra rb fn => Sys2Proof.Machine.execOut u rd ra rb fn s
  | .ldtm u rd fn => Sys2Proof.Machine.execLdtm u rd fn s
  | .beq u ra rb off => Sys2Proof.Machine.execBeq u ra rb off s
  | .bne u ra rb off => Sys2Proof.Machine.execBne u ra rb off s
  | .blt u ra rb off => Sys2Proof.Machine.execBlt u ra rb off s
  | .bge u ra rb off => Sys2Proof.Machine.execBge u ra rb off s
  | .jal u rd off => Sys2Proof.Machine.execJal u rd off s
  | .jalr u rd ra imm => Sys2Proof.Machine.execJalr u rd ra imm s
  | .endEval u => Sys2Proof.Machine.execEndEval u s
  | .sfb u rd ra imm => Sys2Proof.Machine.execSfb u rd ra imm s
  | .illegal u => Sys2Proof.Machine.execIllegal u s
  | .verdictReceive t => Sys2Proof.Machine.execVerdictReceive t s
  | .replay t => Sys2Proof.Machine.execReplay t s
  | .commitEvaluation t => Sys2Proof.Machine.execCommitEvaluation t s
  | .gooseRepeat p => Sys2Proof.Machine.execGooseRepeat p s
  | .evalLost inst => Sys2Proof.Machine.execEvalLost inst s
  | .farFixComplete inst => Sys2Proof.Machine.execFarFixComplete inst s
  | .farFixLate inst => Sys2Proof.Machine.execFarFixLate inst s
  | .tileFailure ts => Sys2Proof.Machine.execTileFailure ts s
  | .spareLoadDone t => Sys2Proof.Machine.execSpareLoadDone t s
  | .fbDisable src inst E => Sys2Proof.Machine.execFbDisable src inst E s
  | .fbEnable src inst => Sys2Proof.Machine.execFbEnable src inst s
  | .fbExchange src sl old new m => Sys2Proof.Machine.execFbExchange src sl old new m s
  | .exchangeApply inst => Sys2Proof.Machine.execExchangeApply inst s
  | .tileMode src l deep => Sys2Proof.Machine.execTileMode src l deep s
  | .tileModeApply t => Sys2Proof.Machine.execTileModeApply t s
  | .qclkWrite q v => Sys2Proof.Machine.execQclkWrite q v s
  | .admitStreams src check => Sys2Proof.Machine.execAdmitStreams src check s
  | .admitInstanceSet src sl e check deep => Sys2Proof.Machine.execAdmitInstanceSet src sl e check deep s
  | .admitPublications src check => Sys2Proof.Machine.execAdmitPublications src check s
  | .admitScanProgram src sl d check => Sys2Proof.Machine.execAdmitScanProgram src sl d check s
  | .admitWithdrawSet src sl e check => Sys2Proof.Machine.execAdmitWithdrawSet src sl e check s
  | .admitWithdrawScan src sl check => Sys2Proof.Machine.execAdmitWithdrawScan src sl check s
  | .admitQuadClock src c q check => Sys2Proof.Machine.execAdmitQuadClock src c q check s
  | .admitFilterChains src check => Sys2Proof.Machine.execAdmitFilterChains src check s
  | .admissionComputed t => Sys2Proof.Machine.execAdmissionComputed t s
  | .admissionApply => Sys2Proof.Machine.execAdmissionApply s
  | .bind src sl => Sys2Proof.Machine.execBind src sl s
  | .unbind src sl => Sys2Proof.Machine.execUnbind src sl s
  | .reset src sl full => Sys2Proof.Machine.execReset src sl full s
  | .sliceResetDrained sl => Sys2Proof.Machine.execSliceResetDrained sl s
  | .freeze src sl => Sys2Proof.Machine.execFreeze src sl s
  | .freezeDrained sl => Sys2Proof.Machine.execFreezeDrained sl s
  | .thaw src sl => Sys2Proof.Machine.execThaw src sl s
  | .save src sl => Sys2Proof.Machine.execSave src sl s
  | .restore src sl => Sys2Proof.Machine.execRestore src sl s
  | .rebind src sl => Sys2Proof.Machine.execRebind src sl s
  | .sqTail sl b v => Sys2Proof.Machine.execSqTail sl b v s
  | .cqHead sl b v => Sys2Proof.Machine.execCqHead sl b v s
  | .descriptorFetch sl b bytes => Sys2Proof.Machine.execDescriptorFetch sl b bytes s
  | .dmaReadCompletion sl b idx gen data => Sys2Proof.Machine.execDmaReadCompletion sl b idx gen data s
  | .dmaError sl b idx gen info => Sys2Proof.Machine.execDmaError sl b idx gen info s
  | .dmaTimeout sl b idx gen => Sys2Proof.Machine.execDmaTimeout sl b idx gen s
  | .sendComplete sl b idx => Sys2Proof.Machine.execSendComplete sl b idx s
  | .hostFrameDeliver => Sys2Proof.Machine.execHostFrameDeliver s
  | .bobbinEnWrite sl b en => Sys2Proof.Machine.execBobbinEnWrite sl b en s
  | .shareWrite k sl v who => Sys2Proof.Machine.execShareWrite k sl v who s
  | .grantWrite sl g f v who => Sys2Proof.Machine.execGrantWrite sl g f v who s
  | .scanLatch sl => Sys2Proof.Machine.execScanLatch sl s
  | .scanOverrun sl => Sys2Proof.Machine.execScanOverrun sl s
  | .scanAbandon sl => Sys2Proof.Machine.execScanAbandon sl s
  | .scanExchange src sl d m => Sys2Proof.Machine.execScanExchange src sl d m s
  | .scanExchangeApply sl => Sys2Proof.Machine.execScanExchangeApply sl s
  | .scanHold src sl => Sys2Proof.Machine.execScanHold src sl s
  | .scanRun src sl => Sys2Proof.Machine.execScanRun src sl s
  | .forceWrite n enable v who => Sys2Proof.Machine.execForceWrite n enable v who s
  | .capApply src => Sys2Proof.Machine.execCapApply src s
  | .capApplyTakeEffect => Sys2Proof.Machine.execCapApplyTakeEffect s
  | .capTrigger src k => Sys2Proof.Machine.execCapTrigger src k s
  | .captureTick k a => Sys2Proof.Machine.execCaptureTick k a s
  | .triggerEdge line rising t => Sys2Proof.Machine.execTriggerEdge line rising t s
  | .captureFrameRx => Sys2Proof.Machine.execCaptureFrameRx s
  | .xtrigPulseEnd line => Sys2Proof.Machine.execXtrigPulseEnd line s
  | .captureFlushTimeout k => Sys2Proof.Machine.execCaptureFlushTimeout k s
  | .rateRestoreTimeout k => Sys2Proof.Machine.execRateRestoreTimeout k s
  | .postTriggerHoldEnd k => Sys2Proof.Machine.execPostTriggerHoldEnd k s
  | .adcRequestDue r t => Sys2Proof.Machine.execAdcRequestDue r t s
  | .adcStart r => Sys2Proof.Machine.execAdcStart r s
  | .adcConversionDone code ovr => Sys2Proof.Machine.execAdcConversionDone code ovr s
  | .adcResultRead a => Sys2Proof.Machine.execAdcResultRead a s
  | .adcPowerDown => Sys2Proof.Machine.execAdcPowerDown s
  | .adcWakeDone => Sys2Proof.Machine.execAdcWakeDone s
  | .adcTestStep pos code => Sys2Proof.Machine.execAdcTestStep pos code s
  | .fanPeriodStart k t => Sys2Proof.Machine.execFanPeriodStart k t s
  | .bncGenesis src => Sys2Proof.Machine.execBncGenesis src s
  | .bncImport src => Sys2Proof.Machine.execBncImport src s
  | .bncDelete src n => Sys2Proof.Machine.execBncDelete src n s
  | .bncInvalidate src n => Sys2Proof.Machine.execBncInvalidate src n s
  | .bncAttest src nonce => Sys2Proof.Machine.execBncAttest src nonce s
  | .bncPrepareReseal src => Sys2Proof.Machine.execBncPrepareReseal src s
  | .bncUser src => Sys2Proof.Machine.execBncUser src s
  | .bncPairRoll src => Sys2Proof.Machine.execBncPairRoll src s
  | .tagGen req n alg len iv data => Sys2Proof.Machine.execTagGen req n alg len iv data s
  | .tagChk req n alg len iv data tag => Sys2Proof.Machine.execTagChk req n alg len iv data tag s
  | .sign req n msg => Sys2Proof.Machine.execSign req n msg s
  | .verify req n digest sig => Sys2Proof.Machine.execVerify req n digest sig s
  | .sealOp req n nonce aad data => Sys2Proof.Machine.execSealOp req n nonce aad data s
  | .openOp req n nonce aad data => Sys2Proof.Machine.execOpenOp req n nonce aad data s
  | .agree req n clientPub clientNonce moduleNonce => Sys2Proof.Machine.execAgree req n clientPub clientNonce moduleNonce s
  | .measurementExtend d => Sys2Proof.Machine.execMeasurementExtend d s
  | .journalCommitDone ok => Sys2Proof.Machine.execJournalCommitDone ok s
  | .tamper which => Sys2Proof.Machine.execTamper which s
  | .supplyValid t lost => Sys2Proof.Machine.execSupplyValid t lost s
  | .powerGood d t fails => Sys2Proof.Machine.execPowerGood d t fails s
  | .settingsApply t => Sys2Proof.Machine.execSettingsApply t s
  | .readmissionStart t => Sys2Proof.Machine.execReadmissionStart t s
  | .hostLinkTrained link t => Sys2Proof.Machine.execHostLinkTrained link t s
  | .warmReset src => Sys2Proof.Machine.execWarmReset src s
  | .controlProcessorReset src => Sys2Proof.Machine.execControlProcessorReset src s
  | .portGroupReset src g => Sys2Proof.Machine.execPortGroupReset src g s
  | .watchdogExpiry t => Sys2Proof.Machine.execWatchdogExpiry t s
  | .wheelhouseResume t => Sys2Proof.Machine.execWheelhouseResume t s
  | .hostLinkReset link t => Sys2Proof.Machine.execHostLinkReset link t s
  | .brownout t => Sys2Proof.Machine.execBrownout t s
  | .supplyReturn t => Sys2Proof.Machine.execSupplyReturn t s
  | .shutdown t => Sys2Proof.Machine.execShutdown t s
  | .holdupCharged t => Sys2Proof.Machine.execHoldupCharged t s
  | .updInstall src => Sys2Proof.Machine.execUpdInstall src s
  | .updActivate src ok => Sys2Proof.Machine.execUpdActivate src ok s
  | .updConfirm src ok => Sys2Proof.Machine.execUpdConfirm src ok s
  | .updRevert src ok => Sys2Proof.Machine.execUpdRevert src ok s
  | .updDiscard src => Sys2Proof.Machine.execUpdDiscard src s
  | .updSetLoad src ok => Sys2Proof.Machine.execUpdSetLoad src ok s
  | .updSetDefaults src ok => Sys2Proof.Machine.execUpdSetDefaults src ok s
  | .stageExpiry => Sys2Proof.Machine.execStageExpiry s
  | .autoConfirm => Sys2Proof.Machine.execAutoConfirm s
  | .settingsWrite ok => Sys2Proof.Machine.execSettingsWrite ok s
  | .recoveryPackage bytes => Sys2Proof.Machine.execRecoveryPackage bytes s
  | .scrubPass hits => Sys2Proof.Machine.execScrubPass hits s
  | .soundingStep u aborted fails last => Sys2Proof.Machine.execSoundingStep u aborted fails last s
  | .sndPass src => Sys2Proof.Machine.execSndPass src s
  | .sndClearMap src => Sys2Proof.Machine.execSndClearMap src s
  | .logRecordWrite ok => Sys2Proof.Machine.execLogRecordWrite ok s
  | .logClear src scope => Sys2Proof.Machine.execLogClear src scope s
  | .logApply src => Sys2Proof.Machine.execLogApply src s
  | .vbatLowChange low => Sys2Proof.Machine.execVbatLowChange low s
  | .dieTempChange hot => Sys2Proof.Machine.execDieTempChange hot s
  | .thermalShutdown t => Sys2Proof.Machine.execThermalShutdown t s
  | .thermalRestart => Sys2Proof.Machine.execThermalRestart s
  | .maxAmbientWrite v => Sys2Proof.Machine.execMaxAmbientWrite v s
  | .installComplete ok => Sys2Proof.Machine.execInstallComplete ok s
  | .logClearComplete => Sys2Proof.Machine.execLogClearComplete s
  | .programReloadComplete t ty => Sys2Proof.Machine.execProgramReloadComplete t ty s
  | .firmwareRegionEccError word => Sys2Proof.Machine.execFirmwareRegionEccError word s

end Sys2Proof.Machine
end

