-- ==== Sys2Proof/Machine/Frame.lean ====
section
/-!
DEFINITION. The vocabulary of frames: which register fields two states share, what reporting an event, a completion or a
notice may touch, and the fields an event may write.
-/

namespace Sys2Proof.Machine

/-- Every register field reads in `t` as in `s`, but for those listed by key. -/
def State.regsBut (s t : State) (ks : List Nat) : Prop :=
  ∀ (f : Fld) (i : Nat), f.key i ∉ ks → t.raw f i = s.raw f i

/-- Two tables agree at every number but `k`. -/
def Tbl.sameBut {α : Type} (d : α) (m m' : Tbl α) (k : Nat) : Prop := ∀ j, j ≠ k → Tbl.look d m' j = Tbl.look d m j

/-- Two words agree at every bit below `n` but bit `k`. -/
def bitsBut (n v w k : Nat) : Prop := ∀ j, j < n → j ≠ k → bit j w = bit j v

/-- Only registers, messages and notices, completion ring, Logbook and outputs may differ: every other component is the
same. -/
structure Quiet (s t : State) : Prop where
  pending : t.pending = s.pending
  mono : t.mono = s.mono
  opBase : t.opBase = s.opBase
  ident : t.ident = s.ident
  stx : t.stx = s.stx
  net : t.net = s.net
  red : t.red = s.red
  sv : t.sv = s.sv
  tor : t.tor = s.tor
  scan : t.scan = s.scan
  slices : t.slices = s.slices
  bnc : t.bnc = s.bnc
  cap : t.cap = s.cap
  adc : t.adc = s.adc
  pwr : t.pwr = s.pwr
  upd : t.upd = s.upd
  snd : t.snd = s.snd
  freeTick : t.freeTick = s.freeTick
  wh_fleet : t.wh.fleet = s.wh.fleet
  wh_fleetAssigned : t.wh.fleetAssigned = s.wh.fleetAssigned
  wh_idleTimeout : t.wh.idleTimeout = s.wh.idleTimeout
  wh_maxSessions : t.wh.maxSessions = s.wh.maxSessions
  wh_mgrRole : t.wh.mgrRole = s.wh.mgrRole
  wh_mgmtVlan : t.wh.mgmtVlan = s.wh.mgmtVlan
  wh_switchedEn : t.wh.switchedEn = s.wh.switchedEn
  wh_queue : t.wh.queue = s.wh.queue
  wh_responses : t.wh.responses = s.wh.responses
  wh_txns : t.wh.txns = s.wh.txns
  wh_handshakes : t.wh.handshakes = s.wh.handshakes
  wh_failures : t.wh.failures = s.wh.failures
  wh_blocked : t.wh.blocked = s.wh.blocked
  wh_clampNext : t.wh.clampNext = s.wh.clampNext
  wh_clamps : t.wh.clamps = s.wh.clamps
  wh_handleSeq : t.wh.handleSeq = s.wh.handleSeq
  wh_sessionSeq : t.wh.sessionSeq = s.wh.sessionSeq
  wh_counters : t.wh.counters = s.wh.counters
  wh_domains : t.wh.domains = s.wh.domains
  wh_signals : t.wh.signals = s.wh.signals
  wh_peers : t.wh.peers = s.wh.peers
  wh_peerWrites : t.wh.peerWrites = s.wh.peerWrites
  wh_buffers : t.wh.buffers = s.wh.buffers
  wh_draws : t.wh.draws = s.wh.draws
  hif_shadow : t.hif.shadow = s.hif.shadow
  hif_compat : t.hif.compat = s.hif.compat
  hif_postedA : t.hif.postedA = s.hif.postedA
  hif_postedB : t.hif.postedB = s.hif.postedB
  hif_trained : t.hif.trained = s.hif.trained
  hif_msix : t.hif.msix = s.hif.msix
  hif_fn : t.hif.fn = s.hif.fn

/-- The fields of an event source that an event writes (R111, R112). -/
def sourceKeys (n : Nat) : List Nat :=
  [Reg.src_PEND.key n, Reg.src_DELIV.key n, Reg.src_CODE.key n, Reg.src_INFO.key n, Reg.src_LOST.key n]

/-- The fields that an offer to the Logbook writes (R594). -/
def logKeys : List Nat := [Reg.log_QUEUED.key 0, Reg.log_LOG_DROP.key 0, Reg.log_LOG_RATE_DROP.key 0]

/-- Every field that an event at source `n` may write. -/
def eventKeys (n : Nat) : List Nat := sourceKeys n ++ sourceKeys 102 ++ logKeys ++ [Reg.bnc_BNC_REFUSE.key 0]

end Sys2Proof.Machine
end

