-- ==== Sys2Proof/Machine/IsaCode.lean ====
section
/-!
DEFINITION. FB-ISA words and the commands that execute them: the word of an instruction command on its unit, and the
command that a word spells on a unit (R299, R300, R434). LD's two operands beside the word say what its memory gives; a
word spells the LD of a good one.
-/

namespace Sys2Proof.Machine

/-- The unit and word of an instruction command; none for a command of another kind. -/
def isaWord (i : Instr) : Option (Nat × Nat) :=
  match i with
  | .add u rd ra rb => some (u, encR 0x01 rd ra rb 0)
  | .sub u rd ra rb => some (u, encR 0x02 rd ra rb 0)
  | .mul u rd ra rb => some (u, encR 0x03 rd ra rb 0)
  | .and u rd ra rb => some (u, encR 0x04 rd ra rb 0)
  | .or u rd ra rb => some (u, encR 0x05 rd ra rb 0)
  | .xor u rd ra rb => some (u, encR 0x06 rd ra rb 0)
  | .shl u rd ra rb => some (u, encR 0x07 rd ra rb 0)
  | .shr u rd ra rb => some (u, encR 0x08 rd ra rb 0)
  | .sra u rd ra rb => some (u, encR 0x09 rd ra rb 0)
  | .slt u rd ra rb => some (u, encR 0x0A rd ra rb 0)
  | .addi u rd ra imm => some (u, encI 0x0B rd ra imm)
  | .ori u rd ra imm => some (u, encI 0x0C rd ra imm)
  | .lui u rd imm => some (u, encL 0x0D rd imm)
  | .fadd u rd ra rb p => some (u, encR 0x10 rd ra rb (b2n p))
  | .fsub u rd ra rb p => some (u, encR 0x11 rd ra rb (b2n p))
  | .fmul u rd ra rb p => some (u, encR 0x12 rd ra rb (b2n p))
  | .fdiv u rd ra rb p => some (u, encR 0x13 rd ra rb (b2n p))
  | .fma u rd ra rb p => some (u, encR 0x14 rd ra rb (b2n p))
  | .fsqrt u rd ra p => some (u, encR 0x15 rd ra 0 (b2n p))
  | .fminmax u rd ra rb p mx => some (u, encR 0x16 rd ra rb (b2n p + 2 * b2n mx))
  | .fsgn u rd ra rb p sel => some (u, encR 0x17 rd ra rb (b2n p + 2 * sel))
  | .fcmp u rd ra rb p sel => some (u, encR 0x18 rd ra rb (b2n p + 2 * sel))
  | .fcvt u rd ra sel => some (u, encR 0x19 rd ra 0 sel)
  | .fatan2 u rd ra rb p => some (u, encR 0x1A rd ra rb (b2n p))
  | .fsincos u rd ra p => some (u, encR 0x1B rd ra 0 (b2n p))
  | .vadd u vd va vb p => some (u, encV 0x20 vd va vb 0 (b2n p))
  | .vsub u vd va vb p => some (u, encV 0x21 vd va vb 0 (b2n p))
  | .vmul u vd va vb p => some (u, encV 0x22 vd va vb 0 (b2n p))
  | .vfma u vd va vb p => some (u, encV 0x23 vd va vb 0 (b2n p))
  | .vcmac u vd va vb p => some (u, encV 0x24 vd va vb 0 (b2n p))
  | .vsum u va rs p => some (u, encV 0x25 0 va 0 rs (b2n p))
  | .vsplat u vd rs p => some (u, encV 0x26 vd 0 0 rs (b2n p))
  | .vext u va rs p lane => some (u, encV 0x27 0 va 0 rs (b2n p + 2 * lane))
  | .vld u vd rs fn => some (u, encV 0x28 vd 0 0 rs fn)
  | .vst u vd rs fn => some (u, encV 0x29 vd 0 0 rs fn)
  | .sfb u rd ra imm => some (u, encI 0x2A rd ra imm)
  | .ld u rd ra imm ecc word => if ecc = 0 ∧ word = 0 then some (u, encI 0x30 rd ra imm) else none
  | .st u rd ra imm => some (u, encI 0x31 rd ra imm)
  | .ldin u rd ra imm => some (u, encI 0x32 rd ra imm)
  | .ldss u rd ra imm => some (u, encI 0x33 rd ra imm)
  | .ldfl u rd ra imm => some (u, encI 0x34 rd ra imm)
  | .ldsg u rd imm => some (u, encI 0x35 rd 0 imm)
  | .out u rd ra rb fn => some (u, encR 0x36 rd ra rb fn)
  | .ldtm u rd fn => some (u, encR 0x37 rd 0 0 fn)
  | .beq u ra rb off => some (u, encI 0x38 ra rb off)
  | .bne u ra rb off => some (u, encI 0x39 ra rb off)
  | .blt u ra rb off => some (u, encI 0x3A ra rb off)
  | .bge u ra rb off => some (u, encI 0x3B ra rb off)
  | .jal u rd off => some (u, encL 0x3C rd off)
  | .jalr u rd ra imm => some (u, encI 0x3D rd ra imm)
  | .endEval u => some (u, 0x3F * 2 ^ 26)
  | _ => none

/-- The fields of a word (R299). -/
def fRD (w : Nat) : Nat := w / 2 ^ 20 % 64
def fRA (w : Nat) : Nat := w / 2 ^ 14 % 64
def fRB (w : Nat) : Nat := w / 2 ^ 8 % 64
def fVD (w : Nat) : Nat := w / 2 ^ 22 % 16
def fVA (w : Nat) : Nat := w / 2 ^ 18 % 16
def fVB (w : Nat) : Nat := w / 2 ^ 14 % 16
/-- P, fn[0]. -/
def fP (w : Nat) : Bool := decide (w % 2 = 1)

/-- The instruction of a legal word on unit u, by its opcode (R300). -/
def isaOp (u w : Nat) : Option Instr :=
  let op := w / 2 ^ 26
  if op = 0x01 then some (.add u (fRD w) (fRA w) (fRB w))
  else if op = 0x02 then some (.sub u (fRD w) (fRA w) (fRB w))
  else if op = 0x03 then some (.mul u (fRD w) (fRA w) (fRB w))
  else if op = 0x04 then some (.and u (fRD w) (fRA w) (fRB w))
  else if op = 0x05 then some (.or u (fRD w) (fRA w) (fRB w))
  else if op = 0x06 then some (.xor u (fRD w) (fRA w) (fRB w))
  else if op = 0x07 then some (.shl u (fRD w) (fRA w) (fRB w))
  else if op = 0x08 then some (.shr u (fRD w) (fRA w) (fRB w))
  else if op = 0x09 then some (.sra u (fRD w) (fRA w) (fRB w))
  else if op = 0x0A then some (.slt u (fRD w) (fRA w) (fRB w))
  else if op = 0x0B then some (.addi u (fRD w) (fRA w) (w % 2 ^ 14))
  else if op = 0x0C then some (.ori u (fRD w) (fRA w) (w % 2 ^ 14))
  else if op = 0x0D then some (.lui u (fRD w) (w % 2 ^ 20))
  else if op = 0x10 then some (.fadd u (fRD w) (fRA w) (fRB w) (fP w))
  else if op = 0x11 then some (.fsub u (fRD w) (fRA w) (fRB w) (fP w))
  else if op = 0x12 then some (.fmul u (fRD w) (fRA w) (fRB w) (fP w))
  else if op = 0x13 then some (.fdiv u (fRD w) (fRA w) (fRB w) (fP w))
  else if op = 0x14 then some (.fma u (fRD w) (fRA w) (fRB w) (fP w))
  else if op = 0x15 then some (.fsqrt u (fRD w) (fRA w) (fP w))
  else if op = 0x16 then some (.fminmax u (fRD w) (fRA w) (fRB w) (fP w) (decide (w / 2 % 2 = 1)))
  else if op = 0x17 then some (.fsgn u (fRD w) (fRA w) (fRB w) (fP w) (w / 2 % 4))
  else if op = 0x18 then some (.fcmp u (fRD w) (fRA w) (fRB w) (fP w) (w / 2 % 4))
  else if op = 0x19 then some (.fcvt u (fRD w) (fRA w) (w % 8))
  else if op = 0x1A then some (.fatan2 u (fRD w) (fRA w) (fRB w) (fP w))
  else if op = 0x1B then some (.fsincos u (fRD w) (fRA w) (fP w))
  else if op = 0x20 then some (.vadd u (fVD w) (fVA w) (fVB w) (fP w))
  else if op = 0x21 then some (.vsub u (fVD w) (fVA w) (fVB w) (fP w))
  else if op = 0x22 then some (.vmul u (fVD w) (fVA w) (fVB w) (fP w))
  else if op = 0x23 then some (.vfma u (fVD w) (fVA w) (fVB w) (fP w))
  else if op = 0x24 then some (.vcmac u (fVD w) (fVA w) (fVB w) (fP w))
  else if op = 0x25 then some (.vsum u (fVA w) (fRB w) (fP w))
  else if op = 0x26 then some (.vsplat u (fVD w) (fRB w) (fP w))
  else if op = 0x27 then some (.vext u (fVA w) (fRB w) (fP w) (w / 2 % 4))
  else if op = 0x28 then some (.vld u (fVD w) (fRB w) (w % 2 ^ 8))
  else if op = 0x29 then some (.vst u (fVD w) (fRB w) (w % 2 ^ 8))
  else if op = 0x2A then some (.sfb u (fRD w) (fRA w) (w % 2 ^ 14))
  else if op = 0x30 then some (.ld u (fRD w) (fRA w) (w % 2 ^ 14) 0 0)
  else if op = 0x31 then some (.st u (fRD w) (fRA w) (w % 2 ^ 14))
  else if op = 0x32 then some (.ldin u (fRD w) (fRA w) (w % 2 ^ 14))
  else if op = 0x33 then some (.ldss u (fRD w) (fRA w) (w % 2 ^ 14))
  else if op = 0x34 then some (.ldfl u (fRD w) (fRA w) (w % 2 ^ 14))
  else if op = 0x35 then some (.ldsg u (fRD w) (w % 2 ^ 14))
  else if op = 0x36 then some (.out u (fRD w) (fRA w) (fRB w) (w % 2 ^ 5))
  else if op = 0x37 then some (.ldtm u (fRD w) (w % 8))
  else if op = 0x38 then some (.beq u (fRD w) (fRA w) (w % 2 ^ 14))
  else if op = 0x39 then some (.bne u (fRD w) (fRA w) (w % 2 ^ 14))
  else if op = 0x3A then some (.blt u (fRD w) (fRA w) (w % 2 ^ 14))
  else if op = 0x3B then some (.bge u (fRD w) (fRA w) (w % 2 ^ 14))
  else if op = 0x3C then some (.jal u (fRD w) (w % 2 ^ 20))
  else if op = 0x3D then some (.jalr u (fRD w) (fRA w) (w % 2 ^ 14))
  else if op = 0x3F then some (.endEval u)
  else none

/-- The instruction that a word spells on unit u; an illegal word spells none. -/
def isaInstr (u w : Nat) : Option Instr := if legalWord (isScan u) w then isaOp u w else none

end Sys2Proof.Machine
end

