-- ==== Sys2Proof/Certificates/Slice0/Obligations.lean ====
section
/-!
DEFINITION. The statements for the provers. Each says of some commands, under hypotheses on the state and the operands
alone, what next state `exec` answers. Where an equation names the whole next state, what it does not name is unchanged;
where a state is only described, `regsBut` lists the register fields that may differ, and a record update or `Quiet` the
other components.
-/

open Sys2Proof Sys2Proof.Machine

/-- A step runs the command at the front of the queue on the state with the queue's rest; with none waiting it changes
nothing (spec/INDEX.md, notes/assumptions/1.md). -/
def Obligations.StepRunsFrontCommand : Prop :=
  (∀ (c : Instr) (rest : List Instr) (s : State), s.pending = c :: rest → step s = exec c { s with pending := rest }) ∧
  (∀ s : State, s.pending = [] → step s = .next s)

namespace Sys2Proof.Machine

/-- A 32-bit access that its link, its window and its island let through to the registers at its address, in native mode
(R90–R92, R98, R99). -/
def State.admits (s : State) (a : Access) : Prop :=
  s.linkUp a.link = true ∧ a.sizeOk = true ∧ s.windowOk a = true ∧ a.size = 4 ∧ bit a.link s.hif.compat = false
    ∧ s.reach a.addr = true ∧ mailboxOffset a.addr = none ∧ msixAt a.addr = none

end Sys2Proof.Machine

/-- A good 32-bit register write gives each field of the register its part of the word under its access code
(spec/00_scope.md, spec/03_registers_events.md). -/
def Obligations.RegisterWriteReachesEveryField : Prop :=
  (∀ (s : State) (a : Access) (v : Nat), s.admits a → Reg.fieldsAt a.addr ≠ [] → ¬(0x680000 ≤ a.addr ∧ a.addr < 0x700000) →
      a.addr ≠ 0x40000 → a.addr ≠ 0x40040 →
      exec (.registerWrite a v) s = .next ((Reg.fieldsAt a.addr).foldl
        (fun (s : State) fi => s.writeField fi.1 fi.2 (fi.1.cut (v % 2 ^ 32)) (accessInfo a)) s)) ∧
  (∀ (s : State) (a : Access) (v : Nat), s.linkUp a.link = true → a.sizeOk = false →
      exec (.registerWrite a v) s = .next ((s.count Reg.hif_HIF_BAD_ACCESS).raise 118 0x0005 (accessInfo a))) ∧
  (∀ (s : State) (f : Fld) (i v info : Nat), f.own = false → (∀ m, f.clamp ≠ .keepAbove m) →
      (f.acc = .rwb → s.writeField f i v info = s.buffer f i v info) ∧
      (f.acc = .w1c → s.writeField f i v info = s.wr f i (s.raw f i - (s.raw f i &&& v))) ∧
      (f.acc = .rw → f.base < 0x1000000 → s.writeField f i v info = s.wr f i v) ∧
      (f.acc = .ro ∨ f.acc = .rc → s.writeField f i v info = s))

/-- A buffered write leaves the applied value and reads back as the value last written (spec/00_scope.md,
spec/03_registers_events.md). -/
def Obligations.BufferedWriteWaitsAndReadsBack : Prop :=
  ∀ (s : State) (f : Fld) (i v info : Nat), f.acc = .rwb → f.bnd ≠ .frame →
    ((s.hif.shadow.filter fun b => b.blk = f.blk).map (·.addr)).eraseDups.length < 256 →
    s.hif.shadow.all (fun b => b.txn.isNone) = true →
    (s.buffer f i v info).readField f i = v % 2 ^ f.wid ∧
    ∀ (g : Fld) (j : Nat), g.key j ≠ Reg.evt_PEND.key 0 → (s.buffer f i v info).raw g j = s.raw g j

/-- A good 32-bit read returns the register's word and clears its RC fields; a 64-bit counter latches its high half
(spec/00_scope.md, spec/03_registers_events.md, spec/05_ports.md). -/
def Obligations.RegisterReadClearsReadClearCounters : Prop :=
  (∀ (s : State) (a : Access), s.admits a → s.posted a.link = none → s.sliceView a.addr = none →
      Reg.fieldsAt a.addr ≠ [] → ¬(0x21000 ≤ a.addr ∧ a.addr < 0x21210) → s.refresh a.addr = s →
      Reg.adcch_CH_RES.at? a.addr = none → Reg.adcrq_REQ_RES.at? a.addr = none → Tbl.look none s.adc.latch a.addr = none →
      exec (.rcCounterRead a) s = .next (((Reg.fieldsAt a.addr).foldl (fun (s : State) fi => s.clearOnRead fi.1 fi.2) s).emit
        (.readData a.link a.addr (s.readWord a.addr % 2 ^ 32))) ∧
      exec (.counter64Read a) s = exec (.rcCounterRead a) s) ∧
  (∀ (s : State) (p : Nat), p < 32 →
      let t := s.clearOnRead Reg.prt_RX_FRAMES_LO p
      t.raw Reg.prt_RX_FRAMES_HI p = s.raw Reg.prt_RX_FRAMES_UP p ∧ t.raw Reg.prt_RX_FRAMES_LO p = 0 ∧
      t.raw Reg.prt_RX_FRAMES_UP p = 0) ∧
  (∀ (s : State) (f : Fld) (i : Nat), f.acc = .rc → f ≠ Reg.prt_RX_FRAMES_LO → f ≠ Reg.prt_RX_BYTES_LO →
      f ≠ Reg.prt_TX_FRAMES_LO → f ≠ Reg.prt_TX_BYTES_LO → s.clearOnRead f i = s.wr f i 0)

/-- A read of an unmapped or reserved offset returns 0, a write changes nothing, and both count HIF_UNMAPPED and raise
no event (R92). -/
def Obligations.UnmappedAccessIsIgnored : Prop :=
  ∀ (s : State) (a : Access) (v : Nat), s.linkUp a.link = true → a.sizeOk = true → a.size = 4 →
    (s.windowOk a = false ∨ (s.windowOk a = true ∧ bit a.link s.hif.compat = false ∧ s.reach a.addr = true ∧
      s.posted a.link = none ∧ s.refresh a.addr = s ∧ s.sliceView a.addr = none ∧ mailboxOffset a.addr = none ∧
      msixAt a.addr = none ∧ ¬(0x21000 ≤ a.addr ∧ a.addr < 0x21210) ∧ Reg.fieldsAt a.addr = [] ∧
      Reg.adcch_CH_RES.at? a.addr = none ∧ Reg.adcrq_REQ_RES.at? a.addr = none ∧ Tbl.look none s.adc.latch a.addr = none)) →
    exec (.registerWrite a v) s = .next (s.count Reg.hif_HIF_UNMAPPED) ∧
    exec (.rcCounterRead a) s = .next ((s.count Reg.hif_HIF_UNMAPPED).emit (.readData a.link a.addr 0))

/-- COMPAT waits for the Link idle boundary, a posted write that lands clears BUSY, and an access to an island in
reset ends after 10 µs (spec/03_registers_events.md). -/
def Obligations.CompatibilityModeAndPostedWrites : Prop :=
  (∀ (s : State) (a : Access) (v : Nat), s.linkUp a.link = true →
      exec (.compatWrite a v) s = .next ((s.buffer Reg.hif_COMPAT_A 0 (bits 0 0 v) (accessInfo a)).buffer Reg.hif_COMPAT_B 0
        (bits 1 1 v) (accessInfo a))) ∧
  (∀ s : State, 
    let u := (s.landPosted 0).applyBoundary fun b => decide (b.bnd = .linkIdle) && b.key = Reg.hif_COMPAT_A.key 0
    ∃ t, exec (.compatModeSwitch 0) s = .next t ∧ bit 0 t.hif.compat = t.flag Reg.hif_COMPAT_A ∧
      bit 1 t.hif.compat = bit 1 u.hif.compat ∧ t = { u with hif := { u.hif with compat := t.hif.compat } }) ∧
  (∀ s : State, 
    let u := (s.landPosted 1).applyBoundary fun b => decide (b.bnd = .linkIdle) && b.key = Reg.hif_COMPAT_B.key 0
    ∃ t, exec (.compatModeSwitch 1) s = .next t ∧ bit 1 t.hif.compat = t.flag Reg.hif_COMPAT_B ∧
      bit 0 t.hif.compat = bit 0 u.hif.compat ∧ t = { u with hif := { u.hif with compat := t.hif.compat } }) ∧
  (∀ (s : State) (ad v : Nat), s.hif.postedA = some (ad, v) → s.reach ad = true →
      exec (.postedWriteLand 0) s = .next (State.land4
        { s.wr Reg.hif_BUSY_A 0 0 with hif := { (s.wr Reg.hif_BUSY_A 0 0).hif with postedA := none } }
        { link := 0, bar := 0, off := ad, size := 4 } ad 4 v)) ∧
  (∀ (s : State) (a : Access),
    exec (.xaccTimeout a false) s = .next ((s.count Reg.hif_HIF_XACC_TIMEOUT).raise 118 0x0004 (accessInfo a)) ∧
    exec (.xaccTimeout a true) s =
      .next (((s.count Reg.hif_HIF_XACC_TIMEOUT).raise 118 0x0004 (accessInfo a)).emit (.readData a.link a.addr 0xFFFFFFFF)))

/-- A hold keeps buffered writes from every boundary, and the checker reports a first mismatch, a further one, and a
match again (spec/03_registers_events.md). -/
def Obligations.ConfigurationHoldAndChecker : Prop :=
  (∀ (s : State) (a : Access) (v : Nat), s.linkUp a.link = true → exec (.cfgHoldWrite a v) s = .next (s.wr Reg.evt_HOLD 0 v)) ∧
  (∀ (s : State) (a : Access) (v b : Nat), s.linkUp a.link = true → b < 19 → a.addr = Reg.evt_EVT_CFG_REF.addr b →
      exec (.cfgRefWrite a v) s = .next (s.bufferRef b v)) ∧
  (∀ (s : State) (p : Buffered → Bool) (b : Buffered), b ∈ s.hif.shadow → s.held b.blk = true → b.bnd ≠ .cfgRef →
      s.hif.shadow.all (fun b => b.txn.isNone) = true → b ∈ (s.applyBoundary p).hif.shadow) ∧
  (∀ (s : State) (b : Nat), b < 19 →
    let u := s.wr Reg.evt_EVT_CFG_LIVE b (s.cfgCrc b)
    let w := u.wr Reg.evt_EVT_CFG_ALL 0 (crcOfBlocks ((List.range 19).map fun k => u.raw Reg.evt_EVT_CFG_LIVE k))
    let equal := w.raw Reg.evt_EVT_CFG_LIVE b = w.raw Reg.evt_EVT_CFG_REF b
    let bad := bit b (w.raw Reg.evt_BAD) = true
    let counted := w.count Reg.evt_EVT_CFG_MISMATCH b
    (bit b (s.raw Reg.evt_CHK_EN) = false → exec (.cfgCheckPass b) s = .next s) ∧
    (bit b (s.raw Reg.evt_CHK_EN) = true → equal → ¬bad → exec (.cfgCheckPass b) s = .next w) ∧
    (bit b (s.raw Reg.evt_CHK_EN) = true → equal → bad →
      exec (.cfgCheckPass b) s = .next ((w.wr Reg.evt_BAD 0 (clearBit b (w.raw Reg.evt_BAD))).raise 110 0x000D b)) ∧
    (bit b (s.raw Reg.evt_CHK_EN) = true → ¬equal → bad → exec (.cfgCheckPass b) s = .next counted) ∧
    (bit b (s.raw Reg.evt_CHK_EN) = true → ¬equal → ¬bad →
      exec (.cfgCheckPass b) s = .next ((counted.wr Reg.evt_BAD 0 (setBit b (counted.raw Reg.evt_BAD))).raise 110 0x000C b)))

/-- Clearing a source ends its pending event; an event of the same cycle stands as one new pending event
(spec/03_registers_events.md). -/
def Obligations.PendClearAndEventOfOneCycle : Prop :=
  (∀ (s : State) (n : Nat), n < 128 → ∃ t, exec (.eventPendClear n none) s = .next t ∧
      t.raw Reg.src_PEND n = 0 ∧ t.raw Reg.src_DELIV n = 0 ∧ t.raw Reg.src_LOST n = 0 ∧
      s.regsBut t [Reg.src_PEND.key n, Reg.src_DELIV.key n, Reg.src_LOST.key n] ∧ t = { s with
        regs := t.regs, hif := { s.hif with due := Tbl.put false (Tbl.put false s.hif.due n false) (128 + n) false } }) ∧
  (∀ (s : State) (n code info : Nat), n < 128 → n ≠ 102 → s.raw Reg.src_EN n = 1 →
      ∃ t, exec (.eventPendClear n (some (code, info))) s = .next t ∧ t.raw Reg.src_PEND n = 1 ∧
        t.raw Reg.src_CODE n = code % 2 ^ 16 ∧ t.raw Reg.src_INFO n = info % 2 ^ 32 ∧ t.raw Reg.src_LOST n = 0 ∧
        Quiet s t ∧ s.regsBut t (eventKeys n)) ∧
  (∀ (s : State) (n code info : Nat), n < 128 → s.raw Reg.src_PEND n = 1 →
      let t := s.pendEvent n code info
      t.raw Reg.src_CODE n = s.raw Reg.src_CODE n ∧ t.raw Reg.src_INFO n = s.raw Reg.src_INFO n ∧
      t.raw Reg.src_LOST n = min 255 (s.raw Reg.src_LOST n + 1) ∧ s.regsBut t [Reg.src_LOST.key n] ∧
      t = { s with regs := t.regs })

/-- Unmasking sends the message that waits, once, with the entry's address and data; a slice vector keeps its mask and
pending bits (spec/03_registers_events.md). -/
def Obligations.UnmaskingSendsTheWaitingMessage : Prop :=
  (∀ (s : State) (n : Nat), n < 128 → s.raw Reg.hif_SPLIT = 0 → Tbl.look false s.hif.due n = true → s.fnOpen 0 n = true →
      (Tbl.look ({} : MsixEntry) s.hif.msix n).masked = false →
      let e := Tbl.look ({} : MsixEntry) s.hif.msix n
      ∃ t, exec (.eventMaskWrite n false) s = .next t ∧ t.out = .msix 0 (entryFn n) e.addr e.data :: s.out ∧
        t.raw Reg.src_MASK n = 0 ∧ t.raw Reg.src_DELIV n = 1 ∧ s.regsBut t [Reg.src_MASK.key n, Reg.src_DELIV.key n] ∧
        t = { s with regs := t.regs, out := t.out, hif := { s.hif with
          due := Tbl.put false s.hif.due n false, pba := Tbl.put false s.hif.pba n false } }) ∧
  (∀ (s : State) (n : Nat), n < 128 → exec (.eventMaskWrite n true) s = .next (s.wr Reg.src_MASK n 1)) ∧
  (∀ (s : State) (link fn e : Nat), e < 128 → s.fnOpen link e = true → Tbl.look false s.hif.pba (link * 4224 + e) = true →
      let en := Tbl.look ({} : MsixEntry) s.hif.msix (link * 4224 + e)
      ∃ t, exec (.msixUnmask link fn (some e)) s = .next t ∧ t.out = .msix link (entryFn e) en.addr en.data :: s.out ∧
        s.regsBut t [Reg.src_DELIV.key e] ∧ (s.flag Reg.src_PEND e = false → t.regs = s.regs) ∧
        (s.flag Reg.src_PEND e = true → t.raw Reg.src_DELIV e = 1) ∧
        t = { s with regs := t.regs, out := t.out, hif := { s.hif with
          pba := Tbl.put false s.hif.pba (link * 4224 + e) false,
          msix := Tbl.put ({} : MsixEntry) s.hif.msix (link * 4224 + e) { en with masked := false } } }) ∧
  (∀ (s : State) (a : Access) (v sl : Nat), s.windowSlice a = some sl →
    (Tbl.look 0 s.hif.vecDue sl = 0 → exec (.slcVecMaskWrite a v) s = .next (s.wr Reg.vec_SLC_VEC_MASK sl v)) ∧
    (∃ t, exec (.slcVecPendClear a v 0) s = .next t ∧
      t.raw Reg.vec_SLC_VEC_PEND sl = s.raw Reg.vec_SLC_VEC_PEND sl - (s.raw Reg.vec_SLC_VEC_PEND sl &&& v) % 2 ^ 32 ∧
      s.regsBut t [Reg.vec_SLC_VEC_PEND.key sl] ∧ t = { s with
        regs := t.regs, hif := { s.hif with vecDue := Tbl.upd 0 s.hif.vecDue sl fun d => d - (d &&& v) } }))

/-- A HELLO starts a handshake, is refused at the limits or ignored while blocked; the reply carries the signed
transcript and opens the session (spec/02_object_dictionary.md, spec/17_binnacle_keys.md). -/
def Obligations.HandshakeBeginsAndIsAnswered : Prop :=
  (∀ (s : State) (m : Msg), let u := s.advance m.t; u.reaches m none = true → msgFits m = true →
    (u.isBlocked m.ip = true → exec (.hello m) s = .next (u.dropped 7)) ∧
    (u.isBlocked m.ip = false → u.isAddressed m = true → m.body.length = 129 →
      (u.wh.maxSessions ≤ u.wh.sessions.length + u.wh.handshakes.length →
        exec (.hello m) s = .next ((u.countStatus 0 stSESSION_LIMIT).sendClear m.ip 0x1E 0 (u.wh.fleet % 2 ^ 20)
          (beBytes 1 stSESSION_LIMIT))) ∧
      (u.wh.sessions.length + u.wh.handshakes.length < u.wh.maxSessions → 8 ≤ u.wh.handshakes.length →
        exec (.hello m) s = .next (u.dropped 5)) ∧
      (u.wh.sessions.length + u.wh.handshakes.length < u.wh.maxSessions → u.wh.handshakes.length < 8 →
        ∃ t h, exec (.hello m) s = .next t ∧ h.ip = m.ip ∧ h.clientPub = m.body.take 97 ∧
          h.clientNonce = slice 97 32 m.body ∧ h.id = u.wh.sessionSeq % (2 ^ 32 - 1) + 1 ∧
          t = { u with wh := { u.wh with sessionSeq := h.id, handshakes := u.wh.handshakes ++ [h] } }))) ∧
  (∀ (s : State) (id now : Nat) (h : Handshake) (n : Nat) (root key : Bytes),
    s.wh.handshakes.find? (fun h => h.id = id) = some h → s.wheelRuns = true → s.keyFor 4 0 = .ok root →
    s.keyFor 1 useSign = .ok key → s.poolSlot = some n → n ≠ 1 →
    let pub := Config.ecPublic (Config.random (s.wh.draws + 1) 48)
    let body := replyBody s h pub (Config.random s.wh.draws 32)
    let hash := Config.sha384 (h.clientPub ++ h.clientNonce ++ body)
    ∃ t x k, exec (.helloReply id now) s = .next t ∧ x.id = h.id ∧ x.ip = h.ip ∧
      x.authed = false ∧ x.transcript = hash ∧ x.slot = n ∧ x.replied = max s.mono now ∧
      k.state = 1 ∧ k.kind = 7 ∧ k.usage = 4 ∧ k.parent = 4 ∧ k.version = (s.slot n).version + 1 ∧
      s.regsBut t [Reg.bnc_SLOTS_ACTIVE.key 0, Reg.bnc_SLOTS_ORPHANED.key 0] ∧
      t = { s with
        regs := t.regs, mono := max s.mono now, out := t.out,
        bnc := { s.bnc with slots := Tbl.put ({} : KeySlot) s.bnc.slots n k },
        wh := { s.wh with
          sessions := s.wh.sessions ++ [x], handshakes := s.wh.handshakes.filter (fun y => y.id ≠ id), draws := s.wh.draws + 2 } } ∧
      t.out = .chartroom h.ip (chartHeader 2 h.id 0 h.fleet 0 (body ++ Config.ecSign key hash).length
        ++ (body ++ Config.ecSign key hash)) :: s.out) ∧
  (∀ (s : State) (ip until_ : Nat), s.wh.blocked.find? (fun e => e.1 = ip) = some (ip, until_) →
    ∃ t, exec (.authBlockExpiry ip) s = .next t ∧ t.isBlocked ip = false ∧ t = { s with
      mono := max s.mono until_, wh := { s.wh with blocked := s.wh.blocked.filter fun x => x.1 ≠ ip } })

namespace Sys2Proof.Machine

/-- A message of session `x` passes the checks before its tag: path, size, fleet, authentication, SEQ and a usable key (R67,
R69, R73). -/
def State.opens (u : State) (m : Msg) (auth : Bool) (x : Session) (k : Bytes) : Prop :=
  u.session m.session = some x ∧ u.reaches m (some x) = true ∧ msgFits m = true ∧ m.fleet = x.fleet ∧
    (auth = true → x.authed = true) ∧ seqOk x m.seq = true ∧ u.keyFor x.slot useSeal = .ok k

/-- The plaintext of a message of type `ty`, none when its tag is bad (R73). -/
def clearText (m : Msg) (x : Session) (k : Bytes) (ty : Nat) : Option Bytes :=
  Config.gcmOpen (k.take 32) (slice 32 4 k ++ beBytes 8 m.seq)
    (chartHeader ty x.id m.seq m.fleet (b2n m.any) (m.body.length - 16)) m.body

/-- The session and the state once a message has been opened. -/
def opened (u : State) (m : Msg) (x : Session) : Session := { noteSeq x m.seq with lastMsg := u.mono }

end Sys2Proof.Machine

/-- A message of a session is opened under its key: AUTH grants or ends the session, DATA joins the queue, CLOSE ends
it; silence ends it too (spec/02_object_dictionary.md). -/
def Obligations.SessionMessagesOpenAndTimeOut : Prop :=
  (∀ (s : State) (m : Msg) (x : Session) (k : Bytes), let u := s.advance m.t
    u.opens m false x k → x.authed = false →
      let y := opened u m x
      let w := u.setSession y
      exec (.auth m) s = .next (match clearText m x k 3 with
        | none => u.dropped 1
        | some p => match w.authUser m y p with
          | some (user, role, sl) => w.grantAuth y user role sl
          | none => (((w.countStatus 0 stAUTH_FAILED).sendSession y 4 (beBytes 1 stAUTH_FAILED)).authFailed m.ip).dropSession y.id)) ∧
  (∀ (s : State) (m : Msg) (x : Session) (k : Bytes), let u := s.advance m.t
    u.opens m true x k →
      let w := (u.setSession (opened u m x)).touchTxn (.session x.id)
      exec (.data m) s = .next (match clearText m x k 0x10 with
        | none => u.dropped 1
        | some p =>
          let r := w.request (.session x.id) (be 0 1 p) (be 2 2 p) (p.drop 4)
          if p.length < 4 then w.respond r stBAD_LENGTH []
          else if s.wh.queue.length < 64 then { w with wh := { w.wh with queue := s.wh.queue ++ [r] } }
          else if r.op = 0x0B then w else w.respond r stBUSY [])) ∧
  (∀ (s : State) (m : Msg) (x : Session) (k : Bytes), let u := s.advance m.t
    u.opens m false x k →
      exec (.close m) s = .next (match clearText m x k 0x1F with
        | none => u.dropped 1
        | some _ => (u.setSession (opened u m x)).dropSession x.id)) ∧
  (∀ (s : State) (id : Nat) (x : Session), s.session id = some x → s.wheelRuns = true →
    (x.authed = false → exec (.authTimeout id) s = .next ((s.advance (x.replied + 5 * unitsSec)).dropSession id)) ∧
    (x.authed = true → exec (.sessionIdleTimeout id) s = .next ((s.advance (x.lastMsg + x.idle * unitsSec)).dropSession id))) ∧
  (∀ (s : State) (id reqId : Nat) (x : Session), s.session id = some x → x.authed = true → x.id = id → s.wheelRuns = true →
    let put := fun (x : Session) => if x.id = id then { x with lastMsg := s.mono } else x
    let w := State.touchTxn { s with wh := { s.wh with sessions := s.wh.sessions.map put } } (.session id)
    exec (.keepalive id reqId []) s = .next (w.respond (w.request (.session id) 0x0C reqId []) stOK []))

/-- READ answers the object in force, WRITE the applied value, BLOCK_READ the bytes of a domain, and BLOCK_WRITE puts
its bytes and claims the domain (spec/02_object_dictionary.md). -/
def Obligations.ReadWriteAndBlockTransfers : Prop :=
  (∀ (s : State) (src : Requester) (reqId : Nat) (body : Bytes) (o : Obj), s.wheelRuns = true → s.canAsk src = true →
    let w := s.touchTxn src
    let r := w.request src 1 reqId body
    body.length = 4 → w.right r (be 0 3 body) (be 3 1 body) .r = true → w.findObj (be 0 3 body) (be 3 1 body) = .ok o →
    w.objType o ≠ tyDOMAIN →
    exec (.read src reqId body) s = .next ((w.readObj o).2.respond r stOK
      (beBytes 1 (w.objType o) ++ beBytes 2 (w.readObj o).1.length ++ (w.readObj o).1))) ∧
  (∀ (s : State) (src : Requester) (reqId : Nat) (body : Bytes) (o : Obj), s.wheelRuns = true → s.canAsk src = true →
    let w := s.touchTxn src
    let r := w.request src 2 reqId body
    let index := be 0 3 body
    let v := body.drop 7
    7 ≤ body.length → v.length = be 5 2 body → w.writeCheck r index (be 3 1 body) (be 4 1 body) v = .ok o →
    w.wh.txns.find? (fun x => x.owner = src && x.covers index) = none →
    let z := w.writeObj o (index * 256 + be 3 1 body) v { who := r.who, link := w.writeLink src }
    exec (.write src reqId body) s = .next ((z.2.2.wrote o).respond r (if z.1 then stCLAMPED else stOK)
      (body.take 5 ++ beBytes 2 z.2.1.length ++ z.2.1))) ∧
  (∀ (s : State) (src : Requester) (reqId : Nat) (body : Bytes) (ro : Bool) (limit : Nat), s.wheelRuns = true →
    s.canAsk src = true →
    let w := s.touchTxn src
    let r := w.request src 3 reqId body
    let b := w.domainRead (be 0 3 body) (be 4 4 body) (min (be 8 2 body) (w.domainLen (be 0 3 body) - be 4 4 body))
    body.length = 10 → be 8 2 body ≤ 1348 → w.blockObj r .r = .ok (ro, limit) → be 4 4 body < w.domainLen (be 0 3 body) →
    exec (.blockRead src reqId body) s = .next (w.respond r stOK (body.take 8 ++ beBytes 2 b.length ++ b))) ∧
  (∀ (s : State) (src : Requester) (reqId : Nat) (body : Bytes) (limit : Nat), s.wheelRuns = true → s.canAsk src = true →
    let w := s.touchTxn src
    let r := w.request src 4 reqId body
    let index := be 0 3 body
    let b := body.drop 10
    10 ≤ body.length → be 8 2 body ≤ 1348 → b.length = be 8 2 body → w.blockObj r .w = .ok (false, limit) →
    index ≠ 0x040A00 → index ≠ 0x040400 → w.domainLocked index = false →
    (w.domain index 0).owner = none ∨ (w.domain index 0).owner = some src → be 4 4 body + be 8 2 body ≤ limit →
    ∃ t : State, exec (.blockWrite src reqId body) s = .next (t.respond r stOK (body.take 10)) ∧
      (t.domain index 0).owner = some src ∧ (storedDomain index = false → t.upd = s.upd) ∧ t = { w with
        upd := { w.upd with dirty := t.upd.dirty },
        wh := { w.wh with domains := Tbl.put ({} : Domain) w.wh.domains (index * 256) (t.domain index 0) } } ∧
      (b ≠ [] → Memory.readBytes (t.domain index 0).bytes (be 4 4 body) b.length = b))

/-- A write beyond the limits of its transaction completes with TXN_FULL, is not staged, and leaves the transaction
open; one within them is staged (R59). -/
def Obligations.TransactionLimits : Prop :=
  ∀ (s : State) (src : Requester) (reqId : Nat) (body : Bytes) (o : Obj) (x : Txn), s.wheelRuns = true → s.canAsk src = true →
    let w := s.touchTxn src
    let r := w.request src 2 reqId body
    let index := be 0 3 body
    let v := body.drop 7
    let full := 1024 < x.writes.length + 1 ∨ 65536 < (x.writes.map fun e => e.value.length).sum + v.length
    7 ≤ body.length → v.length = be 5 2 body → w.writeCheck r index (be 3 1 body) (be 4 1 body) v = .ok o →
    w.wh.txns.find? (fun x => x.owner = src && x.covers index) = some x →
    let one : Staged := { index := index, sub := be 3 1 body, value := v }
    let add := fun (y : Txn) => if y.owner = src then { y with writes := y.writes ++ [one] } else y
    (full → exec (.write src reqId body) s = .next (w.respond r stTXN_FULL [])) ∧
    (¬full → exec (.write src reqId body) s = .next (State.respond { w with wh := { w.wh with txns := w.wh.txns.map add } } r
      stOK body))

/-- TXN_OPEN opens one transaction for its scope, COMMIT applies it under a handle, ABORT and 30 s of silence discard
it; EXECUTE answers its handle (spec/02_object_dictionary.md). -/
def Obligations.TransactionsAndCommands : Prop :=
  (∀ (s : State) (src : Requester) (reqId scope : Nat), s.wheelRuns = true → s.canAsk src = true → scope < 2 →
    let w := s.touchTxn src
    let r := w.request src 6 reqId (beBytes 1 scope)
    let kind := if (w.roleOf r).1 = 5 then some (w.roleOf r).2 else none
    (scope = 1 ↔ (w.roleOf r).1 = 5) → w.wh.txns.all (fun x => decide (x.owner ≠ src ∧ x.scope ≠ kind)) = true →
    let x : Txn := { owner := src, scope := kind, lastMsg := s.mono }
    exec (.txnOpen src reqId (beBytes 1 scope)) s = .next (State.respond { w with wh := { w.wh with txns := w.wh.txns ++ [x] } } r
      stOK [])) ∧
  (∀ (s : State) (src : Requester) (reqId : Nat) (x : Txn), s.wheelRuns = true → s.canAsk src = true →
    let w := s.touchTxn src
    w.wh.txns.find? (fun x => x.owner = src) = some x → (let r := w.request src 7 reqId [];
      exec (.txnCommit src reqId []) s = .next ((w.respond r stOK (beBytes 4 (w.newHandle src).1)).commitTxn r x)) ∧
    (let left := w.wh.txns.filter (fun y => y.owner ≠ src);
      exec (.txnAbort src reqId []) s = .next (State.respond { w with wh := { w.wh with txns := left } }
        (w.request src 8 reqId []) stOK []))) ∧
  (∀ (s : State) (src : Requester) (x : Txn), s.wheelRuns = true → s.wh.txns.find? (fun x => x.owner = src) = some x →
    exec (.txnTimeout src) s = .next ((s.advance (x.lastMsg + 30 * unitsSec)).discardTxns (fun y => y.owner = src) 1)) ∧
  (∀ (s : State) (src : Requester) (reqId : Nat) (body : Bytes), s.wheelRuns = true → s.canAsk src = true →
    let w := s.touchTxn src
    let r := w.request src 5 reqId body
    (∀ f, w.opExecute r = .ok f →
      exec (.execute src reqId body) s = .next (f (w.respond r stOK (beBytes 4 (w.newHandle src).1)))) ∧
    (∀ e, w.opExecute r = .error e → exec (.execute src reqId body) s = .next (w.respond r e [])))

/-- Wheelhouse serves the oldest request; a mailbox submits, drops, withdraws and answers; SUBSCRIBE, ACK and resends
keep the notices of a session (spec/02_object_dictionary.md). -/
def Obligations.QueueMailboxesAndNotices : Prop :=
  (∀ (s : State) (r : Request) (rest : List Request), s.wh.queue = r :: rest → s.wheelRuns = true →
    exec .wheelhouseServeRequest s = .next (State.serve (let w : State := { s with wh := { s.wh with queue := rest } }
      if r.src.mailbox then w.mbxPut r.src 0 0 else w) r)) ∧
  (∀ (s : State) (link : Nat), s.linkUp link = true → s.raw Reg.mmbx_BUSY link = 0 →
    4 ≤ s.raw Reg.mmbx_REQLEN link → s.raw Reg.mmbx_REQLEN link ≤ 1362 → s.wh.queue.length < 64 →
    let b := Memory.readBytes s.wh.buffers (0xE400 + 0x1000 * link) (s.raw Reg.mmbx_REQLEN link)
    let w := s.touchTxn (.manager link)
    ∃ t r, exec (.mbxGo (.manager link) false) s = .next t ∧ r.src = .manager link ∧ r.op = be 0 1 b ∧
      r.reqId = be 2 2 b % 2 ^ 16 ∧ r.body = b.drop 4 ∧ t.raw Reg.mmbx_GO link = 1 ∧ t.raw Reg.mmbx_BUSY link = 1 ∧
      s.regsBut t [Reg.mmbx_GO.key link, Reg.mmbx_BUSY.key link] ∧
      t = { w with regs := t.regs, wh := { w.wh with queue := s.wh.queue ++ [r] } }) ∧
  (∀ (s : State) (link : Nat), s.linkUp link = true → s.raw Reg.mmbx_BUSY link = 1 →
    ∃ t, exec (.mbxGo (.manager link) false) s = .next t ∧ t.raw Reg.mmbx_OVERRUN link = 1 ∧
      t.raw Reg.mmbx_DROP link = (s.raw Reg.mmbx_DROP link + 1) % 2 ^ 32 ∧
      s.regsBut t [Reg.mmbx_OVERRUN.key link, Reg.mmbx_DROP.key link] ∧ t = { s with regs := t.regs }) ∧
  (∀ (s : State) (link : Nat), s.linkUp link = true → s.wh.queue.any (fun r => r.src = .manager link) = true →
    ∃ t, exec (.mbxAbort (.manager link)) s = .next t ∧ t.raw Reg.mmbx_GO link = 0 ∧ s.regsBut t [Reg.mmbx_GO.key link] ∧
      ∃ b, b.src = .manager link ∧ b.status = stABORTED ∧ t = { s with
        regs := t.regs, wh := { s.wh with
          queue := s.wh.queue.filter (fun r => r.src ≠ .manager link),
          responses := s.wh.responses.filter (fun r => r.src ≠ .manager link) ++ [b] } }) ∧
  (∀ (s : State) (r : Response) (rest : List Response) (link : Nat), s.wh.responses = r :: rest → r.src = .manager link →
    s.wheelRuns = true → link < 2 → r.status < 256 →
    ∃ t, exec .mbxResponse s = .next t ∧ t.raw Reg.mmbx_BUSY link = 0 ∧
      t.raw Reg.mmbx_DONE link = 1 ∧ t.raw Reg.mmbx_STATUS link = r.status ∧
      Memory.readBytes t.wh.buffers (0xEA00 + 0x1000 * link) r.bytes.length = r.bytes ∧
      s.regsBut t (eventKeys (116 + link) ++ [Reg.mmbx_BUSY.key link, Reg.mmbx_DONE.key link, Reg.mmbx_STATUS.key link,
        Reg.mmbx_RSPLEN.key link, Reg.mmbx_SERVED.key link]) ∧
      Quiet { s with wh := { s.wh with
        responses := rest, counters := t.wh.counters,
        buffers := Memory.writeBytes s.wh.buffers (0xEA00 + 0x1000 * link) r.bytes } } t) ∧
  (∀ (s : State) (id reqId : Nat) (body : Bytes), s.wheelRuns = true → s.canAsk (.session id) = true → body.length = 17 →
    let put := fun (x : Session) =>
      if x.id = id then { x with sources := le 0 16 body, completions := decide (le 16 1 body ≠ 0) } else x
    let w := s.touchTxn (.session id)
    exec (.subscribe id reqId body) s = .next (State.respond { w with wh := { w.wh with sessions := w.wh.sessions.map put } }
      (w.request (.session id) 9 reqId body) stOK [])) ∧
  (∀ (s : State) (id note : Nat), s.wheelRuns = true → s.canAsk (.session id) = true → note < 2 ^ 32 →
    exec (.ack id note) s = .next ((s.touchTxn (.session id)).ackNote id note)) ∧
  (∀ (s : State) (id note : Nat) (x : Session) (n : Note), s.session id = some x → x.notes.find? (fun n => n.id = note) = some n →
    s.wheelRuns = true → let u := s.advance (n.last + 100 * unitsMs)
    (5 ≤ n.resent → exec (.notifyResend id note) s = .next ((u.ackNote id note).countStatus 3 2)) ∧
    (n.resent < 5 →
      let again := fun (y : Note) => if y.id = note then { y with resent := y.resent + 1, last := u.mono } else y
      let put := fun (y : Session) => if y.id = id then { y with notes := y.notes.map again } else y
      exec (.notifyResend id note) s = .next (State.sendSession
        { u with wh := { u.wh with sessions := u.wh.sessions.map put } } x 0x10 ([0x0A, 0, 0, 0] ++ n.body))))

/-- SET_TIME makes the set time a step in FREERUN, its seconds alone in PPS, and is counted and ignored in every other
state (R143). -/
def Obligations.SetTimeStepsInFreerunAndPps : Prop :=
  ∀ s : State,
    let sec := s.raw Reg.stx_STX_SET_SEC_LO + s.raw Reg.stx_STX_SET_SEC_HI * 2 ^ 32
    let st := s.raw Reg.stx_STATE
    (st = 0 → ∃ d, exec .setTime s = .next { s with stx := { s.stx with step := some d, secondsSet := true } } ∧
      (s.tai : Int) + d = ((sec * unitsSec + s.rd Reg.stx_STX_SET_NS * unitsNs : Nat) : Int)) ∧
    (st = 5 → ∃ d, exec .setTime s = .next { s with stx := { s.stx with step := some (d * unitsSec), secondsSet := true } } ∧
      ((s.tai / unitsSec : Nat) : Int) + d = sec) ∧
    (st ≠ 0 → st ≠ 5 → exec .setTime s = .next (s.count Reg.stx_STX_SET_IGNORED))

namespace Sys2Proof.Machine

/-- The Sextant `x` with what a change of its state writes taken from `y` (R135, R142). -/
def Sextant.entered (x y : Sextant) : Sextant :=
  { x with lockedAt := y.lockedAt, drAt := y.drAt, good := y.good, backupSince := y.backupSince, ppsOut := y.ppsOut }

/-- The register fields that a change of the Sextant's state may write (R135, R142). -/
def stateKeys : List Nat :=
  [Reg.stx_STATE.key 0, Reg.stx_STX_DISC_SEC.key 0, Reg.stx_STX_DR_SEC.key 0, Reg.stx_CLOCK_CLASS.key 0, Reg.stx_MASTER.key 0]
    ++ eventKeys 40

end Sys2Proof.Machine

/-- Steps, slews, leap seconds, holdover and the PPS input and output act at their moment on time, state, registers
and pins (spec/04_time_sextant.md). -/
def Obligations.SextantStepsSlewsAndPulses : Prop :=
  (∀ (s : State) (a : Access), s.linkUp a.link = true → a.sizeOk = true → s.reach a.addr = true →
    exec (.timeLatchRead a) s = .next (s.latchTime.hostReadAccess a) ∧
    s.latchTime.raw Reg.stx_STX_TIME_SEC_LO = s.tai / unitsSec % 2 ^ 32 ∧
    s.latchTime.raw Reg.stx_STX_TIME_SEC_HI = s.tai / unitsSec / 2 ^ 32 % 2 ^ 32 ∧
    s.latchTime.raw Reg.stx_STX_TIME_NS = s.tai % unitsSec / unitsNs) ∧
  (∀ s : State,
    (s.flag Reg.stx_JUMP_PEND = true → exec .stepNow s = .next (State.wr { s with stx := { s.stx with
      step := some (-meanOf s.stx.jump * 9) } } Reg.stx_STEP_NOW 0 1)) ∧
    (s.flag Reg.stx_JUMP_PEND = false → exec .stepNow s = .next s)) ∧
  (∀ (s : State) (d : Int), s.stx.step = some d → s.tai = s.stx.lastHyper * unitsHyper → s.flag Reg.stx_JUMP_PEND = false →
    ∃ u v : State, exec .stepApply s = .next (((v.wr Reg.stx_STEP_NOW 0 0).count Reg.stx_STX_STEP_COUNT).raise 46 0x010A
      (i32 (toNs d))) ∧ u = { s with stx := { s.stx with
        off := s.stx.off + d, step := none, lastHyper := u.stx.lastHyper, lastFrame := 12 * u.stx.lastHyper + 11,
        lastWin := u.tai / unitsWin } } ∧
      v = u.streamsStep (u.tai - d.toNat + (-d).toNat) u.tai ((u.stx.lastHyper + 1) * unitsHyper) ∧
      unitsFrame ≤ (u.stx.lastHyper + 1) * unitsHyper - u.tai ∧ u.stx.lastHyper * unitsHyper < u.tai + unitsFrame) ∧
  (∀ s : State, s.flag Reg.stx_SLEWING = true → ∃ t, exec .slewDone s = .next t ∧ t.raw Reg.stx_STATE = 1 ∧
    t.raw Reg.stx_SLEWING = 0 ∧ s.regsBut t (Reg.stx_SLEWING.key 0 :: stateKeys ++ eventKeys 46) ∧
    Quiet { s with stx := { s.stx.entered t.stx with slew := none } } t) ∧
  (∀ s : State, let at_ := fun (new : Nat) => max s.mono (s.monoOf ((((s.tai / unitsSec - new) / 86400 + 1) * 86400 + new) * unitsSec))
    let ks := [Reg.stx_STX_UTC_OFFSET.key 0, Reg.stx_LEAP61.key 0, Reg.stx_LEAP59.key 0] ++ eventKeys 47
    (s.flag Reg.stx_LEAP61 = true → s.raw Reg.stx_STX_UTC_OFFSET < 65535 → ∃ t, exec .leapSecondApply s = .next t ∧
      t.raw Reg.stx_STX_UTC_OFFSET = s.raw Reg.stx_STX_UTC_OFFSET + 1 ∧ t.raw Reg.stx_LEAP61 = 0 ∧ t.raw Reg.stx_LEAP59 = 0 ∧
      s.regsBut t ks ∧ Quiet { s with mono := at_ (s.raw Reg.stx_STX_UTC_OFFSET + 1) } t) ∧
    (s.flag Reg.stx_LEAP61 = false → s.flag Reg.stx_LEAP59 = true → 0 < s.raw Reg.stx_STX_UTC_OFFSET →
      ∃ t, exec .leapSecondApply s = .next t ∧
      t.raw Reg.stx_STX_UTC_OFFSET = s.raw Reg.stx_STX_UTC_OFFSET - 1 ∧ t.raw Reg.stx_LEAP61 = 0 ∧ t.raw Reg.stx_LEAP59 = 0 ∧
      s.regsBut t ks ∧ Quiet { s with mono := at_ (s.raw Reg.stx_STX_UTC_OFFSET - 1) } t)) ∧
  (∀ s : State, s.raw Reg.stx_STATE = 3 → ∃ t, exec .holdoverExpired s = .next t ∧ t.raw Reg.stx_STATE = 4 ∧
    t.raw Reg.stx_CLOCK_CLASS = 187 ∧ s.regsBut t (stateKeys ++ eventKeys 44) ∧ Quiet { s with
      mono := max s.mono (s.stx.drAt + s.rd Reg.stx_STX_HOLD_LIMIT * 60 * unitsSec), stx := s.stx.entered t.stx } t) ∧
  (∀ (s : State) (now : Nat), let off := (s.advance now).edgeOffset
    s.flag Reg.stx_PPS_IN_EN = true → s.stx.master = none →
    (off.natAbs ≤ 100000 → 3 ≤ s.stx.ppsGood → ∃ t, exec (.ppsInEdge now) s = .next t ∧ t.raw Reg.stx_PPS_OK = 1 ∧
      t.raw Reg.stx_STATE = 5 ∧ t.raw Reg.stx_STX_PPS_OFFSET = i32 off ∧
      s.regsBut t ([Reg.stx_PPS_OK.key 0, Reg.stx_STX_PPS_OFFSET.key 0] ++ stateKeys) ∧ Quiet { s with
        mono := max s.mono now,
        stx := { s.stx.entered t.stx with ppsGood := s.stx.ppsGood + 1, ppsEdge := max s.mono now } } t) ∧
    (100000 < off.natAbs → ∃ t, exec (.ppsInEdge now) s = .next t ∧ t.raw Reg.stx_STX_PPS_OFFSET = i32 off ∧
      t.raw Reg.stx_STX_PPS_REFUSED = (s.raw Reg.stx_STX_PPS_REFUSED + 1) % 2 ^ 32 ∧
      s.regsBut t ([Reg.stx_STX_PPS_REFUSED.key 0, Reg.stx_STX_PPS_OFFSET.key 0] ++ eventKeys 43) ∧ Quiet { s with
        mono := max s.mono now, stx := { s.stx with ppsGood := 0, ppsEdge := max s.mono now } } t)) ∧
  (∀ s : State, s.flag Reg.stx_PPS_OK = true → s.raw Reg.stx_STATE = 5 → ∃ t, exec .ppsInLost s = .next t ∧
    t.raw Reg.stx_PPS_OK = 0 ∧ t.raw Reg.stx_STATE = 3 ∧ s.regsBut t (Reg.stx_PPS_OK.key 0 :: stateKeys ++ eventKeys 43) ∧
    Quiet { s with mono := max s.mono (s.stx.ppsEdge + 2 * unitsSec), stx := { s.stx.entered t.stx with ppsGood := 0 } } t) ∧
  (∀ s : State, (s.stx.ppsOut = true → exec .ppsOutPulse s = .next { s with
      mono := max s.mono s.stx.ppsFall, out := .pin pinPpsOut 0 :: s.out, stx := { s.stx with ppsOut := false } }) ∧
    (s.stx.ppsOut = false → ppsRuns (s.raw Reg.stx_STATE) = true → 
      let at_ := max s.mono (s.monoOf (cdiv s.tai unitsSec * unitsSec))
      exec .ppsOutPulse s = .next { s with
        mono := at_, out := .pin pinPpsOut 1 :: s.out,
        stx := { s.stx with ppsOut := true, ppsFall := at_ + s.rd Reg.stx_STX_PPS_OUT_W * unitsMs } }))

/-- Sixteen good offsets in a row lock an ACQUIRING Sextant; an offset beyond the threshold is refused and enters dead
reckoning (spec/04_time_sextant.md). -/
def Obligations.ServoLocksAndRefusesJumps : Prop :=
  (∀ (s : State) (off : Int), s.stx.firstDone = true → s.stx.step = none → off.natAbs ≤ s.rd Reg.stx_STX_JUMP_THR →
    off.natAbs ≤ 100 → s.raw Reg.stx_STATE = 1 → 15 ≤ s.stx.good →
    let t := s.measure off
    t.raw Reg.stx_STATE = 2 ∧ t.raw Reg.stx_JUMP_PEND = 0 ∧ t.raw Reg.stx_STX_OFFSET = i32 off ∧
    s.regsBut t ([Reg.stx_JUMP_PEND.key 0, Reg.stx_STEP_NOW.key 0, Reg.stx_STX_OFFSET.key 0, Reg.stx_STX_SYNC_RX.key 0,
      Reg.stx_STX_FREQ_ADJ.key 0, Reg.stx_STX_TERR.key 0] ++ stateKeys) ∧
    Quiet { s with
      freeTick := t.freeTick, stx := { s.stx.entered t.stx with jump := [], confirmed := false } } t) ∧
  (∀ (s : State) (off : Int), s.stx.firstDone = true → s.stx.step = none → s.rd Reg.stx_STX_JUMP_THR < off.natAbs →
    s.flag Reg.stx_SLEWING = false → s.stx.jump.length + 1 < s.rd Reg.stx_STX_JUMP_PERSIST →
    let t := s.measure off
    t.raw Reg.stx_STATE = 3 ∧ t.raw Reg.stx_JUMP_PEND = 1 ∧ t.raw Reg.stx_STX_OFFSET = i32 off ∧
    t.raw Reg.stx_STX_JUMP_REFUSED = (s.raw Reg.stx_STX_JUMP_REFUSED + 1) % 2 ^ 32 ∧
    s.regsBut t ([Reg.stx_JUMP_PEND.key 0, Reg.stx_STX_OFFSET.key 0, Reg.stx_STX_JUMP_REFUSED.key 0] ++ eventKeys 41
      ++ stateKeys) ∧
    Quiet { s with stx := { s.stx.entered t.stx with jump := off :: s.stx.jump } } t)

/-- Sync, Follow_Up and Announce are forwarded and feed the servo and the selection; peer delay is answered, asked and
measured; timeouts act (spec/04_time_sextant.md). -/
def Obligations.PtpMessagesTakeTheirEffect : Prop :=
  (∀ (s : State) (p now : Nat) (bytes : Bytes), let u := s.advance now
    let at_ := u.stampIn p now
    let m : PtpMark := { kind := 0, base := u.pathOf p, arrived := at_, source := ptpSource bytes, seq := ptpSeq bytes,
                         domain := ptpDomain bytes }
    let w := (u.syncSeen p bytes).forwardPtp p at_ bytes (some m)
    u.ptpIn p = true → u.raw Reg.stxp_STX_LINK_DELAY p ≠ 0xFFFFFFFF → ptpTwoStep bytes = false → w.fromMaster p bytes = true →
    exec (.syncRx p now bytes) s = .next (w.measure (w.offsetOf at_ (ptpTime bytes 34) (ptpCorr bytes) (u.pathOf p)))) ∧
  (∀ (s : State) (p now : Nat) (bytes : Bytes) (r : SyncRec), let u := s.advance now
    let m : PtpMark := { kind := 2, base := 0, arrived := now, source := r.source, seq := r.seq, domain := r.domain }
    let v := u.updSync m fun r => { r with matched := true }
    let w := v.forwardPtp p (v.stampIn p now) bytes (some m)
    u.ptpIn p = true → u.stx.syncRecs.find? (fun r => r.source = ptpSource bytes && r.seq = ptpSeq bytes
      && r.domain = ptpDomain bytes) = some r →
    w.fromMaster p bytes = true → r.port = p →
    exec (.followUpRx p now bytes) s = .next (w.measure (w.offsetOf r.arrived (ptpTime bytes 34) (r.correction + ptpCorr bytes)
      (w.pathOf p)))) ∧
  (∀ (s : State) (p now : Nat) (bytes : Bytes), let u := s.advance now
    let w := u.forwardPtp p (u.stampIn p now) bytes none
    let mine := fun (f : Foreign) => f.port = p && f.source = ptpSource bytes
    let f := announceOf p w.mono bytes (w.stx.foreign.find? mine)
    let v : State := { w with stx := { w.stx with foreign := w.stx.foreign.filter (fun x => !mine x) ++ [f] } }
    u.ptpIn p = true → w.flag Reg.stx_PTP_EN = true → ptpDomain bytes = w.raw Reg.stx_DOMAIN →
    ptpSource bytes / 65536 ≠ w.clockId → w.stx.master ≠ some (p, ptpSource bytes) →
    exec (.announceRx p now bytes) s = .next v.reselect) ∧
  (∀ (s : State) (p now : Nat) (bytes : Bytes), let u := s.advance now
    let o := ptpAt bytes
    u.ptpIn p = true → exec (.pdelayReqRx p now bytes) s = .next (u.queuePtp 35 (u.stampIn p now)
      (u.ptpFrame ptpPeerDst 3 0 (be (o + 8) 8 bytes) p (ptpSeq bytes) (ptpDomain bytes) 5 (beBytes 10 0 ++ slice (o + 20) 10 bytes))
      [p] (some { kind := 4, base := 0, arrived := u.stampIn p now, source := 0, seq := 0, domain := 0 }))) ∧
  (∀ (s : State) (p now seq t1 : Nat) (bytes : Bytes), let u := s.advance now
    let x := Tbl.look ({} : Pdelay) s.stx.pdelay p
    let d := (((u.stampIn p now : Int) - t1 - ptpCorr bytes) / 2).toNat
    let l := (d :: x.meas).take 8
    x.asked = some (seq, t1) → u.ptpIn p = true → ptpSeq bytes = seq → be (ptpAt bytes + 44) 10 bytes = u.portIdentity p →
    ptpTwoStep bytes = false → ∃ t, exec (.pdelayRespRx p now bytes) s = .next t ∧
      t.raw Reg.stxp_STX_LINK_DELAY p = min (l.sum / l.length / 9) 0xFFFFFFFE ∧ s.regsBut t [Reg.stxp_STX_LINK_DELAY.key p] ∧
      t = { u with regs := t.regs, stx := { u.stx with
        pdelay := Tbl.put ({} : Pdelay) s.stx.pdelay p { x with meas := l, valid := true, missed := 0, asked := none } } }) ∧
  (∀ (s : State) (p now : Nat), let u := s.advance now
    let x := Tbl.look ({} : Pdelay) s.stx.pdelay p
    u.ptpIn p = true →
    (x.asked = none → ∃ v : State, exec (.pdelayReqSend p now) s = .next (v.queuePtp 35 v.mono
        (v.ptpFrame ptpPeerDst 2 0 0 p x.seq (v.raw Reg.stx_DOMAIN) 5 (beBytes 20 0)) [p]
        (some { kind := 3, base := 0, arrived := v.mono, source := 0, seq := x.seq, domain := 0 })) ∧
      (let y : Pdelay := { x with seq := (x.seq + 1) % 65536, asked := some (x.seq, u.mono) }
      v = { u with stx := { u.stx with pdelay := Tbl.put ({} : Pdelay) s.stx.pdelay p y } })) ∧
    (x.asked ≠ none → x.missed = 2 → ∃ v : State, exec (.pdelayReqSend p now) s = .next (v.queuePtp 35 v.mono
        (v.ptpFrame ptpPeerDst 2 0 0 p x.seq (v.raw Reg.stx_DOMAIN) 5 (beBytes 20 0)) [p]
        (some { kind := 3, base := 0, arrived := v.mono, source := 0, seq := x.seq, domain := 0 })) ∧
      v.raw Reg.stxp_STX_LINK_DELAY p = 0xFFFFFFFF ∧
      s.regsBut v ([Reg.stxp_STX_LINK_DELAY.key p, Reg.stxp_STX_PDELAY_FAIL.key p] ++ eventKeys 45) ∧
      (let y : Pdelay := { x with seq := (x.seq + 1) % 65536, asked := some (x.seq, u.mono), missed := 3, valid := false }
      Quiet { u with stx := { u.stx with pdelay := Tbl.put ({} : Pdelay) s.stx.pdelay p y } } v))) ∧
  (∀ (s : State) (r : SyncRec) (rest : List SyncRec), s.stx.syncRecs = r :: rest →
    let u := s.advance (r.arrived + unitsSec)
    let w : State := { u with stx := { u.stx with syncRecs := rest } }
    exec .syncRecordExpiry s = .next (if r.matched then w else w.count Reg.stx_STX_TC_NOMATCH)) ∧
  (∀ (s : State) (m : Foreign), s.masterRec = some m →
    exec .masterLossTimeout s = .next ((s.advance (min m.lastAnnounce m.lastSync + 3 * unitsSec)).loseMaster true)) ∧
  (∀ (s : State) (now : Nat), let u := s.advance now
    let ports := (List.range 32).filter fun p => u.ptpIn p
    u.flag Reg.stx_PTP_EN = true → u.flag Reg.stx_BACKUP_EN = true → u.raw Reg.stx_STATE = 3 → u.stx.master = none →
    u.flag Reg.stx_MASTER = false → u.mono < u.stx.backupSince + 3 * unitsSec →
    let w := ports.foldl (fun (v : State) p => v.queuePtp 35 v.mono (v.announceFrame p) [p] none) u
    w.flag Reg.stx_MASTER = false →
    exec (.masterSend now) s = .next { w with stx := { w.stx with announceSeq := (w.stx.announceSeq + 1) % 65536 } })

namespace Sys2Proof.Machine

/-- The counters of frames and bytes received at port `p` (R154). -/
def rxKeys (p : Nat) : List Nat :=
  [Reg.prt_RX_FRAMES_LO.key p, Reg.prt_RX_FRAMES_UP.key p, Reg.prt_RX_BYTES_LO.key p, Reg.prt_RX_BYTES_UP.key p]

/-- `t` is `s` but for registers and for the data of port `p`, which become `x`. -/
def State.portBut (s t : State) (p : Nat) (x : PortX) : Prop :=
  t = { s with regs := t.regs, net := { s.net with px := Tbl.put ({} : PortX) s.net.px p x } }

end Sys2Proof.Machine

/-- A good frame at a forwarding port is counted and passed on; short, long and bad frames are counted; a PAUSE stops
the port and its end restarts it (spec/05_ports.md). -/
def Obligations.PortsReceiveAndPause : Prop :=
  (∀ (s : State) (p now : Nat) (bytes : Bytes), p < 32 → s.flag Reg.prt_LINK p = true →
    (bytes.length < 60 → exec (.portFrameRx p now bytes true) s = .next ((s.advance now).count Reg.prt_PRT_RX_RUNT p)) ∧
    (60 ≤ bytes.length → bytes.length + 4 ≤ s.rxMaxFrame p → (headersOf bytes).etype ≠ 0x8808 →
      (s.flag Reg.prt_FWD p = true → ∃ t, exec (.portFrameRx p now bytes true) s = .next t ∧
        t.raw Reg.prt_RX_FRAMES_LO p = (s.raw Reg.prt_RX_FRAMES_LO p + 1) % 2 ^ 32 ∧ s.regsBut t (rxKeys p) ∧
        (let a : Arrival := { port := p, t := s.stampIn p now, bytes := bytes }
        t = { s with mono := max s.mono now, regs := t.regs, net := { s.net with arrivals := s.net.arrivals ++ [a] } })) ∧
      (s.flag Reg.prt_FWD p = false → exec (.portFrameRx p now bytes true) s =
        .next ((s.advance now).count Reg.prt_PRT_RX_NOFWD p))) ∧
    (60 ≤ bytes.length → bytes.length + 4 ≤ s.rxMaxFrame p → s.flag Reg.prt_FWD p = false →
      exec (.portFrameRx p now bytes false) s = .next ((s.advance now).count Reg.prt_PRT_RX_FCS_ERR p))) ∧
  (∀ (s : State) (p now : Nat) (bytes : Bytes), p < 32 → s.flag Reg.prt_LINK p = true → be 14 2 bytes = 1 →
    s.flag Reg.prt_FULL p = true → s.rxRaw Reg.prt_RX_PAUSE_EN p ≠ 0 → be 16 2 bytes ≠ 0 →
    ∃ t, exec (.pauseRx p now bytes) s = .next t ∧ t.raw Reg.prt_PRT_RX_PAUSE p = (s.raw Reg.prt_PRT_RX_PAUSE p + 1) % 2 ^ 32 ∧
      s.regsBut t ([Reg.prt_PRT_RX_PAUSE.key p, Reg.prt_PAUSED.key p, Reg.prt_PAUSE_LEFT.key p] ++ rxKeys p) ∧
      (Tbl.look none s.net.tx p = none → t.raw Reg.prt_PAUSED p = 1 ∧ t.raw Reg.prt_PAUSE_LEFT p = be 16 2 bytes % 2 ^ 16 ∧
        (s.advance now).portBut t p { s.px p with pauseEnd := t.mono + t.bitTime p (be 16 2 bytes * 512), pauseNext := none }) ∧
      (∀ x, Tbl.look none s.net.tx p = some x → t.raw Reg.prt_PAUSED p = s.raw Reg.prt_PAUSED p ∧
        t.raw Reg.prt_PAUSE_LEFT p = s.raw Reg.prt_PAUSE_LEFT p ∧
        (s.advance now).portBut t p { s.px p with pauseNext := some (be 16 2 bytes) })) ∧
  (∀ (s : State) (p : Nat), p < 32 → s.flag Reg.prt_PAUSED p = true → ∃ t, exec (.pauseExpiry p) s = .next t ∧
    t.raw Reg.prt_PAUSED p = 0 ∧ t.raw Reg.prt_PAUSE_LEFT p = 0 ∧ s.regsBut t [Reg.prt_PAUSED.key p, Reg.prt_PAUSE_LEFT.key p] ∧
    t = { s with regs := t.regs, mono := max s.mono (s.px p).pauseEnd }) ∧
  (∀ (s : State) (p : Nat), s.flag Reg.swp_XOFF_ACT p = true → s.flag Reg.prt_TX_PAUSE_EN p = true →
    s.flag Reg.prt_FULL p = true →
    let u := s.advance (s.px p).refreshAt
    exec (.pauseRefresh p) s = .next (u.setPx p { s.px p with
      pauseOut := (s.px p).pauseOut ++ [s.raw Reg.prt_PAUSE_QUANTA p],
      refreshAt := u.mono + u.bitTime p (512 * s.rd Reg.prt_PAUSE_REFRESH p) }))

/-- A link up shows its speed and forwards after LINK_STABLE; a lost link stops the port and counts; flap and
quarantine holds end by forwarding again (spec/05_ports.md). -/
def Obligations.LinksComeUpForwardAndGo : Prop :=
  (∀ (s : State) (p fec : Nat), p < 32 → s.raw Reg.prt_LANE_MODE p = 1 → s.flag Reg.prt_LP p = false → s.flag Reg.prt_LINK p = false →
    ∃ u : State, exec (.linkUp p fec) s = .next (u.checkGroups.tryForward p) ∧ u.raw Reg.prt_LINK p = 1 ∧
      u.raw Reg.prt_SPEED_ACT p = 2 ∧ u.raw Reg.prt_FULL p = 1 ∧ u.raw Reg.prt_FEC_ACT p = 0 ∧
      s.regsBut u [Reg.prt_LINK.key p, Reg.prt_SPEED_ACT.key p, Reg.prt_FULL.key p, Reg.prt_FEC_ACT.key p] ∧
      s.portBut u p { s.px p with upSince := s.mono }) ∧
  (∀ (s : State) (p speed : Nat) (full : Bool), 20 ≤ p → p < 28 → s.raw Reg.prt_LANE_MODE p = 2 → s.flag Reg.prt_AN_EN p = true →
    s.flag Reg.prt_LP p = false → s.flag Reg.prt_LINK p = false → speed < 2 →
    ∃ u : State, exec (.sgmiiControlWord p true speed full) s = .next (u.checkGroups.tryForward p) ∧ u.raw Reg.prt_LINK p = 1 ∧
      u.raw Reg.prt_SPEED_ACT p = speed ∧ u.raw Reg.prt_FULL p = b2n full ∧
      s.regsBut u [Reg.prt_LINK.key p, Reg.prt_SPEED_ACT.key p, Reg.prt_FULL.key p, Reg.prt_FEC_ACT.key p] ∧
      u.px p = { s.px p with wordSpeed := speed, wordFull := full, wordSeen := true, upSince := s.mono } ∧
      Tbl.sameBut {} s.net.px u.net.px p ∧ u = { s with regs := u.regs, net := { s.net with px := u.net.px } }) ∧
  (∀ (s : State) (p : Nat), p < 32 → s.flag Reg.prt_LINK p = true → s.flag Reg.prt_SUPPRESSED p = false →
    s.flag Reg.prt_QUARANTINE p = false → s.flag Reg.prt_LP p = false → s.flag Reg.prt_FWD p = false →
    ∃ t, exec (.forwarding p) s = .next t ∧ t.raw Reg.prt_FWD p = 1 ∧
      s.regsBut t (Reg.prt_FWD.key p :: eventKeys p) ∧
      Quiet { s with mono := max s.mono ((s.px p).upSince + s.rd Reg.prt_LINK_STABLE p * unitsMs) } t) ∧
  (∀ (s : State) (p : Nat), p < 32 → s.flag Reg.prt_LINK p = true → s.flag Reg.prt_FWD p = false →
    ∃ u : State, exec (.linkDown p) s = .next ((u.raise p 0x0101
        (min ((u.queuedFor p).filter fun f => f.cls < 5).length (2 ^ 32 - 1))).checkFlap p) ∧
      u.raw Reg.prt_LINK p = 0 ∧ u.raw Reg.prt_SPEED_ACT p = 0 ∧ u.raw Reg.prt_FULL p = 0 ∧ u.raw Reg.prt_PAUSED p = 0 ∧
      u.raw Reg.prt_PRT_LINK_DOWN p = (s.raw Reg.prt_PRT_LINK_DOWN p + 1) % 2 ^ 32 ∧
      s.regsBut u [Reg.prt_LINK.key p, Reg.prt_SPEED_ACT.key p, Reg.prt_FULL.key p, Reg.prt_FEC_ACT.key p, Reg.prt_PAUSED.key p,
        Reg.prt_PAUSE_LEFT.key p, Reg.prt_PRT_LINK_DOWN.key p] ∧
      s.portBut u p { s.px p with
        flaps := s.mono :: (s.px p).flaps, wordSeen := false, pauseOut := [], pauseNext := none }) ∧
  (∀ (s : State) (p : Nat), p < 32 → s.flag Reg.prt_SUPPRESSED p = true → ∃ u : State, exec (.flapHoldExpiry p) s =
      .next ((u.raise p 0x0103 0).tryForward p) ∧ u.raw Reg.prt_SUPPRESSED p = 0 ∧
      s.regsBut u [Reg.prt_SUPPRESSED.key p] ∧
      (s.advance (s.px p).suppressEnd).portBut u p { s.px p with upSince := u.mono }) ∧
  (∀ (s : State) (p : Nat), p < 32 → s.flag Reg.prt_QUARANTINE p = true → exec (.quarantineExpiry p) s =
      .next ((((s.advance (s.px p).quarEnd).wr Reg.prt_QUARANTINE p 0).raise p 0x0105 0).tryForward p)) ∧
  (∀ (s : State) (p : Nat) (f : SwFrame), p < 32 → s.flag Reg.prt_FWD p = false → s.queuedFor p = [f] →
    exec (.heldFrameExpiry p) s = .next (((s.advance (s.holdEnd p f)).count Reg.prt_PRT_DROP_DOWN_BE p (segmentsLeft f)).dropCopy f.id p)) ∧
  (∀ (s : State) (p now : Nat) (x : Tx), p < 32 → Tbl.look none s.net.tx p = some x → s.flag Reg.prt_FULL p = false →
    let u := (s.advance now).count Reg.prt_PRT_COLL p
    max s.mono now ≤ x.start + u.bitTime p 512 → (s.px p).attempts < 15 →
    ∃ r, r < 2 ^ min ((s.px p).attempts + 1) 10 ∧
      exec (.collision p now) s = .next (State.setPx { u with freeTick := s.freeTick + 1 } p { s.px p with
        attempts := (s.px p).attempts + 1, backoff := some (u.mono + u.bitTime p (32 + r * 512)) })) ∧
  (∀ (s : State) (p e : Nat) (x : Tx), (s.px p).backoff = some e → Tbl.look none s.net.tx p = some x →
    let y := { x with start := max s.mono e, stop := max s.mono e + s.bitTime p (8 * (wireLen x.bytes + 20)) }
    exec (.backoffExpiry p) s = .next { s with
      mono := max s.mono e, out := .frame p x.bytes :: s.out, net := { s.net with
        px := Tbl.put ({} : PortX) s.net.px p { s.px p with backoff := none }, tx := Tbl.put none s.net.tx p (some y) } })

/-- Port settings wait for their boundary unless admitted traffic holds them; an idle group powers off, wakes and
powers up; port M and the cages report (spec/05_ports.md, spec/12_admission.md, spec/22_physical_electrical.md). -/
def Obligations.PortSettingsAndLowPower : Prop :=
  (∀ (s : State) (p : Nat), s.admOn p = true → exec (.lpReqWrite p true) s = .next (s.count Reg.prt_PRT_LP_HELD p)) ∧
  (∀ (s : State) (p : Nat), s.admOn p = false →
    exec (.lpReqWrite p true) s = .next ((s.buffer Reg.prt_LP_REQ p 1 (Reg.prt_LP_REQ.addr p)).syncLp p)) ∧
  (∀ (s : State) (p v : Nat),
    (s.admEgress p (· = 6) = false → s.admEgress p (· = 7) = false → v < 256 →
      exec (.pauseImmuneWrite p v) s = .next (s.buffer Reg.prt_PAUSE_IMMUNE p v (Reg.prt_PAUSE_IMMUNE.addr p))) ∧
    (s.admEgress p (· = 6) = true → s.admEgress p (· = 7) = true → v % 256 ||| 0xC0 ≠ v % 256 →
      exec (.pauseImmuneWrite p v) s = .next ((s.buffer Reg.prt_PAUSE_IMMUNE p (v % 256 ||| 0xC0) (Reg.prt_PAUSE_IMMUNE.addr p)).count
        Reg.prt_PRT_IMMUNE_HELD p))) ∧
  (∀ (s : State) (p lane speed : Nat),
    (s.admOn p = true → lane ≠ s.lastWritten Reg.prt_LANE_MODE p →
      exec (.laneModeWrite p lane speed) s = .next (s.count Reg.adm_ADM_HELD)) ∧
    (s.admOn p = false → laneAllowed p lane = true → exec (.laneModeWrite p lane speed) s =
      .next (((s.buffer Reg.prt_LANE_MODE p lane (Reg.prt_LANE_MODE.addr p)).buffer Reg.prt_SPEED p speed
        (Reg.prt_LANE_MODE.addr p)).syncLane p)) ∧
    (s.admOn p = false → laneAllowed p lane = false → exec (.laneModeWrite p lane speed) s =
      .next ((s.buffer Reg.prt_SPEED p speed (Reg.prt_LANE_MODE.addr p)).syncLane p))) ∧
  (∀ (s : State) (p v : Nat), s.admEgress p (fun _ => true) = false →
    exec (.maxFrameWrite p v) s = .next (s.buffer Reg.prt_MAX_FRAME p v (Reg.prt_MAX_FRAME.addr p))) ∧
  (∀ (s : State) (g : Nat), g < 4 → (groupMembers g).all (fun p => s.flag Reg.prt_LP_REQ p || s.raw Reg.prt_LANE_MODE p = 0) = true →
    bit g (s.raw Reg.prtg_GRP_LP) = false → ∃ t, exec (.groupPowerOff g) s = .next t ∧ bit g (t.raw Reg.prtg_GRP_LP) = true ∧
      bit (5 + g) (t.raw Reg.pwr_DOM_ON) = false ∧ Quiet s t ∧
      bitsBut Reg.prtg_GRP_LP.wid (s.raw Reg.prtg_GRP_LP) (t.raw Reg.prtg_GRP_LP) g ∧ bitsBut Reg.pwr_DOM_ON.wid (s.raw Reg.pwr_DOM_ON) (t.raw Reg.pwr_DOM_ON) (5 + g) ∧
      s.regsBut t ([Reg.prtg_GRP_LP.key 0, Reg.pwr_DOM_ON.key 0] ++ eventKeys (g * 8))) ∧
  (∀ (s : State) (p : Nat), p < 32 → s.flag Reg.prt_WAKE_EN p = true → s.flag Reg.prt_LP p = true →
    exec (.wakePattern p false) s = .next (((((s.wr Reg.prt_LP_REQ p 0).wr Reg.prt_LP p 0)).wakeGroup (p / 8)).raise p 0x0107 (p / 8))) ∧
  (∀ (s : State) (g : Nat), g < 4 → bit g (s.raw Reg.prtg_GRP_WAKING) = true → ∃ u : State,
    exec (.groupPowerUp g) s = .next ((groupMembers g).foldl State.frameBoundary u) ∧ bit g (u.raw Reg.prtg_GRP_WAKING) = false ∧
      bit g (u.raw Reg.prtg_GRP_LP) = false ∧ bit (5 + g) (u.raw Reg.pwr_DOM_ON) = true ∧ u = { s with regs := u.regs } ∧
      bitsBut Reg.prtg_GRP_LP.wid (s.raw Reg.prtg_GRP_LP) (u.raw Reg.prtg_GRP_LP) g ∧ bitsBut Reg.pwr_DOM_ON.wid (s.raw Reg.pwr_DOM_ON) (u.raw Reg.pwr_DOM_ON) (5 + g) ∧
      bitsBut Reg.prtg_GRP_WAKING.wid (s.raw Reg.prtg_GRP_WAKING) (u.raw Reg.prtg_GRP_WAKING) g ∧
      s.regsBut u [Reg.prtg_GRP_WAKING.key 0, Reg.prtg_GRP_LP.key 0, Reg.pwr_DOM_ON.key 0]) ∧
  (∀ (s : State) (q : Nat) (f : SwFrame) (hdr mss mode : Nat), (s.queuedFor q).find? (fun f => f.tso.isSome) = some f →
    f.tso = some (hdr, mss, mode, 0) →
    (s.tsoOk q f.cls hdr mss mode f.bytes = false →
      exec (.superFrameTx q) s = .next ((s.tsoBad q).dropCopy f.id q)) ∧
    (s.tsoOk q f.cls hdr mss mode f.bytes = true → q < 36 → s.txBusy q = false → (s.px q).pauseOut = [] → (s.choose q).1 = some f →
      exec (.superFrameTx q) s = .next ((s.choose q).2.startCopy f q))) ∧
  (∀ (s : State) (now : Nat) (bytes : Bytes), s.flag Reg.prtg_M_EN = true → s.flag Reg.prtg_M_LINK = true →
    (portMAccepts bytes = true → exec (.portMRx now bytes) s = .next { s with
      mono := max s.mono now, net := { s.net with fromM := s.net.fromM ++ [bytes] } }) ∧
    (portMAccepts bytes = false → exec (.portMRx now bytes) s = .next ((s.advance now).count Reg.prtg_PRT_M_DROP))) ∧
  (∀ (s : State) (up : Bool) (speed : Nat), let on := up && s.flag Reg.prtg_M_EN
    ∃ t, exec (.portMLinkChange up speed) s = .next t ∧ t.raw Reg.prtg_M_LINK = b2n on ∧
      t.raw Reg.prtg_M_SPEED = (if on then min speed 2 else 0) ∧ Quiet s t ∧
      s.regsBut t ([Reg.prtg_M_LINK.key 0, Reg.prtg_M_SPEED.key 0] ++ logKeys)) ∧
  (∀ (s : State) (cage : Nat) (present : Bool), cage < 4 → ∃ t, exec (.cagePresenceChange cage present) s = .next t ∧
    bit cage (t.raw Reg.pwr_CAGE_PRESENT) = present ∧ t = { s with regs := t.regs } ∧
    bitsBut Reg.pwr_CAGE_PRESENT.wid (s.raw Reg.pwr_CAGE_PRESENT) (t.raw Reg.pwr_CAGE_PRESENT) cage ∧
    s.regsBut t [Reg.pwr_CAGE_PRESENT.key 0])

/-- A sum that would pass the largest correctionField writes that largest value, counts STX_TC_OVF and raises source
45 (R133). -/
def Obligations.CorrectionFieldSaturates : Prop :=
  ∀ (s : State) (f : SwFrame) (m : PtpMark) (q : Nat) (bytes : Bytes), q < 32 → f.ptp = some m →
    let o := (headersOf bytes).payload
    let over_ := fun (sum : Int) => (0x7FFFFFFFFFFFFFFF : Int) < toSigned 64 (be (o + 8) 8 bytes) + sum * 65536 / 9
    let full := putBe (o + 8) 8 0x7FFFFFFFFFFFFFFF bytes
    let sum : Int := m.base + ((s.stampOut q : Int) - m.arrived)
    (m.kind = 0 → over_ sum → s.ptpEgress f q bytes =
      (full, ((s.count Reg.stx_STX_TC_CORR).count Reg.stx_STX_TC_OVF).raise 45 0x0108 q)) ∧
    (∀ (r : SyncRec) (x : Nat × Int), m.kind = 2 →
      s.stx.syncRecs.find? (fun r => r.source = m.source ∧ r.seq = m.seq ∧ r.domain = m.domain) = some r →
      r.sums.find? (fun x => x.1 = q) = some x → over_ x.2 → s.ptpEgress f q bytes =
      (full, (((s.updSync m fun r => { r with sums := r.sums.filter fun y => y.1 ≠ q }).count Reg.stx_STX_TC_CORR).count
        Reg.stx_STX_TC_OVF).raise 45 0x0108 q)) ∧
    (m.kind = 4 → over_ sum → s.ptpEgress f q bytes = (full, (s.count Reg.stx_STX_TC_OVF).raise 45 0x0108 q))

/-- A frame is classified and queued with its cells or dropped and counted; the idle port sends PAUSE, then its chosen
frame; the last bit frees the port (spec/06_switch_core.md, spec/05_ports.md). -/
def Obligations.FramesPassTheSwitchCore : Prop :=
  (∀ (s : State) (q : Nat) (a : Arrival), s.net.arrivals.find? (fun a => a.port = q) = some a → s.groupOf a.port = none →
    a.desc = none → let h := headersOf a.bytes
    h.etype ≠ 0x88F7 → a.bad = false →
    let u : State := { s with net := { s.net with arrivals := s.net.arrivals.erase a } }
    let w := if (decide (a.port < 32) && u.fwd a.port || decide (a.port = 35)) = true then
      u.learn h.src ((h.tag.map (·.2)).getD 0) a.port else u
    let v := w.classify a.bytes h a.port
    exec (.switchIngress q) s = .next ((if v.demoted then w.count Reg.swc_SWC_DEMOTE else w).admitFrame a h v a.bytes none)) ∧
  (∀ (s t : State) (a : Arrival) (h : Headers) (v : Verdict) (ports : List Nat) (tags : List (Nat × Nat)), v.cls < 5 →
    a.tso = none → s.expand a.port h.src (wireLen a.bytes) v.dests none = (some (ports, tags), t) → ports ≠ [] →
    let cells := cellsOf (wireLen a.bytes)
    (t.fits v.cls v.owner cells = true → ∃ f, s.admitFrame a h v a.bytes none = t.enqueue f ∧ f.cls = v.cls ∧ f.ports = ports ∧
      f.bytes = a.bytes ∧ f.cells = cells ∧ f.owner = v.owner ∧ f.arrived = a.t) ∧
    (t.fits v.cls v.owner cells = false → v.owner < 128 → a.send = none →
      s.admitFrame a h v a.bytes none = (t.count Reg.swc_SWC_DROP_SHARE).count Reg.own_SWC_OWN_DROP v.owner)) ∧
  (∀ (s : State) (f : SwFrame), s.net.frames.find? (fun f => f.verdict = 1) = some f →
    let v := (s.tagVerdict f).1
    let t := (s.tagVerdict f).2
    let mark := fun (x : SwFrame) => if x.id = f.id then { x with verdict := v } else x
    let u : State := { t with net := { t.net with frames := t.net.frames.map mark } }
    exec .tagCheckDone s = .next (if (f.tagMode = 2 ∧ v = 3) ∨ (f.tagMode = 3 ∧ v ≠ 2) then u.dropFrame f else u)) ∧
  (∀ (s : State) (q : Nat), q < 36 → s.txBusy q = false →
    (∀ quanta rest, (s.px q).pauseOut = quanta :: rest → s.flag Reg.prt_LINK q = true →
      exec (.egressSchedule q none) s = .next (s.sendPause q quanta)) ∧
    (∀ f, (s.px q).pauseOut = [] → (s.choose q).1 = some f →
      exec (.egressSchedule q none) s = .next ((s.choose q).2.startCopy f q) ∧
      ∀ addr, exec (.egressSchedule q (some (true, addr))) s =
        .next ((((s.choose q).2.count Reg.swc_SWC_DROP_ECC).raise 39 0x0003 addr).dropFrame f))) ∧
  (∀ (s : State) (q : Nat) (t : Tx), q < 32 → Tbl.look none s.net.tx q = some t → (s.px q).backoff = none →
    s.net.frames.all (fun f => !(f.id = t.frame.id && f.ports.contains q)) = true →
    ∃ u : State, exec (.txComplete q) s = .next ((u.dropCopy t.frame.id q).frameBoundary q) ∧
      u.raw Reg.prt_TX_FRAMES_LO q = (s.raw Reg.prt_TX_FRAMES_LO q + 1) % 2 ^ 32 ∧
      s.regsBut u [Reg.prt_TX_FRAMES_LO.key q, Reg.prt_TX_FRAMES_UP.key q, Reg.prt_TX_BYTES_LO.key q, Reg.prt_TX_BYTES_UP.key q,
        Reg.prt_PAUSED.key q, Reg.prt_PAUSE_LEFT.key q] ∧
      ((s.px q).pauseNext = none → u.px q = { s.px q with attempts := 0, excess := 0 } ∧
        u.raw Reg.prt_PAUSED q = s.raw Reg.prt_PAUSED q) ∧
      (∀ n, (s.px q).pauseNext = some n → u.raw Reg.prt_PAUSED q = 1 ∧ u.raw Reg.prt_PAUSE_LEFT q = n % 2 ^ 16 ∧
        u.px q = { s.px q with
          attempts := 0, excess := 0, pauseNext := none, pauseEnd := u.mono + u.bitTime q (n * 512) }) ∧
      Tbl.sameBut {} s.net.px u.net.px q ∧ u = { s with
        mono := max s.mono t.stop, regs := u.regs, net := { s.net with px := u.net.px, tx := Tbl.put none s.net.tx q none } }) ∧
  (∀ (s : State) (q c : Nat) (f : SwFrame), c < 4 → s.net.frames.find? (fun f => f.cls = c && f.ports.contains q) = some f →
    exec (.starvePromote q c) s = .next (State.count { s with
      mono := max s.mono (f.enq + s.rd Reg.swc_SWC_STARVE * unitsMs), net := { s.net with
        promoted := Tbl.put 0 s.net.promoted (q * 8 + c) 1, promLeft := Tbl.put 0 s.net.promLeft (q * 8 + c) (s.quantum q c) } }
      Reg.swc_SWC_STARVE_PROMOTE)) ∧
  (∀ (s : State) (f : SwFrame), f ∈ s.net.frames → f.ports ≠ [] →
    s.net.frames.all (fun g => g.ports.isEmpty || decide (g = f) || decide (f.arrived < g.arrived)) = true →
    let u := s.advance (f.arrived + s.rd Reg.swc_SWC_RES_LIMIT * unitsMs + 1)
    exec .staleFrameDrop s = .next (f.ports.foldl (fun (v : State) q =>
      ((v.count Reg.swc_SWC_DROP_STALE).raise 36 0x0108 q).dropCopy f.id q) u)) ∧
  (∀ (s : State) (mac vid : Nat) (k : Nat) (e : FdbEntry), s.net.fdb.find? (fun e => e.1 = fdbKey mac vid) = some (k, e) →
    exec (.fdbAgeOut mac vid) s = .next { s with
      mono := max s.mono (e.last + s.rd Reg.swc_SWC_AGE * unitsSec),
      net := { s.net with fdb := Tbl.drop s.net.fdb (fdbKey mac vid) } })

/-- CLS_COMMIT submits the Engineer's entries with best-effort classes and no internal ports; epochs activate and
retire in turn; the audit reclaims lost cells (spec/06_switch_core.md). -/
def Obligations.TableEpochsAndAudit : Prop :=
  (∀ (s : State) (src : Requester), ∃ (t : State) (c : TableChange), exec (.clsCommit src) s = .next (t.submitChange c) ∧
    t = { s with wh := { s.wh with
      handleSeq := (s.newHandle src).2.wh.handleSeq, handles := (s.newHandle src).2.wh.handles, clamps := t.wh.clamps,
      clampNext := t.wh.clampNext, clamped := t.wh.clamped, domains := t.wh.domains } } ∧
    c.handles = [(s.newHandle src).1] ∧ c.adm = none ∧ ∀ e ∈ c.cls.getD [], 1024 ≤ e.1 ∧ e.1 < 4096 ∧ bits 2 0 (le 17 1 e.2) < 5 ∧
      bit 32 (le 18 5 e.2) = false ∧ bit 33 (le 18 5 e.2) = false) ∧
  (∀ (s : State) (e : Epoch) (rest : List Epoch),
    (s.net.epochs.dropWhile fun e => e.num ≠ s.raw Reg.swc_CLS_EPOCH).drop 1 = e :: rest →
    exec .epochActivate s = .next (s.activateEpoch e)) ∧
  (∀ (s : State) (e : Epoch) (rest : List Epoch), s.net.epochs = e :: rest → e.num ≠ s.raw Reg.swc_CLS_EPOCH → s.epochRefs e.num = 0 →
    ∃ u : State, u.raw Reg.swc_LIVE = rest.length % 2 ^ Reg.swc_LIVE.wid ∧
      s.regsBut u (Reg.swc_LIVE.key 0 :: eventKeys 32) ∧ Quiet { s with net := { s.net with epochs := rest } } u ∧
      (s.net.changes = [] → exec .epochRetire s = .next u) ∧
      (∀ c more, s.net.changes = c :: more →
        exec .epochRetire s = .next (State.startLoad { u with net := { u.net with changes := more } } c))) ∧
  (∀ (s : State) (lost : Nat), s.flag Reg.swc_AUDIT_EN = true →
    ∃ t, exec (.auditPass lost []) s = .next t ∧ t.raw Reg.swc_FREE_CELLS = 49152 - (s.net.frames.map (·.cells)).sum ∧
      t.raw Reg.swc_SWC_LEAK_RECLAIM = (s.raw Reg.swc_SWC_LEAK_RECLAIM + min lost s.net.auditMiss) % 2 ^ 32 ∧
      s.regsBut t ([Reg.swc_FREE_CELLS.key 0, Reg.swc_SWC_LEAK_RECLAIM.key 0] ++ eventKeys 34) ∧
      Quiet { s with net := { s.net with auditMiss := lost - min lost s.net.auditMiss } } t)

/-- Supervision frames leave on both ports of every group; a silent LAN, an open ring and an aged node are noted at
their time (spec/07_redundancy.md). -/
def Obligations.RedundantPathsAreSupervised : Prop :=
  (∀ (s : State) (now g : Nat), (List.range 12).filter (fun g => s.groupEn g && !s.groupBad g) = [g] → g < 8 → s.red.nodes = [] →
    
    let x : Arrival := { port := 35, t := max s.mono now, bytes := padTo 60 (s.supFrame false s.mgmtMac false),
                         desc := some (3, some [(s.groupPorts g).1, (s.groupPorts g).2], 128) }
    exec (.supervisionSend now) s = .next { s with
      mono := max s.mono now, net := { s.net with arrivals := s.net.arrivals ++ [x] },
      red := { s.red with supSeq := (s.red.supSeq + 1) % 65536 } }) ∧
  (∀ (s : State) (k : Nat), k < 8 → s.groupEn k = true → s.groupBad k = false → (s.grp k).lastA < (s.grp k).lastB →
    s.flag Reg.pair_A_OK k = true → exec (.lanSilentTimeout k false) s =
      .next (((s.advance ((s.grp k).lastA + s.rd Reg.pair_SILENT k * unitsMs)).wr Reg.pair_A_OK k 0).raise 124 0x0100 k)) ∧
  (∀ (s : State) (r at_ : Nat), (s.grp (8 + r)).supSent = some at_ → s.flag Reg.ring_RING_OK r = true →
    let u := s.advance (at_ + 2 * s.rd Reg.red_LIFE_CHECK * unitsMs)
    exec (.ringOpenTimeout r) s = .next (((u.setGrp (8 + r) { s.grp (8 + r) with supSent := none }).wr Reg.ring_RING_OK r 0).raise
      125 0x0100 r)) ∧
  (∀ (s : State) (mac : Nat) (n : Node), s.red.nodes.find? (fun n => n.mac = mac) = some n → s.red.nodes.length ≤ 1024 →
    ∃ t, exec (.proxyNodeAge mac) s = .next t ∧ t.raw Reg.red_NODE_COUNT = t.red.nodes.length ∧
      s.regsBut t [Reg.red_NODE_COUNT.key 0] ∧ t = { s with
        regs := t.regs, mono := max s.mono (n.last + s.rd Reg.red_NODE_FORGET * unitsSec),
        red := { s.red with nodes := s.red.nodes.filter (fun m => m.mac ≠ mac) } })

/-- A STANDBY module whose partner is lost, or told to, takes the next epoch into NOR and then its claim; an ACTIVE
one yields to a higher claim (spec/07_redundancy.md). -/
def Obligations.UnitPairTakesOverAndYields : Prop :=
  (∀ (s : State) (v : Bool), exec (.unitEnWrite v) s = .next (s.buffer Reg.unit_UNIT_EN 0 (b2n v) Reg.unit_UNIT_EN.base)) ∧
  (∀ (s : State) (now : Nat), (s.unitState = 0 → exec (.heartbeatSend now) s = .next (s.advance now)) ∧
    (s.unitState ≠ 0 → exec (.heartbeatSend now) s = .next ((s.advance now).sendPair 35 5 1 []))) ∧
  (∀ (s : State) (now : Nat) (f : Bytes), ∃ o v, (s.advance now).receivePair f = (o, v) ∧
    (o = none → exec (.heartbeat now f) s = .next v) ∧
    (∀ p, o = some p → p.type = 1 → v.unitState = 4 → v.flag Reg.unit_PARTNER_SEEN = true →
      v.raw Reg.unit_RED_CLAIM_OWN < p.claim →
      let w : State := { v with red := { v.red with
        lastHb := v.mono, partnerState := p.state, partnerClaim := p.claim, partnerFleet := p.fleet, partnerDigest := p.digest } }
      exec (.heartbeat now f) s = .next (w.syncClaim.demote p.claim))) ∧
  (∀ (s : State) (claim : Nat), ∃ w : State, s.demote claim = (w.enterResync.count Reg.unit_RED_DEMOTE).raise 126 0x0101 claim ∧
    w.raw Reg.unit_RELINQUISH = 0 ∧ s.regsBut w [Reg.unit_RELINQUISH.key 0] ∧
    w = { s with regs := w.regs, red := { s.red with handover := false } }) ∧
  (∀ (s : State) (e : Nat), e = max s.red.stored s.red.highSeen + 1 → e ≤ 0xFFFFFF → s.red.writing = none → s.red.claimNext = none →
    (s.unitState = 3 → s.flag Reg.unit_PARTNER_SEEN = true → ∃ t, exec .partnerLost s = .next t ∧
      t.raw Reg.unit_PARTNER_SEEN = 0 ∧ s.regsBut t (Reg.unit_PARTNER_SEEN.key 0 :: eventKeys 126) ∧ Quiet { s with
        mono := max s.mono (s.red.lastHb + s.rd Reg.unit_TAKEOVER_TMO * unitsMs), red := { s.red with writing := some e } } t) ∧
    (s.unitState = 3 → exec .takeover s = .next { s with red := { s.red with writing := some e } }) ∧
    (s.unitState ≠ 3 → exec .takeover s = .next (s.count Reg.unit_RED_CMD_IGNORED)) ∧
    (s.unitState = 1 → s.red.lastHb = 0 → exec .soloActiveTimeout s = .next { s with
      mono := max s.mono (s.red.enabledAt + 3 * unitsSec), red := { s.red with writing := some e } })) ∧
  (∀ (s : State) (now e : Nat), s.red.writing = some e → exec (.takeoverEpochWritten now) s = .next { s with
    mono := max s.mono now, red := { s.red with stored := e, writing := none, claimNext := some e } }) ∧
  (∀ (s : State) (e : Nat), s.red.claimNext = some e → s.unitState ≠ 0 → e ≤ 0xFFFFFF →
    ∃ w : State, s.claimApply = ((w.setClaim (0x80000000 + e)).count Reg.unit_RED_TAKEOVER).raise 126 0x0100 (0x80000000 + e) ∧
      w.raw Reg.unit_UNIT_STATE = 4 ∧ w.raw Reg.unit_RED_RESYNC_LEFT = 0 ∧
      s.regsBut w [Reg.unit_UNIT_STATE.key 0, Reg.unit_RED_RESYNC_LEFT.key 0] ∧ w = { s with
        regs := w.regs,
        red := { s.red with claimNext := none, resync := [], mirroring := [], alert := false, rxFix := [] } }) ∧
  (∀ s : State, (s.unitState = 4 → s.red.partnerState % 8 = 3 → s.flag Reg.unit_PARTNER_SEEN = true →
      exec .relinquish s = .next (State.wr { s with red := { s.red with handover := true } } Reg.unit_RELINQUISH 0 1)) ∧
    (s.unitState ≠ 4 → exec .relinquish s = .next (s.count Reg.unit_RED_CMD_IGNORED))) ∧
  (∀ (s : State) (src : Requester), ∃ u : State, exec (.epochClear src) s = .next (u.syncClaim.complete (s.newHandle src).1 stOK) ∧
    u.raw Reg.unit_RED_EPOCH_EXHAUSTED = 0 ∧ s.regsBut u [Reg.unit_RED_EPOCH_EXHAUSTED.key 0] ∧
    u = { (s.newHandle src).2 with regs := u.regs, red := { s.red with stored := 0, highSeen := 0 } }) ∧
  (∀ (s : State) (src : Requester),
    (s.unitState ≠ 5 → exec (.unfitRelease src) s = .next ((s.newHandle src).2.complete (s.newHandle src).1 stOK)) ∧
    (s.unitState = 5 → exec (.unfitRelease src) s = .next ((State.enterResync { (s.newHandle src).2 with
      red := { (s.newHandle src).2.red with alert := false } }).complete (s.newHandle src).1 stOK)))

/-- A STANDBY module compares mirrored evaluations and becomes unfit at the limit; a RESYNC module asks for, loads and
acknowledges far fixes (spec/07_redundancy.md). -/
def Obligations.MirrorComparesAndResyncRestores : Prop :=
  (∀ (s : State) (m r : MirrorRec), s.unitState = 3 → m.flags % 4 = 0 → r.flags % 4 = 0 →
    let i := r.slice * 512 + r.inst
    (m.crc = r.crc → s.compareOne m r =
      State.count { s with red := { s.red with mism := Tbl.put 0 s.red.mism i 0 } } Reg.unit_RED_MIRROR_MATCH) ∧
    (m.crc ≠ r.crc → Tbl.look 0 s.red.mism i + 1 < s.rd Reg.unit_MISMATCH_LIMIT →
      (s.compareOne m r).raw Reg.unit_RED_MIRROR_MISMATCH = (s.raw Reg.unit_RED_MIRROR_MISMATCH + 1) % 2 ^ 32 ∧
      s.regsBut (s.compareOne m r) (Reg.unit_RED_MIRROR_MISMATCH.key 0 :: eventKeys 127) ∧
      Quiet { s with red := { s.red with mism := Tbl.put 0 s.red.mism i (Tbl.look 0 s.red.mism i + 1) } } (s.compareOne m r)) ∧
    (m.crc ≠ r.crc → s.rd Reg.unit_MISMATCH_LIMIT ≤ Tbl.look 0 s.red.mism i + 1 →
      ∃ w : State, s.compareOne m r = (w.toUnit 5).raise 127 0x0101 (instInfo i) ∧
        w.raw Reg.unit_RED_MIRROR_MISMATCH = (s.raw Reg.unit_RED_MIRROR_MISMATCH + 1) % 2 ^ 32 ∧
        s.regsBut w (Reg.unit_RED_MIRROR_MISMATCH.key 0 :: eventKeys 127) ∧ Quiet { s with red := { s.red with
          alert := true, mism := Tbl.put 0 s.red.mism i (Tbl.look 0 s.red.mism i + 1) } } w)) ∧
  (∀ (s : State) (now : Nat) (f : Bytes), ∃ o v, (s.advance now).receivePair f = (o, v) ∧
    (o = none → exec (.mirror now f) s = .next v ∧ exec (.resyncReq now f) s = .next v ∧ exec (.resyncData now f) s = .next v ∧
      exec (.resyncAck now (some f)) s = .next v) ∧
    (∀ p, o = some p →
      (p.type = 2 → v.syncClaim.unitState = 3 →
        let z := v.syncClaim
        exec (.mirror now f) s = .next (State.compareMirror { z with
          red := { z.red with partner := z.red.partner ++ mirrorRecs z.mono p.body } })) ∧
      (p.type = 3 → v.unitState = 4 → ∀ x rest, (v.inst (be 0 2 p.body)).far = x :: rest → exec (.resyncReq now f) s =
        .next (v.sendFix (v.farRecord (be 0 2 p.body) x) ((v.farRecord (be 0 2 p.body) x).length + 1))) ∧
      (p.type = 4 → v.syncClaim.unitState = 2 → exec (.resyncData now f) s =
        .next (match Config.gcmOpen (Config.hkdf p.key [] infoResync 32) (pairIv p.hdr) p.hdr p.body with
          | none => v.syncClaim.count Reg.unit_RED_PAIR_AUTH_FAIL
          | some b =>
            let got := v.syncClaim.red.rxFix ++ b
            let w : State := { v.syncClaim with red := { v.syncClaim.red with rxFix := got } }
            if got.length < 64 ∨ (slice 0 4 got = [0x46, 0x46, 0x58, 0x31] ∧ got.length < 64 + le 36 4 got) then w else w.takeFar)) ∧
      (p.type = 5 → v.unitState = 4 → exec (.resyncAck now (some f)) s =
        .next { v with red := { v.red with mirroring := (v.red.mirroring ++ [be 0 2 p.body]).eraseDups } }))) ∧
  (∀ (s : State) (r : MirrorRec) (rest : List MirrorRec), s.compareMirror.red.partner = r :: rest →
    let u := s.compareMirror.advance (r.t + s.compareMirror.rd Reg.unit_MIRROR_HOLD * unitsUs)
    exec .mirrorLate s = .next (State.count { u with red := { u.red with partner := rest } } Reg.unit_RED_MIRROR_LATE)) ∧
  (∀ (s : State) (i : Nat), s.unitState = 2 → s.red.resync.filter (fun e => e.2 = 1 && s.storeReady (s.inst e.1)) = [(i, 1)] →
    exec .resyncStoreReady s = .next (State.sendPair { s with red := { s.red with resync := Tbl.ins 2 s.red.resync i } } 35 5 3
      (beBytes 2 i))) ∧
  (∀ (s : State) (now : Nat), (s.advance now).unitState = 2 → s.red.resync = [] →
    exec (.resyncAck now none) s = .next (s.advance now).syncResync.tryStandby)

/-- A sample that no record holds is early, on time, late or too late by its distance from its nominal time; a second
one is a duplicate (spec/08_sample_ingest.md). -/
def Obligations.SamplesAreClassedByTheirArrival : Prop :=
  (∀ (s : State) (k smpCnt time arrived : Nat) (synced : Bool) (chans : List (Nat × Nat)),
    let e0 := (s.strm k).entry
    let d : Int := ((time % unitsSec / unitsNs * unitsNs : Nat) : Int) - (smpCnt * entPeriod e0 : Nat)
    let a := time / unitsSec * entRate e0 + smpCnt
    let e := s.entryAt k a
    let w : Int := entWindow e * unitsUs
    let h : Int := w + (entHorizon e * entPeriod e0 : Nat)
    let early : Int := -((min 1000 (s.rd Reg.svi_EARLY_TOL) * unitsUs : Nat) : Int)
    let out := s.classSample k smpCnt time arrived synced false chans;
    (-4500000000 ≤ d) → d < 4500000000 →
    (∀ x, s.sampleOf k a = some x → recReal x.record = true → out = s.count Reg.str_SVI_DUP k) ∧
    (s.sampleOf k a = none → (d < early → out = s.count Reg.str_SVI_EARLY k) ∧
      (early ≤ d → h < d → out = s.count Reg.str_SVI_LATE_DROP k) ∧
      (early ≤ d → d ≤ h → s.raw Reg.str_STATE k ≠ 3 → k < 512 → ∃ smp quals, smp.a = a ∧ smp.vals = chans.map (·.1) ∧ smp.ref = arrived ∧
        out = ((if w < d then (s.count Reg.str_SVI_RX k).count Reg.str_SVI_LATE k else s.count Reg.str_SVI_RX k).newSample k
          smp).tookReal k a (chans.map (·.1)) quals))) ∧
  (∀ (s : State) (f : SwFrame) (rest : List SwFrame), s.net.toIngest = f :: rest → (headersOf f.bytes).etype = 0x88BA →
    let u : State := { s with net := { s.net with toIngest := rest } }
    let parsed := asdusOf (f.bytes.drop ((headersOf f.bytes).payload + 8))
    (parsed = none → exec .svFrameIngest s = .next ((u.count Reg.svi_SVI_BER_ERR).formatError 0x3FF 1)) ∧
    (∀ as, parsed = some as → exec .svFrameIngest s = .next (as.foldl (fun v x => v.ingestAsdu f (headersOf f.bytes) x) u)))

/-- A missing sample is reckoned at its time and declared at its horizon; a silent stream is lost; a struck sample is
replaced; the aperture reads what is granted (spec/08_sample_ingest.md, spec/13_slices.md,
spec/20_recovery_selftest.md). -/
def Obligations.StreamsReckonDeclareAndEnd : Prop :=
  (∀ (s : State) (k : Nat), s.live k = true →
    let x := s.strm k
    let e := s.entryAt k x.next
    let u := s.advance (s.monoOf (x.next * entPeriod e + entWindow e * unitsUs + entSwRes e * unitsNs))
    exec (.reckonCheck k) s = .next (State.reckon (u.setStrm k { x with next := x.next + 1 }) k x.next)) ∧
  (∀ (s : State) (k : Nat) (o : OpenSample) (rest : List OpenSample), (s.strm k).opens = o :: rest →
    exec (.substituteDeclare k) s = .next ((s.advance (s.monoOf o.declare)).declare k o.a)) ∧
  (∀ (s : State) (k : Nat), k < 512 → s.live k = true → s.raw Reg.str_STATE k ≠ 3 →
    ∃ t, exec (.streamLostTimeout k) s = .next t ∧ t.raw Reg.str_STATE k = 3 ∧
      s.regsBut t (Reg.str_STATE.key k :: eventKeys 48) ∧ Quiet { s with
        mono := max s.mono ((s.strm k).lastRealAt + s.rd Reg.svi_LOST_MS * unitsMs),
        wh := { s.wh with peers := Tbl.upd ({} : Peer) s.wh.peers (entPeer (s.strm k).entry) fun p => { p with state := 2 } } } t) ∧
  (∀ (s : State) (k a word : Nat),
    (s.sampleOf k a = none → exec (.sampleStoreEcc k a word) s =
      .next ((s.count Reg.svi_SVI_STORE_ECC).raise 51 0x0003 (6 * 2 ^ 24 + word % 2 ^ 24))) ∧
    (∀ x, s.sampleOf k a = some x →
      let e := (s.strm k).entry
      let quals := List.replicate (entChannels e) (qualNorec 0)
      let y : Sample := {
        a := a, record := recordOf (a % entRate e) (a / entRate e) (recSubst + recNorec) quals,
        vals := List.replicate (entChannels e) 0, quals := quals, ref := s.mono }
      ∃ u v : State, exec (.sampleStoreEcc k a word) s =
        .next (v.recoveryRecord 2 1 0x3F 0x3F 0xFFFF k a a 0 v.tai) ∧
      v = (if recOpen x.record then u.passVerdict k a 3 else u.filterAgain k a) ∧
      s.regsBut u ([Reg.svi_SVI_STORE_ECC.key 0, Reg.str_LAST_SMPCNT.key k, Reg.str_LAST_SEC.key k, Reg.str_HEAD.key k]
        ++ eventKeys 51) ∧
      Tbl.sameBut ({} : StreamX) s.sv.streams u.sv.streams k ∧ Quiet { s with sv := { s.sv with
        streams := u.sv.streams, slots := u.sv.slots, struck := s.sv.struck ++ [(k, a)],
        details := Tbl.put [] s.sv.details (k * 256 + a % 256) quals,
        store := Tbl.put ({} : Sample) s.sv.store (storeKey k (a % entDepth e)) y } } u)) ∧
  (∀ (s : State) (link off : Nat), s.linkUp link = true → off % 4 = 0 →
    let sl := off / 0x80000
    let p := off / 0x10000 % 8
    let k := s.raw Reg.apt_APT_STREAM (sl * 8 + p)
    let o := s.raw Reg.apt_APT_PAGE (sl * 8 + p) * 65536 + off % 0x10000
    let ok := s.bound sl && s.sliceLink sl = link && s.flag Reg.apt_APT_EN (sl * 8 + p) && s.granted sl 1 k 0 && s.live k
      && o + 4 ≤ ringSize (s.strm k).entry
    (ok = true → exec (.apertureRead link off 4) s = .next (s.emit (.readData link (0x2000000 + off)
      (ofLe ((List.range 4).map fun b => s.ringByte k (o + b)))))) ∧
    (ok = false → exec (.apertureRead link off 4) s = .next (((s.count Reg.svi_SVI_APT_DENY).raise 51 0x0104 (sl * 2 ^ 24 + p)).emit
      (.readData link (0x2000000 + off) 0))))

/-- A chain that an instance reads is held and counted, another waits for the next sample of its stream, where it
starts anew (spec/09_filter_chain.md, spec/03_registers_events.md). -/
def Obligations.FilterChainsChangeAtSamples : Prop :=
  (∀ (s : State) (c s1 s2 : Nat),
    (s.slotRead c = true → exec (.filterChainWrite c s1 s2) s = .next (s.count Reg.flt_FLT_CFG_HELD)) ∧
    (s.slotRead c = false → s1 < 8 → s2 < 8 → exec (.filterChainWrite c s1 s2) s =
      .next ((s.buffer Reg.slot_S1_SEL c s1 (0x390000 + 8 * c)).buffer Reg.slot_S2_SEL c s2 (0x390000 + 8 * c)))) ∧
  (∀ (s : State) (k : Nat), s.live k = true →
    let x := s.strm k
    let n := max (x.bound + 1) (s.tai / entPeriod x.entry)
    let u := State.advance (s.setStrm k { x with bound := n }) (s.monoOf (n * entPeriod x.entry))
    exec (.sampleBoundary k) s = .next (u.applyChains (u.chainDue (some k)) n)) ∧
  (∀ (s : State) (c a : Nat), c < 8192 →
    let f := match s.slotOwner c with
      | some (k, _) => entRate (s.strm k).entry
      | none => 0
    let z := clampChain f (s.chain c).1 (s.chain c).2
    let t := s.chainApply c a
    t.raw Reg.slot_M_ACT c = chainM z.1 z.2.1 % 2 ^ Reg.slot_M_ACT.wid ∧
    t.raw Reg.slot_D_ACT c = chainD z.1 z.2.1 % 2 ^ Reg.slot_D_ACT.wid ∧ t.raw Reg.slot_SETTLING c = 1 ∧
    s.regsBut t ([Reg.slot_S1_SEL.key c, Reg.slot_S2_SEL.key c, Reg.slot_M_ACT.key c, Reg.slot_D_ACT.key c,
      Reg.slot_SETTLING.key c, Reg.flt_CHAINS_ACTIVE.key 0] ++ eventKeys 54) ∧ Quiet { s with
        sv := { s.sv with filters := Tbl.put ({} : FSlot) s.sv.filters c { outs := [], applied := a } },
        wh := { s.wh with clampNext := t.wh.clampNext, clamps := t.wh.clamps } } t)

/-- Unit u executes with context c, the word at its pc is `word`, and charging the cycles leaves state t within what the
program declares (R299, R308). -/
def Sys2Proof.Machine.State.atWord (s : State) (u word cost : Nat) (c : Ctx) (t : State) : Prop :=
  s.unitCtx u = some c ∧ wordAt (s.unitCode u) c.pc = some word ∧ s.overrun u (c.cycles + cost) = (t, false)

/-- The context with the cycles charged and pc on the next word. -/
def Sys2Proof.Machine.Ctx.stepped (c : Ctx) (cost : Nat) : Ctx := { c with cycles := c.cycles + cost, pc := c.pc + 4 }

/-- Each integer instruction writes its 32-bit result sign-extended, charges one cycle and moves to the next word
(spec/10_torchon_array.md). -/
def Obligations.IntegerInstructionsWrap : Prop :=
  ∀ (s t : State) (u rd ra rb imm : Nat) (c : Ctx),
    let a := BitVec.ofNat 32 (c.s ra)
    let b := BitVec.ofNat 32 (c.s rb)
    let put := fun (v : BitVec 32) => t.setCtx u ((c.stepped 1).setS rd (v.signExtend 64).toNat)
    (s.atWord u (encR 0x01 rd ra rb 0) 1 c t → exec (.add u rd ra rb) s = .next (put (a + b))) ∧
    (s.atWord u (encR 0x02 rd ra rb 0) 1 c t → exec (.sub u rd ra rb) s = .next (put (a - b))) ∧
    (s.atWord u (encR 0x03 rd ra rb 0) 1 c t → exec (.mul u rd ra rb) s = .next (put (a * b))) ∧
    (s.atWord u (encR 0x04 rd ra rb 0) 1 c t → exec (.and u rd ra rb) s = .next (put (a &&& b))) ∧
    (s.atWord u (encR 0x05 rd ra rb 0) 1 c t → exec (.or u rd ra rb) s = .next (put (a ||| b))) ∧
    (s.atWord u (encR 0x06 rd ra rb 0) 1 c t → exec (.xor u rd ra rb) s = .next (put (a ^^^ b))) ∧
    (s.atWord u (encR 0x07 rd ra rb 0) 1 c t → exec (.shl u rd ra rb) s = .next (put (a <<< (b.toNat % 32)))) ∧
    (s.atWord u (encR 0x08 rd ra rb 0) 1 c t → exec (.shr u rd ra rb) s = .next (put (a >>> (b.toNat % 32)))) ∧
    (s.atWord u (encR 0x09 rd ra rb 0) 1 c t → exec (.sra u rd ra rb) s = .next (put (a.sshiftRight (b.toNat % 32)))) ∧
    (s.atWord u (encR 0x0A rd ra rb 0) 1 c t → exec (.slt u rd ra rb) s = .next (put (if a.slt b then 1 else 0))) ∧
    (s.atWord u (encI 0x0B rd ra imm) 1 c t → exec (.addi u rd ra imm) s = .next (put (a + (BitVec.ofNat 14 imm).signExtend 32))) ∧
    (s.atWord u (encI 0x0C rd ra imm) 1 c t → imm < 2 ^ 14 → exec (.ori u rd ra imm) s = .next (put (a ||| BitVec.ofNat 32 imm))) ∧
    (s.atWord u (encL 0x0D rd imm) 1 c t → exec (.lui u rd imm) s = .next (put (BitVec.ofNat 32 imm <<< 12)))

/-- Each floating-point instruction writes the result of its operation in its format, gathers its flags and charges
its cycles (spec/10_torchon_array.md). -/
def Obligations.FloatInstructionsWriteResultAndFlags : Prop :=
  ∀ (s t : State) (u rd ra rb sel : Nat) (p mx : Bool) (c : Ctx),
    let f := fmtOf p
    let x := if p then c.s ra else c.s ra % 2 ^ 32
    let y := if p then c.s rb else c.s rb % 2 ^ 32
    let z := if p then c.s rd else c.s rd % 2 ^ 32
    let put := fun (cost : Nat) (r : Nat × Nat) =>
      (Host.Outcome.next (State.setCtx t u (Ctx.flag ((c.stepped cost).setS rd r.1) r.2)) : Host.Outcome State Fault Refusal)
    let one := if p then 2 else 1;
    (s.atWord u (encR 0x10 rd ra rb (b2n p)) one c t → exec (.fadd u rd ra rb p) s = put one (f.add x y)) ∧
    (s.atWord u (encR 0x11 rd ra rb (b2n p)) one c t → exec (.fsub u rd ra rb p) s = put one (f.sub x y)) ∧
    (s.atWord u (encR 0x12 rd ra rb (b2n p)) one c t → exec (.fmul u rd ra rb p) s = put one (f.mul x y)) ∧
    (s.atWord u (encR 0x13 rd ra rb (b2n p)) (8 * one) c t → exec (.fdiv u rd ra rb p) s = put (8 * one) (f.div x y)) ∧
    (s.atWord u (encR 0x1A rd ra rb (b2n p)) (16 * one) c t → exec (.fatan2 u rd ra rb p) s = put (16 * one) (f.atan2 x y)) ∧
    (s.atWord u (encR 0x14 rd ra rb (b2n p)) one c t → exec (.fma u rd ra rb p) s = put one (f.fma x y z)) ∧
    (s.atWord u (encR 0x15 rd ra 0 (b2n p)) (8 * one) c t → exec (.fsqrt u rd ra p) s = put (8 * one) (f.sqrt x)) ∧
    (s.atWord u (encR 0x16 rd ra rb (b2n p + 2 * b2n mx)) one c t → exec (.fminmax u rd ra rb p mx) s = put one (f.minmax mx x y)) ∧
    (s.atWord u (encR 0x17 rd ra rb (b2n p + 2 * sel)) one c t → exec (.fsgn u rd ra rb p sel) s = put one (f.sgn sel x y)) ∧
    (s.atWord u (encR 0x18 rd ra rb (b2n p + 2 * sel)) one c t →
      exec (.fcmp u rd ra rb p sel) s = put one (b2n (f.cmp sel x y).1, (f.cmp sel x y).2)) ∧
    (s.atWord u (encR 0x19 rd ra 0 sel) (if sel < 2 then 1 else 2) c t →
      exec (.fcvt u rd ra sel) s = put (if sel < 2 then 1 else 2) (fcvtOf sel (c.s ra))) ∧
    (s.atWord u (encR 0x1B rd ra 0 (b2n p)) (16 * one) c t → exec (.fsincos u rd ra p) s =
      .next (t.setCtx u (Ctx.flag (((c.stepped (16 * one)).setS rd (f.sincos x).1).setS (rd + 1) (f.sincos x).2.1) (f.sincos x).2.2)))

/-- Vector instructions work lane by lane, VCMAC by complex pairs, VSUM over all lanes (spec/10_torchon_array.md). -/
def Obligations.VectorInstructionsWorkPerLane : Prop :=
  ∀ (s t : State) (u vd va vb rs lane : Nat) (p : Bool) (c : Ctx),
    let f := fmtOf p
    let n := if p then 2 else 4
    let A := fun (k : Nat) => (lanesOf p (c.v va)).getD k 0
    let B := fun (k : Nat) => (lanesOf p (c.v vb)).getD k 0
    let D := fun (k : Nat) => (lanesOf p (c.v vd)).getD k 0
    let one := if p then 2 else 1
    let done := fun (cost : Nat) (g : Nat → Nat × Nat) => (Host.Outcome.next (State.setCtx t u (Ctx.flag ((c.stepped cost).setV vd
      (packLanes p ((List.range n).map fun k => (g k).1))) ((List.range n).foldl (fun m k => m ||| (g k).2) 0))) :
        Host.Outcome State Fault Refusal);
    (s.atWord u (encV 0x20 vd va vb 0 (b2n p)) one c t → exec (.vadd u vd va vb p) s = done one fun k => f.add (A k) (B k)) ∧
    (s.atWord u (encV 0x21 vd va vb 0 (b2n p)) one c t → exec (.vsub u vd va vb p) s = done one fun k => f.sub (A k) (B k)) ∧
    (s.atWord u (encV 0x22 vd va vb 0 (b2n p)) one c t → exec (.vmul u vd va vb p) s = done one fun k => f.mul (A k) (B k)) ∧
    (s.atWord u (encV 0x23 vd va vb 0 (b2n p)) one c t → exec (.vfma u vd va vb p) s = done one fun k => f.fma (A k) (B k) (D k)) ∧
    (s.atWord u (encV 0x24 vd va vb 0 (b2n p)) (2 * one) c t →
      exec (.vcmac u vd va vb p) s = .next (t.setCtx u (Ctx.flag ((c.stepped (2 * one)).setV vd (cmac p (c.v va) (c.v vb) (c.v vd)).1)
        (cmac p (c.v va) (c.v vb) (c.v vd)).2))) ∧
    (s.atWord u (encV 0x25 0 va 0 rs (b2n p)) 2 c t →
      let lo := f.add (A 0) (A 1)
      let hi := f.add (A 2) (A 3)
      let r := if p then lo else ((f.add lo.1 hi.1).1, lo.2 ||| hi.2 ||| (f.add lo.1 hi.1).2)
      exec (.vsum u va rs p) s = .next (t.setCtx u (Ctx.flag ((c.stepped 2).setS rs r.1) r.2))) ∧
    (s.atWord u (encV 0x26 vd 0 0 rs (b2n p)) 1 c t → exec (.vsplat u vd rs p) s = .next (t.setCtx u
      ((c.stepped 1).setV vd (packLanes p (List.replicate n (if p then c.s rs else c.s rs % 2 ^ 32)))))) ∧
    (s.atWord u (encV 0x27 0 va 0 rs (b2n p + 2 * lane)) 1 c t → lane < n →
      exec (.vext u va rs p lane) s = .next (t.setCtx u ((c.stepped 1).setS rs (A lane))))

/-- LD, ST, VLD and VST reach the unit's own data at aligned addresses within DATA_LEN; MEM_BOUNDS comes before ALIGN
(spec/10_torchon_array.md, spec/14_scan_engine.md). -/
def Obligations.InstanceDataAccesses : Prop :=
  ∀ (s t : State) (u rd ra rs imm fn : Nat) (c : Ctx),
    let size : Nat := if imm % 4 = 0 then 4 else if imm % 4 = 1 then 8 else if imm % 4 = 2 then 2 else 1
    let a : Int := ((c.s ra % 2 ^ 32 : Nat) : Int) + 4 * (BitVec.ofNat 12 (imm / 4)).toInt
    let len := (t.unitData u).1
    let inside := 0 ≤ a ∧ a + size ≤ len
    let data := (t.unitData u).2
    let v := c.s rs % 2 ^ 32 + 16 * fn;
    (s.atWord u (encI 0x30 rd ra imm) 1 c t →
      (inside → a % size = 0 → let w := ofLe (Memory.readBytes data a.toNat size)
        exec (.ld u rd ra imm 0 0) s = .next (t.setCtx u ((c.stepped 1).setS rd
          (if size = 4 then ((BitVec.ofNat 32 w).signExtend 64).toNat else w)))) ∧
      (inside → a % size ≠ 0 → exec (.ld u rd ra imm 0 0) s = .next (t.unitFault u 3)) ∧
      (¬ inside → exec (.ld u rd ra imm 0 0) s = .next (t.unitFault u 2))) ∧
    (s.atWord u (encI 0x31 rd ra imm) 1 c t →
      (inside → a % size = 0 → exec (.st u rd ra imm) s =
        .next ((t.unitStore u a.toNat (leBytes size (c.s rd))).setCtx u (c.stepped 1))) ∧
      (inside → a % size ≠ 0 → exec (.st u rd ra imm) s = .next (t.unitFault u 3)) ∧
      (¬ inside → exec (.st u rd ra imm) s = .next (t.unitFault u 2))) ∧
    (s.atWord u (encV 0x28 rd 0 0 rs fn) 1 c t →
      (v + 16 ≤ len → v % 16 = 0 → exec (.vld u rd rs fn) s =
        .next (t.setCtx u ((c.stepped 1).setV rd (ofLe (Memory.readBytes data v 16))))) ∧
      (v + 16 ≤ len → v % 16 ≠ 0 → exec (.vld u rd rs fn) s = .next (t.unitFault u 3)) ∧
      (len < v + 16 → exec (.vld u rd rs fn) s = .next (t.unitFault u 2))) ∧
    (s.atWord u (encV 0x29 rd 0 0 rs fn) 1 c t →
      (v + 16 ≤ len → v % 16 = 0 → exec (.vst u rd rs fn) s =
        .next ((t.unitStore u v (leBytes 16 (c.v rd))).setCtx u (c.stepped 1))) ∧
      (v + 16 ≤ len → v % 16 ≠ 0 → exec (.vst u rd rs fn) s = .next (t.unitFault u 3)) ∧
      (len < v + 16 → exec (.vst u rd rs fn) s = .next (t.unitFault u 2)))

/-- Input instructions read the sample of the trigger time at an age within the declared history, or fault with
INPUT_RANGE (spec/10_torchon_array.md). -/
def Obligations.InputsAreReadAtTheirAge : Prop :=
  ∀ (s t : State) (u rd ra imm : Nat) (c : Ctx) (e : Eval) (tpl : InTpl) (b : Nat), u < 64 →
    let k := imm % 64
    let age := c.s ra % 2 ^ 32 + imm / 64
    let ta := t.trigTime (t.inst e.inst) e.n
    (s.atWord u (encI 0x32 rd ra imm) 1 c t →
      (t.inputOf u k 1 = none → exec (.ldin u rd ra imm) s = .next (t.unitFault u 4)) ∧
      (t.inputOf u k 1 = some (e, tpl, b) →
        (tpl.hist ≤ age → exec (.ldin u rd ra imm) s = .next (t.unitFault u 4)) ∧
        (age < tpl.hist → let w := t.channelWord (b % 2 ^ 13) ta age false
          exec (.ldin u rd ra imm) s = .next ((t.noteReckoned u w.2).setCtx u ((c.stepped 1).setS rd w.1))))) ∧
    (s.atWord u (encI 0x33 rd ra imm) 4 c t →
      (t.inputOf u k 4 = none → ∃ r : State, r = t.unitFault u 4 ∧ exec (.ldss u rd ra imm) s = .next (match r.curEval u with
        | some x => if x.wait.isSome && !r.deep u then r.freeTile u else r
        | none => r)) ∧
      (t.inputOf u k 4 = some (e, tpl, b) → age ≤ tpl.maxAge → Tbl.look 0 e.reads k < tpl.hist → ∃ r : State,
        r = (t.putEval u { e with reads := Tbl.upd 0 e.reads k (· + 1), wait := some (rd, k, age) }).setCtx u (c.stepped 4) ∧
        exec (.ldss u rd ra imm) s = .next (match r.curEval u with
          | some x => if x.wait.isSome && !r.deep u then r.freeTile u else r
          | none => r))) ∧
    ((s.tile u).eval? e.inst e.n = some e → e.wait = some (rd, k, age) →
      let w := s.channelWord ((s.inst e.inst).inB.getD k 0 % 2 ^ 13) (s.trigTime (s.inst e.inst) e.n) age true
      exec (.ldssDataArrive u e.inst e.n) s =
        .next (State.resume (s.putEval u { e with wait := none, ctx := e.ctx.setS rd w.1, reckoned := e.reckoned || w.2 }) u)) ∧
    (s.atWord u (encI 0x34 rd ra imm) 1 c t →
      (t.inputOf u k 2 = none → exec (.ldfl u rd ra imm) s = .next (t.unitFault u 4)) ∧
      (t.inputOf u k 2 = some (e, tpl, b) →
        (tpl.hist ≤ age → exec (.ldfl u rd ra imm) s = .next (t.unitFault u 4)) ∧
        (∀ o, age < tpl.hist → (t.filtered (b % 2 ^ 13) ta)[age]? = some o → exec (.ldfl u rd ra imm) s =
          .next ((t.noteReckoned u (bit 3 o.flags)).setCtx u ((c.stepped 1).setS rd
            (o.val % 2 ^ 32 + o.qual % 2 ^ 14 * 2 ^ 32 + o.flags % 16 * 2 ^ 48)))))) ∧
    (s.atWord u (encI 0x35 rd 0 imm) 2 c t →
      (t.inputOf u k 3 = none → exec (.ldsg u rd imm) s = .next (t.unitFault u 4)) ∧
      (t.inputOf u k 3 = some (e, tpl, b) → let v := Tbl.look (0, 0) e.sigs k
        exec (.ldsg u rd imm) s = .next (t.setCtx u ((c.stepped 2).setS rd
          (if bit 6 imm then v.2 % 2 ^ 16 else signalWord tpl.vtype v.1)))))

/-- Branches, jumps, OUT, LDTM, SFB, END and ILLEGAL do what the tables say; an evaluation starts at its slot
(spec/10_torchon_array.md, spec/14_scan_engine.md). -/
def Obligations.ControlOutputsAndTheEnd : Prop :=
  (∀ (s t : State) (u rd ra rb imm fn : Nat) (c : Ctx),
    let a := BitVec.ofNat 32 (c.s ra)
    let b := BitVec.ofNat 32 (c.s rb)
    let go := fun (taken : Bool) => (Host.Outcome.next (t.setCtx u
      (if taken then { c.stepped 1 with pc := ofSigned 32 ((c.pc : Int) + 4 * (BitVec.ofNat 14 imm).toInt) } else c.stepped 1)) :
        Host.Outcome State Fault Refusal);
    (s.atWord u (encI 0x38 ra rb imm) 1 c t → exec (.beq u ra rb imm) s = go (a == b)) ∧
    (s.atWord u (encI 0x39 ra rb imm) 1 c t → exec (.bne u ra rb imm) s = go (a != b)) ∧
    (s.atWord u (encI 0x3A ra rb imm) 1 c t → exec (.blt u ra rb imm) s = go (a.slt b)) ∧
    (s.atWord u (encI 0x3B ra rb imm) 1 c t → exec (.bge u ra rb imm) s = go (!a.slt b)) ∧
    (s.atWord u (encL 0x3C rd imm) 1 c t → exec (.jal u rd imm) s = .next (t.setCtx u
      { (c.stepped 1).setS rd (c.pc + 4) with pc := ofSigned 32 ((c.pc : Int) + 4 * (BitVec.ofNat 20 imm).toInt) })) ∧
    (s.atWord u (encI 0x3D rd ra imm) 1 c t → exec (.jalr u rd ra imm) s = .next (t.setCtx u
      { (c.stepped 1).setS rd (c.pc + 4) with pc := (a + (BitVec.ofNat 14 imm).signExtend 32).toNat / 4 * 4 })) ∧
    (s.atWord u (encR 0x36 rd ra rb fn) 1 c t →
      (∀ w, t.stage u (rd * 32 + fn) (c.s ra) (c.s rb) = some w → exec (.out u rd ra rb fn) s = .next (w.setCtx u (c.stepped 1))) ∧
      (t.stage u (rd * 32 + fn) (c.s ra) (c.s rb) = none → exec (.out u rd ra rb fn) s = .next (t.unitFault u 7))) ∧
    (s.atWord u (encR 0x37 rd 0 0 fn) 1 c t → exec (.ldtm u rd fn) s =
      .next (t.setCtx u ((c.stepped 1).setS rd (t.datum u fn (c.stepped 1))))) ∧
    (s.atWord u (encI 0x2A rd ra imm) 4 c t → 64 ≤ u → ∀ bl y, (t.scanOf (u - 64)).prog.sfbs[imm]? = some bl →
      (t.scanOf (u - 64)).cycle = some y → let r := sfbCall bl.type (c.s ra) (y.latch / unitsNs) (sfbRead y.work bl.off)
      exec (.sfb u rd ra imm) s = .next ((t.setScan (u - 64) { t.scanOf (u - 64) with
        cycle := some { y with work := sfbWrite y.work bl.off bl.type r } }).setCtx u ((c.stepped 4).setS rd (sfbResult bl.type r)))) ∧
    (s.atWord u (0x3F * 2 ^ 26) 1 c t → let w := t.setCtx u { c with cycles := c.cycles + 1 };
      (64 ≤ u → exec (.endEval u) s = .next (w.scanCommit (u - 64))) ∧
      (∀ e, u < 64 → w.curEval u = some e → exec (.endEval u) s = .next (w.evalEnd u e))) ∧
    (s.unitCtx u = some c → (∀ w, wordAt (s.unitCode u) c.pc = some w → legalWord (decide (64 ≤ u)) w = false) →
      exec (.illegal u) s = .next (s.unitFault u 1))) ∧
  (∀ (s : State) (tl now i : Nat) (x : Inst), let u := s.advance now
    u.raw Reg.tile_STATE tl = 1 → (u.tile tl).loading = false → (u.tile tl).cur = none → u.tai % unitsFrame / 9000 < 69 →
    (u.instsOn (u.raw Reg.tile_LTILE tl)).find? (fun e => e.2.blocks.contains u.slotNow) = some (i, x) →
    u.readiness tl i = some false → exec (.evalStart tl now) s = .next (u.startNext tl i))

/-- An evaluation whose charged cycles exceed STEP_MAX faults with STEP_LIMIT; an END that brings the count to exactly
STEP_MAX completes (R308). -/
def Obligations.StepLimitFaults : Prop :=
  (∀ (s : State) (u rd ra rb word cost : Nat) (e : Eval) (f : State → Ctx → Except Nat (Ctx × State)), u < 64 → s.curEval u = some e → e.wait = none →
    let max := (s.inst e.inst).prog.stepMax
    let at_ := fun (w : Nat) => wordAt (s.inst e.inst).prog.code e.ctx.pc = some w;
    (at_ (encR 0x01 rd ra rb 0) →
      (max < e.ctx.cycles + 1 → exec (.add u rd ra rb) s = .next (s.evalFault u 6)) ∧
      (e.ctx.cycles + 1 ≤ max → let v := BitVec.ofNat 32 (e.ctx.s ra) + BitVec.ofNat 32 (e.ctx.s rb)
        exec (.add u rd ra rb) s = .next (s.putEval u { e with ctx := (e.ctx.stepped 1).setS rd (v.signExtend 64).toNat }))) ∧
    (at_ word → max < e.ctx.cycles + cost → s.runOp u word cost f = s.evalFault u 6) ∧
    (at_ (0x3F * 2 ^ 26) →
      (max < e.ctx.cycles + 1 → exec (.endEval u) s = .next (s.evalFault u 6)) ∧
      (e.ctx.cycles + 1 ≤ max → ∀ d, (s.putEval u { e with ctx := { e.ctx with cycles := e.ctx.cycles + 1 } }).curEval u = some d →
        exec (.endEval u) s = .next ((s.putEval u { e with ctx := { e.ctx with cycles := e.ctx.cycles + 1 } }).evalEnd u d))))

/-- Verdicts confirm or roll back, replays and commits come in their order, a late evaluation is lost, a publication
repeats (spec/11_speculation_commit.md, spec/12_admission.md). -/
def Obligations.EvaluationsCommitReplayAndAreLost : Prop :=
  (∀ (s : State) (tl : Nat) (v : SampleVerdict) (rest : List SampleVerdict), (s.tile tl).verdicts = v :: rest →
    let u := s.setTile tl { s.tile tl with verdicts := rest }
    (v.kind = 1 → exec (.verdictReceive tl) s = .next (u.settle tl)) ∧
    (∀ i x n, v.kind = 2 → u.instsOn (u.raw Reg.tile_LTILE tl) = [(i, x)] → (u.instStreams x).any (fun ks => ks.2 = v.stream) = true →
      let hit := (u.tile tl).evals.filter fun e => e.inst = i && !e.final && !e.rebuild && e.phase ≠ 4 && u.dependsOn (u.inst i) e.n v.stream v.a
      (∃ e, e ∈ hit ∧ e.n = n) → (∀ e, e ∈ hit → n ≤ e.n) →
      exec (.verdictReceive tl) s = .next (State.settle (u.rollback tl i n true) tl))) ∧
  (∀ (s : State) (tl : Nat) (r : Replay) (rest : List Replay), (s.tile tl).replay = r :: rest →
    (s.tile tl).loading = false → (s.tile tl).cur = none → (s.tile tl).evals.any (fun e => e.inst = r.inst && e.phase = 0) = false →
    let lost := !r.rebuild && (s.acrossOverflow (s.inst r.inst) r.n || s.readsStruck (s.inst r.inst) r.n)
    (lost = false → exec (.replay tl) s = .next (((s.setTile tl { s.tile tl with replay := rest }).count Reg.tor_TOR_REPLAY_EVALS).startEval
      tl r.inst r.n true r.rebuild)) ∧
    (lost = true → exec (.replay tl) s = .next (s.loseEval tl r.inst r.n))) ∧
  (∀ (s : State) (tl i n : Nat) (e : Eval), s.commitHead tl = some (i, n) → (s.tile tl).eval? i n = some e →
    (e.final = true → e.rebuild = false → exec (.commitEvaluation tl) s = .next (s.commitEval tl i e)) ∧
    (e.final = false → exec (.commitEvaluation tl) s = .next s)) ∧
  (∀ (s : State) (i tl tm n : Nat), s.instTile i = some tl → s.headOf tl i = some (tm, n) → s.inputsStored (s.inst i) n = true →
    s.inputsUnsettled tl (s.inst i) n = false →
    (∀ e, (s.tile tl).eval? i n = some e → e.final = true → exec (.evalLost i) s = .next s) ∧
    ((∀ e, (s.tile tl).eval? i n = some e → e.final = false) →
      let u := State.loseEval (s.advance (s.tRef (s.inst i) n + (s.inst i).bPub * unitsNs)) tl i n
      exec (.evalLost i) s = .next (if u.commitHead tl = some (i, n) then u.commitNext tl else u))) ∧
  (∀ (s : State) (p tm : Nat), (s.pub p).next = some tm →
    let x := s.pub p
    let iv := min (2 * x.interval) (pubTMax x.entry)
    let sq := if x.sqNum = 2 ^ 32 - 1 then 1 else x.sqNum + 1
    let y : Pub := { x with
      sqNum := sq, interval := iv, next := some (max s.mono tm + iv * unitsMs),
      frame := setKind x.descs 4 (3 * iv) (setKind x.descs 2 sq x.frame) }
    let a : Arrival := {
      port := 33, t := max s.mono tm, bytes := padTo 60 y.frame, desc := some (6, some (pubEgress x.entry), 128),
      genSa := pubSa x.entry, pub := some (p * 2 ^ 32 + x.stNum) }
    exec (.gooseRepeat p) s = .next { s with
      mono := max s.mono tm, tor := { s.tor with pubs := Tbl.put ({} : Pub) s.tor.pubs p y },
      net := { s.net with arrivals := s.net.arrivals ++ [a] } })

/-- A complete far fix takes the older slot, a late one is given up; a failed tile is fenced and a spare restores its
instances (spec/11_speculation_commit.md, spec/10_torchon_array.md, spec/20_recovery_selftest.md). -/
def Obligations.FixesAndSparesBringInstancesBack : Prop :=
  (∀ (s : State) (i : Nat) (f : FarFix), (s.inst i).farNew = some f →
    (∃ t, exec (.farFixComplete i) s = .next t ∧
      s.regsBut t (match s.instTile i with
        | some tl => [Reg.tspec_FARFIX_FRAME.key tl]
        | none => []) ∧
      t.inst i = { s.inst i with
        far := (f :: (s.inst i).far).take 2, farNew := none, journal := (t.inst i).journal,
        journalOver := (t.inst i).journalOver } ∧
      t = { s with regs := t.regs, tor := { s.tor with insts := Tbl.put ({} : Inst) s.tor.insts i (t.inst i) } }) ∧
    (let u := s.advance (s.monoOf ((f.frame + 32) * unitsFrame))
    exec (.farFixLate i) s = .next (State.count (u.setInst i { s.inst i with farNew := none }) Reg.tor_TOR_FARFIX_LATE))) ∧
  (∀ (s : State) (tl : Nat),
    (s.raw Reg.tile_STATE tl = 4 → exec (.tileFailure [tl]) s = .next s) ∧
    (s.raw Reg.tile_STATE tl ≠ 4 → s.raw Reg.tile_STATE tl ≠ 1 →
      exec (.tileFailure [tl]) s = .next (((s.setTile tl {}).tileState tl 4).clearTileRegs tl).respare) ∧
    (s.raw Reg.tile_STATE tl = 1 → s.pwr.down = none → exec (.tileFailure [tl]) s = .next ((s.fenceTile tl).bindSpare tl)) ∧
    (∀ a b, tl = min a b → exec (.tileFailure [a, b]) s = .next ((s.failTile tl).failTile (max a b)))) ∧
  (∀ (s : State) (tl i : Nat) (x : Inst), (s.tile tl).loading = true →
    (s.instsOn (s.raw Reg.tile_LTILE tl) = [] → exec (.spareLoadDone tl) s =
      .next (State.settle (s.setTile tl { s.tile tl with loading := false }) tl)) ∧
    (s.instsOn (s.raw Reg.tile_LTILE tl) = [(i, x)] → ∀ f rest, (s.inst i).far = f :: rest → ∃ u v : State,
      exec (.spareLoadDone tl) s = .next (v.settle tl) ∧
      u = { s with tor := { s.tor with
        insts := Tbl.put ({} : Inst) s.tor.insts i { s.inst i with data := f.data },
        tiles := Tbl.put ({} : Tile) s.tor.tiles tl { s.tile tl with replay := (u.tile tl).replay },
        recoveries := s.tor.recoveries.map fun (r : Recovery) =>
          if r.inst = i then { r with restore := 3, outside := false } else r } } ∧
      v = State.setTile (u.raise (quadSource tl) 0x0105 (i / 512 * 2 ^ 24 + 3 * 2 ^ 16 + i % 512)) tl
        { (u.raise (quadSource tl) 0x0105 (i / 512 * 2 ^ 24 + 3 * 2 ^ 16 + i % 512)).tile tl with loading := false }) ∧
    ((s.tile tl).loading = false → exec (.spareLoadDone tl) s = .next s))

/-- FB_DISABLE stops an instance at its number, FB_ENABLE restarts it at a hyperperiod, FB_EXCHANGE is queued and
applied instance by instance (spec/12_admission.md). -/
def Obligations.InstancesStopRestartAndAreExchanged : Prop :=
  (∀ (s : State) (src : Requester) (i E : Nat), s.hasInst i = true → E < 2 ^ 32 →
    let h := (s.newHandle src).1
    let u := (s.newHandle src).2
    let x := s.inst i
    let ahead := (E + 2 ^ 32 - x.next % 2 ^ 32) % 2 ^ 32
    let stopped := fun (v : State) (n : Nat) => State.checkStop (v.setInst i { x with
      stopAt := some (match x.stopAt with
        | some e => min e n
        | none => n),
      stops := x.stops ++ [(h, none)] }) i
    (E = 0xFFFFFFFF → exec (.fbDisable src i E) s = .next (stopped u x.next)) ∧
    (E ≠ 0xFFFFFFFF → ahead < 2 ^ 31 → exec (.fbDisable src i E) s = .next (stopped u (x.next + ahead))) ∧
    (E ≠ 0xFFFFFFFF → 2 ^ 31 ≤ ahead → exec (.fbDisable src i E) s =
      .next (stopped (u.clampReport h 0x03070000 E (x.next % 2 ^ 32) 7) x.next)) ∧
    (x.stopAt = none → exec (.fbEnable src i) s = .next (u.complete h stOK)) ∧
    (∀ e, x.stopAt = some e → x.next < e → exec (.fbEnable src i) s = .next (u.complete h stOK)) ∧
    (∀ e, x.stopAt = some e → e ≤ x.next → x.leaving = false → let n := max x.next (cdiv s.hyperAfter (x.div * entPeriod (s.strm x.trigger).entry))
      let sk := if x.next < n then (x.next, n) :: x.skips else x.skips
      exec (.fbEnable src i) s = .next (State.complete (u.setInst i { x with stopAt := none, next := n, skips := sk }) h stOK (n % 2 ^ 32)))) ∧
  (∀ (s : State) (src : Requester) (sl old new m : Nat), 
    let h := (s.newHandle src).1
    let u := (s.newHandle src).2
    let busy := s.tor.exchanges.any fun e => e.slice = sl && (e.oldSet = old || e.newSet = old || e.newSet = new)
    (busy = true → exec (.fbExchange src sl old new m) s = .next (u.complete h stBUSY)) ∧
    (∀ r, busy = false → u.computeExchange sl old new m = .error r →
      exec (.fbExchange src sl old new m) s = .next ((u.admRefused r false).complete h stREFUSED (r.reason + r.item * 2 ^ 16))) ∧
    (∀ e cs ds, busy = false → u.computeExchange sl old new m = .ok (e, cs, ds) → ∃ t, exec (.fbExchange src sl old new m) s = .next t ∧
      t = { u with
        tor := { u.tor with exchanges := u.tor.exchanges ++ [{ e with handle := h }] }, wh := { u.wh with
          clamps := t.wh.clamps, clampNext := t.wh.clampNext, clamped := t.wh.clamped, domains := t.wh.domains } })) ∧
  (∀ (s : State) (i : Nat) (e : Exchange), s.tor.exchanges.find? (fun e => e.slice = i / 512 && e.waiting.contains i) = some e →
    (s.exchangeReady i = true → exec (.exchangeApply i) s = .next (State.exchangeOne (s.advance (s.monoOf e.at_)) e i)) ∧
    (s.exchangeReady i = false → exec (.exchangeApply i) s = .next s))

/-- A tile mode waits for its Hyper boundary; a quad's clock changes only while no tile of it is allocated; a crossing
into reset gives its item up (spec/12_admission.md, spec/10_torchon_array.md, spec/01_architecture.md). -/
def Obligations.ModesClocksAndCrossingsChange : Prop :=
  (∀ (s : State) (src : Requester) (l tl : Nat) (deep : Bool), s.tileOf l = some tl → tl < 64 →
    let h := (s.newHandle src).1
    let u := (s.newHandle src).2
    let v := u.admView
    let got := (u.admReplace v { v with tiles := Tbl.ins ({ deep := deep } : AdmTile) v.tiles l }
      { req := { kind := 16, slice := l, obj := b2n deep, check := false, deep := deep, src := src, handle := h }, at_ := u.hyperAfter } [l]).bind
        fun x => (x.view.bounds u []).map fun _ => x
    (∀ m, (s.tile tl).modeNext = some m → exec (.tileMode src l deep) s = .next (u.complete h stBUSY)) ∧
    (∀ r, (s.tile tl).modeNext = none → got = .error r → exec (.tileMode src l deep) s = .next (State.complete
      (if r.reason < 0x10 ∨ 0x1F < r.reason then (u.admRefused r false).count Reg.tor_TOR_ADM_REFUSE else u.admRefused r false)
      h stREFUSED (r.reason + r.item * 2 ^ 16))) ∧
    (∀ x, (s.tile tl).modeNext = none → got = .ok x → ∃ t, exec (.tileMode src l deep) s = .next t ∧
      t.raw Reg.tspec_MODE_PEND tl = 1 ∧ t.raw Reg.tspec_MODE_NEXT tl = b2n deep ∧
      s.regsBut t [Reg.tspec_MODE_PEND.key tl, Reg.tspec_MODE_NEXT.key tl] ∧ t = { u with
        regs := t.regs, tor := { u.tor with
          plans := u.tor.plans ++ [x.plan],
          tiles := Tbl.put ({} : Tile) s.tor.tiles tl { s.tile tl with modeNext := some (deep, s.hyperAfter, h) } } })) ∧
  (∀ (s : State) (tl h tm : Nat) (deep : Bool), tl < 64 → (s.tile tl).modeNext = some (deep, tm, h) → ∃ u : State,
    exec (.tileModeApply tl) s = .next (((u.publish).settle tl).checkMode tl) ∧ u.raw Reg.tile_MODE tl = b2n deep ∧
    u.raw Reg.tspec_MODE_PEND tl = 0 ∧ (u.tile tl).modeNext = none ∧
    (let l := s.raw Reg.tile_LTILE tl
    let mine := fun (p : AdmPlan) => p.req.kind = 16 && p.req.handle = h
    let tk := (s.tileOf l).getD 0
    let rbs := match s.tor.plans.find? mine with
      | some p => p.rbs.map fun r => Reg.ltile_RB_SLOTS.key r.1
      | none => []
    s.regsBut u ([Reg.tspec_MODE_PEND.key tl, Reg.tspec_MODE_NEXT.key tl, Reg.tile_MODE.key tl, Reg.ltile_RESV_SLOTS.key l,
      Reg.ltile_UTIL.key l, Reg.ltile_RB_SLOTS.key l, Reg.tile_INST_COUNT.key tk, Reg.tile_DATA_KIB.key tk,
      Reg.tile_PROG_KIB.key tk, Reg.tspec_JNL_RESV.key tk] ++ rbs ++ eventKeys (quadSource tl)) ∧
    Tbl.sameBut ({} : Tile) s.tor.tiles u.tor.tiles tl ∧ Tbl.sameBut ({} : Domain) s.wh.domains u.wh.domains ((0x040600 + l) * 256) ∧
    Quiet { s with
      mono := max s.mono (s.monoOf tm), wh := { s.wh with domains := u.wh.domains }, tor := { s.tor with
        plans := s.tor.plans.filter (fun p => !mine p), rbs := u.tor.rbs, insts := u.tor.insts, tiles := u.tor.tiles } } u)) ∧
  (∀ (s : State) (q v : Nat), q < 16 →
    let w := min (min 12 (v % 16)) (s.raw Reg.pwr_QCLK_CEIL)
    (s.quadUsed q = false → exec (.qclkWrite q v) s = .next (s.buffer Reg.quad_QCLK q w (Reg.quad_QCLK.addr q))) ∧
    (s.quadUsed q = true → w ≠ s.lastWritten Reg.quad_QCLK q → exec (.qclkWrite q v) s = .next (s.count Reg.tor_TOR_CLK_HELD)) ∧
    (s.quadUsed q = true → w = s.lastWritten Reg.quad_QCLK q → exec (.qclkWrite q v) s = .next s)) ∧
  (∀ (s : State) (q : Nat), q < 16 → let due := fun (b : Buffered) => decide (b.key = Reg.quad_QCLK.key q)
    let u := s.advance (s.monoOf (cdiv s.tai unitsHyper * unitsHyper))
    s.hif.shadow.any due = true → s.held Reg.quad_QCLK.blk = false → s.quadUsed q = false →
      ∃ c, c ≤ s.raw Reg.pwr_QCLK_CEIL ∧ exec (.quadClockApply q) s = .next ((u.applyBoundary due).setClock q c)) ∧
  (∀ (s : State) (src dst : Nat),
    (s.islandRuns dst = true → exec (.xingWaitExpiry src dst) s = .next s) ∧
    (s.islandRuns dst = false → s.islandRuns src = true → let u := s.count Reg.pwr_PWR_XING_ABORT dst
      exec (.xingWaitExpiry src dst) s = .next (if 16 ≤ dst ∧ dst < 20 ∧ src = 20 then u.dropCrossing (dst - 16)
        else if dst = 20 ∧ 16 ≤ src ∧ src < 20 then u.dropArrival (src - 16) else u)))

/-- ADMIT of every kind takes a handle and joins the queue behind the others, is BUSY beyond 16 waiting, and REFUSED
in a degraded module (spec/12_admission.md, spec/18_startup_reset.md). -/
def Obligations.AdmitRequestsQueueInOrder : Prop :=
  ∀ (s : State) (src : Requester) (sl obj : Nat) (check deep : Bool) (c : Instr) (r : AdmReq),
    let h := (s.newHandle src).1
    let u := (s.newHandle src).2
    ((c = .admitStreams src check ∧ r = { kind := 1, slice := 0, obj := 0, check := check, deep := false, src := src, handle := h }) ∨
     (c = .admitInstanceSet src sl obj check deep ∧ r = { kind := 2, slice := sl, obj := obj, check := check, deep := deep, src := src, handle := h }) ∨
     (c = .admitPublications src check ∧ r = { kind := 3, slice := 0, obj := 0, check := check, deep := false, src := src, handle := h }) ∨
     (c = .admitScanProgram src sl obj check ∧ r = { kind := 4, slice := sl, obj := obj, check := check, deep := false, src := src, handle := h }) ∨
     (c = .admitWithdrawSet src sl obj check ∧ r = { kind := 5, slice := sl, obj := obj, check := check, deep := false, src := src, handle := h }) ∨
     (c = .admitWithdrawScan src sl check ∧ r = { kind := 6, slice := sl, obj := 0, check := check, deep := false, src := src, handle := h }) ∨
     (c = .admitQuadClock src sl obj check ∧ r = { kind := 7, slice := sl, obj := obj, check := check, deep := false, src := src, handle := h }) ∨
     (c = .admitFilterChains src check ∧ r = { kind := 8, slice := 0, obj := 0, check := check, deep := false, src := src, handle := h })) →
    (s.degraded = true → exec c s = .next ((u.count Reg.adm_ADM_REFUSE).complete h stREFUSED 0xF3)) ∧
    (s.degraded = false → 17 ≤ s.tor.queue.length → exec c s = .next (u.complete h stBUSY)) ∧
    (s.degraded = false → s.tor.queue.length ≤ 16 → ∃ t, exec c s = .next t ∧
      t.raw Reg.adm_QUEUED = s.tor.queue.length ∧ t.raw Reg.adm_COMPUTING = 1 ∧
      s.regsBut t [Reg.adm_QUEUED.key 0, Reg.adm_COMPUTING.key 0] ∧
      t = { u with regs := t.regs, tor := { u.tor with queue := s.tor.queue ++ [r] } })

/-- The first request is computed to a refusal with its reason or a plan; the plan takes effect, or reports its check,
at its instant (spec/12_admission.md). -/
def Obligations.AdmissionComputesThenApplies : Prop :=
  (∀ (s : State) (tm : Nat) (r : AdmReq) (rest : List AdmReq), s.pwr.down = none → s.tor.queue = r :: rest →
    s.wh.handles.any (fun o => o.handle = r.handle) = true → 
    let a := s.advance tm
    let u := State.syncQueue { a with tor := { a.tor with queue := rest } }
    (∀ x, u.compute r u.admInstant = .error x → let v := if r.check then u else u.admRefused x (r.kind = 3)
      let res := x.reason + x.item * 2 ^ 16
      exec (.admissionComputed tm) s = .next (if r.kind = 17 then (v.noteRefused r res).restoreRefused r res
        else ((v.noteRefused r res).complete r.handle stREFUSED res).checkBoot)) ∧
    (∀ x, u.compute r u.admInstant = .ok x → let v : State := { u with tor := { u.tor with plans := u.tor.plans ++ [x.plan] } }
      (r.check = true → exec (.admissionComputed tm) s =
        .next (v.fillDomain 0x040701 (boundTable (u.raw Reg.adm_ADM_SEQ) (x.view.records v)))) ∧
      (r.check = false → exec (.admissionComputed tm) s =
        .next (x.doms.foldl (fun (w : State) d => w.releaseDomain d)
          (x.clamps.foldl (fun (w : State) c => w.clampReport r.handle c.1 c.2.1 c.2.2.1 c.2.2.2) v))))) ∧
  (∀ (s : State) (p : AdmPlan), s.pwr.down = none →
    s.tor.plans.find? (fun p => decide (p.req.kind ≤ 8) || decide (p.req.kind = 17)) = some p →
    let a := s.advance (s.monoOf p.at_)
    let u : State := { a with tor := { a.tor with plans := s.tor.plans.erase p } }
    (p.req.check = true → exec .admissionApply s = .next (u.complete p.req.handle stOK p.items)) ∧
    (∀ i, p.req.check = false → u.planLost p = some i → p.req.kind ≠ 17 → let r := adTileLost + i * 2 ^ 16
      exec .admissionApply s =
        .next ((((u.admRefused { reason := adTileLost, item := i } false).noteRefused p.req r).complete p.req.handle stREFUSED r).checkBoot)) ∧
    (p.req.check = false → u.planLost p = none → exec .admissionApply s =
      .next (if p.req.kind = 17 then (u.applyPlan p).restoreDone p.req.slice else (u.applyPlan p).checkBoot))) ∧
  (∀ (s : State),
    s.admInstant % 22500000 = 0 ∧ s.tai + 2 * unitsMs ≤ s.admInstant ∧ s.admInstant < s.tai + 2 * unitsMs + 22500000 ∧
    s.hyperAfter % unitsHyper = 0 ∧ s.tai + 2 * unitsMs ≤ s.hyperAfter ∧ s.hyperAfter < s.tai + 2 * unitsMs + unitsHyper)

/-- A slice command is refused with its reason, or accepted with a handle and carried out (spec/13_slices.md). -/
def Obligations.SliceCommandsAreAcceptedOrRefused : Prop :=
  (∀ (s : State) (l sl r : Nat) (full : Bool) (x : Nat × Instr),
    (x = (1, .bind (.block l) sl) ∨ x = (2, .unbind (.block l) sl) ∨ x = (3, .reset (.block l) sl full) ∨ x = (4, .freeze (.block l) sl) ∨
     x = (5, .thaw (.block l) sl) ∨ x = (6, .save (.block l) sl) ∨ x = (7, .restore (.block l) sl) ∨ x = (8, .rebind (.block l) sl)) →
    let u := s.cmdFields (.block l) x.1 sl (if x.1 = 3 then full else false)
    (r = (if 127 < sl then slBadSlice else u.sliceReason x.1 sl)) → r ≠ 0 →
    exec x.2 s = .next (((u.count Reg.slcg_SLC_CMD_REFUSE).wr Reg.cmdb_ACCEPTED l 0).wr Reg.cmdb_REASON l r)) ∧
  (∀ (s : State) (src : Requester) (sl : Nat) (full : Bool), sl < 128 →
    let on := fun (op : Nat) => s.cmdFields src op sl (if op = 3 then full else false)
    let h := fun (op : Nat) => ((on op).sliceAccept src).1
    let u := fun (op : Nat) => ((on op).sliceAccept src).2
    let ok := fun (op : Nat) => (on op).sliceReason op sl = 0;
    (ok 1 → ∃ v : State, exec (.bind src sl) s = .next (v.sliceDone src (h 1) stOK (v.raw Reg.slc_GEN sl)) ∧
      v.raw Reg.slc_STATE sl = 1 ∧
      v.raw Reg.slc_GEN sl = (if s.raw Reg.slc_GEN sl = 0xFFFF then 1 else s.raw Reg.slc_GEN sl + 1) % 2 ^ 16 ∧
      (u 1).regsBut v [Reg.slc_STATE.key sl, Reg.slc_GEN.key sl] ∧ v = { u 1 with
        regs := v.regs, slices := Tbl.put ({} : Slice) (u 1).slices sl { (u 1).sli sl with
          pasid := s.raw Reg.slc_PASID sl, link := s.raw Reg.slc_LINK sl } }) ∧
    (ok 2 → exec (.unbind src sl) s = .next ((u 2).startReset src 2 sl (h 2) false)) ∧
    (ok 3 → exec (.reset src sl full) s = .next ((u 3).startReset src 3 sl (h 3) full)) ∧
    (ok 4 → ∃ v : State, exec (.freeze src sl) s = .next v ∧ v.raw Reg.slc_STATE sl = 3 ∧
      (u 4).regsBut v [Reg.slc_STATE.key sl] ∧ v = { u 4 with
        regs := v.regs, slices := Tbl.put ({} : Slice) (u 4).slices sl { (u 4).sli sl with
          cmd := some { op := 4, src := src, handle := h 4 } } }) ∧
    (ok 5 → let es := (s.sli sl).hold
      let w := State.releaseBobbins ((u 5).setSli sl { (u 5).sli sl with hold := [] }) sl
      exec (.thaw src sl) s = .next ((es.foldl (fun (a : State) e => a.writeHeld sl e) w).sliceDone src (h 5) stOK es.length)) ∧
    (ok 8 → ∃ v : State, exec (.rebind src sl) s = .next (v.sliceDone src (h 8) stOK (v.raw Reg.slc_GEN sl)) ∧
      v.raw Reg.slc_GEN sl = (if s.raw Reg.slc_GEN sl = 0xFFFF then 1 else s.raw Reg.slc_GEN sl + 1) % 2 ^ 16 ∧
      (u 8).regsBut v [Reg.slc_GEN.key sl] ∧ v = { u 8 with
        regs := v.regs, slices := Tbl.put ({} : Slice) (u 8).slices sl { (u 8).sli sl with
          pasid := s.raw Reg.slc_PASID sl, link := s.raw Reg.slc_LINK sl } }) ∧
    (ok 6 → (u 6).migrationSlot sl = none → exec (.save src sl) s = .next ((u 6).sliceDone src (h 6) stBUSY slBlobKey)) ∧
    (∀ n key (w : State), ok 6 → (u 6).migrationSlot sl = some n → (u 6).useKey n useWrap 4 = (some key, w) → ∃ (v : State) (b : Bytes),
      exec (.save src sl) s = .next (State.sliceDone (v.fillDomain (sliceDom sl 0x7E) b) src (h 6) stOK
        (64 + (v.blobSections sl).flatten.length + 16)) ∧ b.take 4 = slb1 ∧
        v = { w with wh := { w.wh with draws := w.wh.draws + 1 } } ∧ le 8 4 b = (64 + (v.blobSections sl).flatten.length + 16) % 2 ^ 32) ∧
    (∀ r (w : State), ok 7 → (u 7).openBlob ((u 7).image (sliceDom sl 0x7F)) = (.error r, w) →
      exec (.restore src sl) s = .next (w.sliceDone src (h 7) stBUSY r)) ∧
    (∀ p (w : State), ok 7 → (u 7).openBlob ((u 7).image (sliceDom sl 0x7F)) = (.ok p, w) → w.tor.queue.length ≤ 16 →
      let r : AdmReq := { kind := 17, slice := sl, obj := 0, check := false, deep := false, src := src, handle := h 7 }
      ∃ t c, exec (.restore src sl) s = .next t ∧ c.op = 7 ∧ c.src = src ∧ c.handle = h 7 ∧ c.blob = p ∧
        w.regsBut t [Reg.adm_QUEUED.key 0, Reg.adm_COMPUTING.key 0] ∧ t = { w with
          regs := t.regs, tor := { w.tor with queue := w.tor.queue ++ [r] }, wh := { w.wh with domains := t.wh.domains },
          slices := Tbl.put ({} : Slice) w.slices sl { w.sli sl with cmd := some c } }))

/-- A drained reset leaves the slice UNBOUND or BOUND anew; a freeze with no descriptor left holds the bobbins
(spec/13_slices.md). -/
def Obligations.SliceDrainsComplete : Prop :=
  (∀ (s : State) (sl : Nat), sl < 128 →
    ((s.sli sl).cmd = none → exec (.sliceResetDrained sl) s = .next s ∧ exec (.freezeDrained sl) s = .next s) ∧
    (∀ c, (s.sli sl).cmd = some c → c.op = 2 → exec (.sliceResetDrained sl) s = .next (State.sliceDone
      ((State.unbindSlice (s.setSli sl { s.sli sl with cmd := none }) sl).unbindRoot sl) c.src c.handle stOK 0)) ∧
    (∀ c, (s.sli sl).cmd = some c → c.op = 3 → s.withdrawn c.handle = true → ∃ u : State,
      exec (.sliceResetDrained sl) s = .next (u.sliceDone c.src c.handle stOK (s.raw Reg.slc_GEN sl)) ∧
      u.raw Reg.slc_STATE sl = 1 ∧ s.regsBut u [Reg.slc_STATE.key sl] ∧ u = { s with
        regs := u.regs, slices := Tbl.put ({} : Slice) s.slices sl { s.sli sl with cmd := none } }) ∧
    (∀ c, (s.sli sl).cmd = some c → c.op = 3 → s.withdrawn c.handle = false → exec (.sliceResetDrained sl) s = .next s) ∧
    (∀ c, (s.sli sl).cmd = some c → c.op = 4 → (s.sli sl).descs ≠ [] → exec (.freezeDrained sl) s = .next s) ∧
    (∀ c, (s.sli sl).cmd = some c → c.op = 4 → (s.sli sl).descs = [] → ∃ u : State,
      exec (.freezeDrained sl) s = .next (u.sliceDone c.src c.handle stOK (s.sli sl).hold.length) ∧ u.raw Reg.slc_STATE sl = 4 ∧
      (∀ b, b < 32 → u.raw Reg.bob_BSTATE (bobIx sl b) = 3) ∧
      s.regsBut u (Reg.slc_STATE.key sl :: (List.range 32).map fun b => Reg.bob_BSTATE.key (bobIx sl b)) ∧
      u.sli sl = { s.sli sl with
        cmd := none, errs := (List.range 32).filter fun b => s.raw Reg.bob_BSTATE (bobIx sl b) = 2 } ∧
      Tbl.sameBut ({} : Slice) s.slices u.slices sl ∧ u = { s with regs := u.regs, slices := u.slices }))

/-- Doorbells move an index forward within its queue or are counted as errors; a descriptor is fetched in order;
enabling needs a queue of 64 to 65,536 entries (spec/13_slices.md). -/
def Obligations.BobbinsMoveTheirIndices : Prop :=
  (∀ (s : State) (sl b v : Nat), sl < 128 → b < 32 →
    let i := bobIx sl b
    let n := 2 ^ s.raw Reg.bob_SQ_LOG2 i
    let m := 2 ^ s.raw Reg.bob_CQ_LOG2 i
    let x := s.sli sl
    let err := (Host.Outcome.next (s.count Reg.slst_SLC_BOB_ERR sl) : Host.Outcome State Fault Refusal)
    (s.bound sl = false → exec (.sqTail sl b v) s = .next (s.count Reg.hif_HIF_UNMAPPED) ∧
      exec (.cqHead sl b v) s = .next (s.count Reg.hif_HIF_UNMAPPED)) ∧
    (s.bound sl = true → s.raw Reg.bob_KIND i = 3 → exec (.sqTail sl b v) s = err) ∧
    (s.bound sl = true → s.raw Reg.bob_KIND i ≠ 3 → s.bobbinUp sl b = true →
      let bad := n < ixDiff v (Tbl.look 0 x.sqTail b) ∨ n < ixDiff v (s.raw Reg.bob_SQ_HEAD i)
      (bad → exec (.sqTail sl b v) s = err) ∧
      (¬ bad → exec (.sqTail sl b v) s = .next (s.setSli sl { x with sqTail := Tbl.put 0 x.sqTail b (v % 2 ^ 17) }))) ∧
    (s.bound sl = true → s.bobbinUp sl b = true →
      let bad := m < ixDiff v (Tbl.look 0 x.cqHead b) ∨ m < ixDiff (s.raw Reg.bob_CQ_TAIL i) v
      (bad → exec (.cqHead sl b v) s = err) ∧
      (¬ bad → exec (.cqHead sl b v) s = .next (s.setSli sl { x with cqHead := Tbl.put 0 x.cqHead b (v % 2 ^ 17) }))) ∧
    (s.bound sl = true → s.flag Reg.bob_EN i = true → exec (.bobbinEnWrite sl b false) s = .next (s.clearBobbin sl b)) ∧
    (s.bound sl = true → s.flag Reg.bob_EN i = false →
      let sq := s.raw Reg.bob_SQ_LOG2 i
      let cq := s.raw Reg.bob_CQ_LOG2 i
      (b < s.rd Reg.slc_BOB_COUNT sl → 6 ≤ sq → sq ≤ 16 → 6 ≤ cq → cq ≤ 16 → exec (.bobbinEnWrite sl b true) s =
        .next ((s.wr Reg.bob_EN i 1).wr Reg.bob_BSTATE i (if s.raw Reg.slc_STATE sl = 4 then 3 else 1))) ∧
      (s.rd Reg.slc_BOB_COUNT sl ≤ b ∨ sq < 6 ∨ 16 < sq ∨ cq < 6 ∨ 16 < cq → exec (.bobbinEnWrite sl b true) s = err))) ∧
  (∀ (s : State) (sl b : Nat) (bytes : Bytes), sl < 128 → b < 32 → bytes.length = 32 →
    let i := bobIx sl b
    let x := s.sli sl
    let kind := s.raw Reg.bob_KIND i
    let head := s.raw Reg.bob_SQ_HEAD i
    s.raw Reg.slc_STATE sl = 1 → s.flag Reg.bob_EN i = true → s.raw Reg.bob_BSTATE i = 1 → kind = 1 ∨ kind = 2 ∨ kind = 4 →
    head ≠ Tbl.look 0 x.sqTail b → s.cqUsed sl b + (x.descs.filter fun d => d.bobbin = b).length < 2 ^ s.raw Reg.bob_CQ_LOG2 i →
    let at_ := s.raw Reg.bob_SQ_BASE_LO i + s.raw Reg.bob_SQ_BASE_HI i * 2 ^ 32 + 32 * (head % 2 ^ s.raw Reg.bob_SQ_LOG2 i)
    let d : Desc := { bobbin := b, index := head, bytes := bytes, phase := if kind = 1 then 1 else 2, at_ := s.mono }
    ∃ u : State, u.raw Reg.bob_SQ_HEAD i = (head + 1) % 2 ^ 17 ∧ s.regsBut u [Reg.bob_SQ_HEAD.key i, Reg.slst_DESC_OUT.key sl] ∧
      u = { s with
        regs := u.regs, out := .hostRead (s.sliceLink sl) x.pasid at_ 32 :: s.out,
        slices := Tbl.put ({} : Slice) s.slices sl { x with descs := x.descs ++ [d] } } ∧
      exec (.descriptorFetch sl b bytes) s = .next (
        if s.rd Reg.slc_DESC_SHARE sl ≤ x.descs.length then u.finishDesc sl b head 1 0 0
        else match u.badField kind bytes with
          | some o => u.finishDesc sl b head 2 o 0
          | none => if kind = 1 then u.readHost sl (descAddr bytes) (descLen bytes) else u))

/-- Data, errors, timeouts and sent frames end their descriptors; frames for the host fill a posted buffer; shares and
grants wait for the window (spec/13_slices.md). -/
def Obligations.DescriptorsCompleteSharesWait : Prop :=
  (∀ (s : State) (sl b i gen : Nat) (data : Bytes),
    (gen ≠ s.raw Reg.slc_GEN sl → exec (.dmaReadCompletion sl b i gen data) s = .next (s.count Reg.slcg_SLC_STALE_DROP)) ∧
    (∀ d, gen = s.raw Reg.slc_GEN sl → s.raw Reg.slc_STATE sl ≠ 0 → s.raw Reg.slc_STATE sl ≠ 2 → s.descOf sl b i = some d → d.phase = 1 →
      let frame := padTo 60 (padTo (descLen d.bytes) (data.take (descLen d.bytes)))
      (filteredType (headersOf frame).etype = true → exec (.dmaReadCompletion sl b i gen data) s = .next (s.finishDesc sl b i 5 0 0)) ∧
      (filteredType (headersOf frame).etype = false → descTso d.bytes = false →
        let a : Arrival := {
          port := 35, t := s.mono, bytes := frame, desc := some (descClass d.bytes, none, sl), send := some (sl, b, i) }
        let sent := fun (e : Desc) => if e.bobbin = b && e.index = i then { e with phase := 2 } else e
        exec (.dmaReadCompletion sl b i gen data) s = .next { s with
          net := { s.net with arrivals := s.net.arrivals ++ [a] },
          slices := Tbl.put ({} : Slice) s.slices sl { s.sli sl with descs := (s.sli sl).descs.map sent } })) ∧
    (∀ info, exec (.dmaError sl b i gen info) s = .next (s.dmaError sl b i gen info)) ∧
    (∀ d info, gen = s.raw Reg.slc_GEN sl → s.raw Reg.slc_STATE sl ≠ 0 → s.raw Reg.slc_STATE sl ≠ 2 → s.descOf sl b i = some d → d.phase ≠ 3 →
      let ended := fun (u : State) (info : Nat) =>
        State.raise ((u.finishDesc sl b i 3 info 0).wr Reg.bob_BSTATE (bobIx sl b) 2) 121 0x0102 (sl * 2 ^ 24 + 3 * 2 ^ 8 + b)
      exec (.dmaError sl b i gen info) s = .next (ended s info) ∧
      exec (.dmaTimeout sl b i gen) s = .next (ended (s.advance (d.at_ + 10 * unitsMs)) 3)) ∧
    (s.net.sendFull.contains (sl, b, i) = true → exec (.sendComplete sl b i) s = .next (State.finishDesc
      { s with net := { s.net with sendFull := s.net.sendFull.erase (sl, b, i) } } sl b i 1 1 0)) ∧
    (∀ d, s.net.sendFull.contains (sl, b, i) = false → s.net.sendDone.contains (sl, b, i) = true → s.descOf sl b i = some d →
      exec (.sendComplete sl b i) s = .next (State.finishDesc
      { s with net := { s.net with sendDone := s.net.sendDone.erase (sl, b, i) } } sl b i 0 0 (descLen d.bytes)
        (if descTso d.bytes then 2 else 0)))) ∧
  (∀ (s : State) (f : SwFrame), s.net.toHost.find? (fun f => (headersOf f.bytes).etype ≠ 0x88B5 && !s.frozenFor f) = some f →
    let u : State := { s with net := { s.net with toHost := s.net.toHost.erase f } }
    let sl := if f.owner < 128 then f.owner else s.rd Reg.slcg_HOST_DEFAULT
    exec .hostFrameDeliver s = .next (if 128 ≤ sl then u.count Reg.slcg_SLC_RX_NOBOB else u.deliver sl f.bytes)) ∧
  (∀ (s : State) (k sl v who g f : Nat),
    (k < 6 → ∃ fld : Fld, fld = [Reg.slc_TOR_SHARE, Reg.slc_SCAN_SHARE, Reg.slc_BUF_SHARE, Reg.slc_BOB_COUNT, Reg.slc_DESC_SHARE,
      Reg.slc_CAP_SHARE].getD k Reg.slc_TOR_SHARE ∧ exec (.shareWrite k sl v who) s = .next (s.buffer fld sl v (fld.addr sl) none who)) ∧
    (let left := (s.sli sl).grantPend.filter fun p => !(p.1 = g && p.2.1 = f)
    exec (.grantWrite sl g f v who) s = .next (s.setSli sl { s.sli sl with grantPend := left ++ [(g, f, v, who)] })))

/-- A scan program latches once, is late after OVR_LIMIT, is given up after OVR_ABANDON of it, and is exchanged, held,
run and forced as commanded (spec/14_scan_engine.md). -/
def Obligations.ScanCyclesLatchOverrunAndEnd : Prop :=
  (∀ (s : State) (sl : Nat) (c : Cycle), sl < 128 → s.raw Reg.prog_STATE sl = 1 → (s.scanOf sl).exch = none →
    let x := s.scanOf sl
    (x.cycle = none → x.leaving = false → x.prog.period = 0 ∨ x.due = 0 → ∃ t due, exec (.scanLatch sl) s = .next t ∧
      t = { s with
        mono := max s.mono (s.winAfter x.ready)
        regs := t.regs
        scan := Tbl.put {} s.scan sl { x with
          cycle := some { ctx := { pc := x.prog.entry }, latch := t.mono, tai := t.tai, image := s.inputImage x.prog, work := x.data }
          number := (x.number + 1) % 2 ^ 64, first := some (x.first.getD t.mono), due := due, skipped := false } } ∧
      t.raw Reg.prog_CYCLE_LO sl = x.number % 2 ^ 32 ∧ s.regsBut t [Reg.prog_CYCLE_LO.key sl]) ∧
    (x.cycle = some c → x.prog.period ≠ 0 → exec (.scanLatch sl) s = .next (State.skipCycles (s.advance (s.dueAt x x.due)) sl 1)) ∧
    (x.cycle = some c → c.late = false →
      let u := s.advance (c.latch + x.prog.ovr * unitsUs)
      exec (.scanOverrun sl) s = .next (State.raise (State.count (u.setScan sl { x with cycle := some { c with late := true } })
        Reg.scn_SCN_OVERRUN) 81 0x0101 (sl * 2 ^ 24 + min (2 ^ 24 - 1) ((u.mono - c.latch) / unitsUs)))) ∧
    (x.cycle = some c → c.late = true → exec (.scanOverrun sl) s = .next s) ∧
    (x.cycle = some c → let u := s.advance (c.latch + s.rd Reg.scn_OVR_ABANDON * x.prog.ovr * unitsUs)
      exec (.scanAbandon sl) s = .next (State.raise (State.count
        (State.scanFault (u.setScan sl { x with due := 0 }) sl 0xFF) Reg.scn_SCN_ABANDON) 81 0x0102 (sl * 2 ^ 24)))) ∧
  (∀ (s : State) (src : Requester) (sl d m : Nat), sl < 128 →
    let h := (s.newHandle src).1
    let u := (s.newHandle src).2
    let x := s.scanOf sl
    let st := s.raw Reg.prog_STATE sl
    let refused := fun (r : AdmRefusal) => (Host.Outcome.next ((u.admRefused r false).complete h stREFUSED (r.reason + r.item * 2 ^ 16)) :
      Host.Outcome State Fault Refusal);
    (st = 0 ∨ x.leaving = true → exec (.scanExchange src sl d m) s = refused { reason := adBinding }) ∧
    (st ≠ 0 → x.leaving = false → x.exch ≠ none → exec (.scanExchange src sl d m) s = .next (u.complete h stBUSY)) ∧
    (∀ r, st ≠ 0 → x.leaving = false → x.exch = none → u.admScan u.admView sl d true = .error r → exec (.scanExchange src sl d m) s = refused r) ∧
    (∀ p cs es, st ≠ 0 → x.leaving = false → x.exch = none → u.admScan u.admView sl d true = .ok (p, cs) → u.scanMap sl m x.prog p = .ok es →
      let v := u.releaseDomain (sliceDom sl d)
      let w := if m = 0xFF then v else v.releaseDomain (sliceDom sl m)
      ∃ t, exec (.scanExchange src sl d m) s = .next t ∧ t.raw Reg.prog_EXCH_PEND sl = 1 ∧ s.regsBut t [Reg.prog_EXCH_PEND.key sl] ∧
        t = { w with
          regs := t.regs
          scan := Tbl.put {} s.scan sl { x with exch := some { at_ := s.admInstant, prog := p, map := es, handle := h } }
          wh := { w.wh with clamps := t.wh.clamps, clampNext := t.wh.clampNext, clamped := t.wh.clamped } }) ∧
    (∀ e, st ≠ 3 → x.exch = some e → x.cycle = none → e.done = true →
      let a := s.advance (s.winAfter x.ready)
      let v := a.scanForces sl
      let blocks := exchangeBlocks x.prog e.prog x.struck
      let forces := (((v.scanOf sl).exch.bind (·.released))).getD []
      let w := ((v.scanSwap sl e).renameAdmit 4 sl x.prog.dom e.prog.dom).latch sl
      exec (.scanExchangeApply sl) s = .next (State.complete (State.raise (w.fillDomain (sliceDom sl 0x5C) (scanReport e.handle blocks forces))
        82 0x0103 (sl * 2 ^ 24)) e.handle stOK (blocks.length + forces.length))) ∧
    (st = 1 → x.cycle = none → x.exch = none → exec (.scanHold src sl) s = .next ((u.scanState sl 2).complete h stOK)) ∧
    (st = 1 → x.cycle ≠ none ∨ x.exch ≠ none → exec (.scanHold src sl) s =
      .next (State.complete (u.setScan sl { x with holdPend := true }) h stOK)) ∧
    (st ≠ 1 → exec (.scanHold src sl) s = .next (u.complete h stOK)) ∧
    (st = 2 → exec (.scanRun src sl) s =
      .next (State.complete (State.scanState (u.setScan sl { x with ready := s.mono, due := 0 }) sl 1) h stOK)) ∧
    (st ≠ 2 → exec (.scanRun src sl) s = .next (u.complete h stOK))) ∧
  (∀ (s : State) (n v who : Nat) (on : Bool),
    let forced := (s.wh.signals.filter fun e => e.2.forceEn).length
    let w := v % 2 ^ (8 * vtSize (s.signal n).vtype)
    let y := forceClamp (s.signal n).vtype w
    let put := fun (x : Signal) => ({ s with cap := (s.notePast n).cap, wh := { s.wh with signals := Tbl.put {} s.wh.signals n x } } : State);
    (on = false ∨ (s.signal n).forceEn = true ∨ forced < 4096 → ∃ t, exec (.forceWrite n (some on) v who) s = .next t ∧
      t = { put { s.signal n with forceEn := on } with regs := t.regs } ∧ s.regsBut t [Reg.scn_FORCES.key 0] ∧
      t.signal n = { s.signal n with forceEn := on } ∧ (∀ k, k ≠ n → t.signal k = s.signal k)) ∧
    (on = true → (s.signal n).forceEn = false → 4096 ≤ forced →
      exec (.forceWrite n (some on) v who) s = .next (s.clampReport who ((0x100000 + n) * 256 + 3) 1 0 7)) ∧
    (y.2 = 0 → exec (.forceWrite n none v who) s = .next (put { s.signal n with forceVal := y.1 })) ∧
    (y.2 ≠ 0 → exec (.forceWrite n none v who) s =
      .next ((put { s.signal n with forceVal := y.1 }).clampReport who ((0x100000 + n) * 256 + 4) w y.1 y.2)))

/-- CAP_APPLY is refused as a whole or waits for its window; triggers fire once per hold-off; ticks, steps, flushes
and holds follow their sets (spec/15_capture.md). -/
def Obligations.CaptureAppliesTriggersAndRecords : Prop :=
  (∀ (s : State) (src : Requester),
    let h := (s.newHandle src).1
    let n := (s.newHandle src).2
    let sets := n.stagedSets.1
    let u := (n.releaseDomain 0x040800).releaseDomain 0x040801
    let live := sets.filter fun x => !x.1.isEmpty
    (∀ r, live.findSome? (fun x => u.setRefusal x.1 x.2) = some r → exec (.capApply src) s =
      .next (State.complete ((u.count Reg.cap_CAP_REFUSE).count Reg.adm_ADM_REFUSE) h stREFUSED r)) ∧
    (live.findSome? (fun x => u.setRefusal x.1 x.2) = none → 6144 * 2 ^ 20 < (live.map fun x => setStage x.1).sum →
      exec (.capApply src) s = .next (State.complete ((u.count Reg.cap_CAP_REFUSE).count Reg.adm_ADM_REFUSE) h stREFUSED adBuffer)) ∧
    (live.findSome? (fun x => u.setRefusal x.1 x.2) = none → (live.map fun x => setStage x.1).sum ≤ 6144 * 2 ^ 20 →
      u.admView.dram + (live.map fun x => u.setTraffic x.1).sum ≤ 38400000000 * 95 / 100 → ∃ t, exec (.capApply src) s = .next t ∧
        t = { u with
          cap := { s.cap with
            plans := s.cap.plans ++ [{ at_ := cdiv (s.tai + 2 * unitsMs) unitsWin * unitsWin, handle := h, clamped := !n.stagedSets.2.isEmpty, sets := sets }] }
          wh := { u.wh with clamps := t.wh.clamps, clampNext := t.wh.clampNext, clamped := t.wh.clamped } })) ∧
  (∀ (s : State) (p : CapPlan) (ps : List CapPlan), s.cap.plans = p :: ps →
    let a := s.advance (s.monoOf p.at_)
    let u : State := { a with cap := { a.cap with plans := ps } }
    exec .capApplyTakeEffect s = .next (State.complete
      (((List.range 64).zip p.sets).foldl (fun (w : State) x => w.applySet x.1 x.2.1 x.2.2) u) p.handle (if p.clamped then stCLAMPED else stOK))) ∧
  (∀ (s : State) (src : Requester) (k : Nat),
    let h := (s.newHandle src).1
    let u := (s.newHandle src).2
    (k < 64 → (s.cset k).on = true → exec (.capTrigger src k) s = .next ((u.mark k 0 0 s.tai 0).complete h stOK)) ∧
    (64 ≤ k ∨ (s.cset k).on = false → exec (.capTrigger src k) s = .next (u.complete h stREFUSED adBinding))) ∧
  (∀ (s : State) (line tm : Nat) (rising : Bool),
    let u := s.advance tm
    let own := s.cap.drive.any fun d => d.1 = line
    let lvl := putBit line (rising || own) (s.raw Reg.cap_XTRIG_LVL)
    let fires := fun (w : State) (kind : Nat) => w.fireAll kind u.tai (b2n !rising) fun _ edge target =>
      (4 ≤ line || target % 4 = line) && (edge = 3 || edge = 1 && rising || edge = 2 && !rising);
    (line < 4 → own = true → exec (.triggerEdge line rising tm) s = .next (u.wr Reg.cap_XTRIG_LVL 0 lvl)) ∧
    (line < 4 → own = false → exec (.triggerEdge line rising tm) s = .next (fires (u.wr Reg.cap_XTRIG_LVL 0 lvl) 1)) ∧
    (line = 4 → exec (.triggerEdge line rising tm) s = .next (fires (u.wrFlag Reg.cap_TRIG_IN_LVL 0 rising) 2)) ∧
    (∀ e, s.cap.drive.find? (fun d => d.1 = line) = some (line, e) → ∃ t, exec (.xtrigPulseEnd line) s = .next t ∧
      t = { s with mono := max s.mono e, out := .pin (pinXtrig line) 0 :: s.out, regs := t.regs, cap := { s.cap with drive := Tbl.drop s.cap.drive line } } ∧
      s.regsBut t [Reg.cap_XTRIG_LVL.key 0] ∧ bit line (t.raw Reg.cap_XTRIG_LVL) = false ∧
      bitsBut 4 (s.raw Reg.cap_XTRIG_LVL) (t.raw Reg.cap_XTRIG_LVL) line)) ∧
  (∀ (s : State) (k a : Nat), k < 64 →
    let x := s.cset k
    let u := s.advance (s.monoOf (a * entPeriod (s.strm (setBase x.entry)).entry + s.capDelay x))
    let row := u.capRow x a
    x.on = true → s.live (setBase x.entry) = true → u.wantDown k = false → x.step = none → a % s.raw Reg.cset_DIV_ACT k = 0 →
    (x.rowFits (row.length + 16) = true → exec (.captureTick k a) s = .next
      (State.armDown ((u.closeGap k).setCset k (((u.closeGap k).cset k).stageRow a (s.raw Reg.cset_DIV_ACT k) row)) k)) ∧
    (x.rowFits (row.length + 16) = false → exec (.captureTick k a) s = .next (u.setCset k { x with gap := some (match x.gap with
      | some (f, _, n) => (f, a, n + 1)
      | none => (a, a, 1)) }))) ∧
  (∀ (s : State) (k : Nat),
    let x := s.cset k
    (∀ b, x.buf = some b → exec (.captureFlushTimeout k) s =
      .next (State.closeBuf (s.advance (b.at_ + s.rd Reg.cap_CAP_FLUSH_MS * unitsMs)) k)) ∧
    (∀ tm, x.lowSince = some tm → 1 < s.raw Reg.cset_DIV_ACT k → exec (.rateRestoreTimeout k) s =
      .next ((s.advance (tm + setRestore x.entry * unitsMs)).setCset k { x with step := some (s.raw Reg.cset_DIV_ACT k / 2) })) ∧
    (∀ tm, x.holdEnd = some tm → exec (.postTriggerHoldEnd k) s =
      .next (((s.advance tm).setCset k { x with holdEnd := none }).armDown k))) ∧
  (∀ (s : State) (f : SwFrame) (rest : List SwFrame), s.net.toCapture = f :: rest →
    let u : State := { s with net := { s.net with toCapture := rest } }
    let peers := ((s.net.epochs.find? fun e => e.num = f.epoch).getD s.epoch).peers
    let hd := headersOf f.bytes
    (gooseOf f.bytes hd = none → exec .captureFrameRx s = .next u) ∧
    (∀ ref n, gooseOf f.bytes hd = some (ref, n) → exec .captureFrameRx s = .next (s.cap.sets.foldl (fun (w : State) e =>
      (List.range 4).foldl (fun (w : State) j => w.gooseTrigger e.1 j peers f hd ref n) w) u)))

/-- Requests fall due, convert one at a time, lowest number first, and leave their result and time words; idle power-
down, wake-up, tests and fans (spec/16_supervision_adc.md, spec/22_physical_electrical.md). -/
def Obligations.ConversionsFollowTheirRequests : Prop :=
  (∀ (s : State) (r tm : Nat),
    (s.adcSrc r = 1 → s.timerTick r (s.taiOf (tm - s.adcDelay r)) = true → s.adcDelay r ≤ tm → s.mono ≤ tm →
      exec (.adcRequestDue r tm) s = .next ((s.advance tm).adcDue r (s.raw Reg.adcrq_CHAN r) true)) ∧
    (∀ c d, s.adcSrc r ≠ 1 → s.adc.armed.find? (fun a => a.1 = r) = some (r, c, d) → exec (.adcRequestDue r tm) s =
      .next (((s.advance d).setAdc { s.adc with armed := s.adc.armed.erase (r, c, d) }).adcDue r c false)) ∧
    (r < 8 → s.adcSrc r = 6 → s.adcDelay r = 0 → exec (.adcStart r) s =
      .next ((s.wr Reg.adcrq_START r 1).adcDue r (s.raw Reg.adcrq_CHAN r) false)) ∧
    (r < 8 → s.adcSrc r = 6 → s.adcDelay r ≠ 0 → ∃ t, exec (.adcStart r) s = .next t ∧
      t = { s with regs := t.regs, adc := { s.adc with armed := s.adc.armed ++ [(r, s.raw Reg.adcrq_CHAN r, s.mono + s.adcDelay r)] } } ∧
      t.raw Reg.adcrq_START r = 1 ∧ s.regsBut t [Reg.adcrq_START.key r]) ∧
    (s.adcSrc r ≠ 6 → exec (.adcStart r) s = .next s)) ∧
  (∀ (s : State) (w : AdcWait), w ∈ s.adc.waiting → s.adc.conv = none → s.flag Reg.adc_AWAKE = true →
    (∀ x, x ∈ s.adc.waiting → w.req < x.req ∨ x = w) → s.adcNext = s.adcBegin w) ∧
  (∀ (s : State) (code : Nat) (c : AdcConv), s.adc.conv = some c → c.req < 8 → c.chan < 16 → code < 2 ^ 16 → ∃ u : State,
    exec (.adcConversionDone code 0) s = .next u.adcNext ∧
    u = { s with mono := max s.mono (c.sampled + unitsUs), regs := u.regs, adc := { s.adc with conv := none } } ∧
    s.regsBut u [Reg.adcrq_REQ_RES.key c.req, Reg.adcrq_REQ_TIME.key c.req, Reg.adcch_CH_RES.key c.chan, Reg.adcch_CH_TIME.key c.chan,
      Reg.adc_ADC_CONV.key 0] ∧
    let w := code + b2n (s.settling c.sampled) * 2 ^ 17 + b2n c.late * 2 ^ 18 + b2n c.wake * 2 ^ 19 + c.chan * 2 ^ 20 + c.req * 2 ^ 24 +
      (s.raw Reg.adcrq_REQ_RES c.req / 2 ^ 28 + 1) % 16 * 2 ^ 28
    u.raw Reg.adcrq_REQ_RES c.req = w ∧ u.raw Reg.adcch_CH_RES c.chan = w ∧
    u.raw Reg.adcrq_REQ_TIME c.req = timeWord (s.taiOf c.sampled) ∧ u.raw Reg.adcch_CH_TIME c.chan = timeWord (s.taiOf c.sampled) ∧
    u.raw Reg.adc_ADC_CONV = (s.raw Reg.adc_ADC_CONV + 1) % 2 ^ 32) ∧
  (∀ (s : State),
    (s.flag Reg.adc_AUTO_PD = true → s.flag Reg.adc_AWAKE = true → s.adc.conv = none → s.adc.waiting = [] → s.adc.test = none →
      exec .adcPowerDown s = .next ((s.advance (s.adc.last + s.rd Reg.adc_PD_IDLE * 10 * unitsUs)).wr Reg.adc_AWAKE 0 0)) ∧
    (∀ tm, s.adc.wakeAt = some tm → exec .adcWakeDone s = .next
      (State.adcNext (((s.advance tm).wr Reg.adc_AWAKE 0 1).setAdc { s.adc with wakeAt := none, last := max s.mono tm }))) ∧
    (∀ a, exec (.adcResultRead a) s = exec (.rcCounterRead a) s)) ∧
  (∀ (s : State) (pos code : Nat), 2 ≤ pos → pos < 26 → s.adc.test = some pos → code < 2 ^ 16 →
    let want : Int := (((pos - 2) % 3 : Nat) * 25600 - 25600);
    -64 ≤ toSigned 16 code - want → toSigned 16 code - want ≤ 64 → ∃ u : State,
      exec (.adcTestStep pos (some code)) s = .next u ∧
      u = { s with mono := max s.mono (s.adc.last + unitsUs), regs := u.regs, adc := { s.adc with test := none } } ∧
      let chan := (pos - 2) / 3
      let w := code + b2n (s.settling s.adc.last) * 2 ^ 17 + chan * 2 ^ 20 + 7 * 2 ^ 24 + 2 ^ 27 + (s.raw Reg.adcrq_REQ_RES 7 / 2 ^ 28 + 1) % 16 * 2 ^ 28
      s.regsBut u [Reg.adcrq_REQ_RES.key 7, Reg.adcrq_REQ_TIME.key 7, Reg.adcch_CH_RES.key chan, Reg.adcch_CH_TIME.key chan, Reg.adc_TESTING.key 0] ∧
      u.raw Reg.adcrq_REQ_RES 7 = w ∧ u.raw Reg.adcch_CH_RES chan = w ∧ u.raw Reg.adcrq_REQ_TIME 7 = timeWord (s.taiOf s.adc.last) ∧
      u.raw Reg.adcch_CH_TIME chan = timeWord (s.taiOf s.adc.last) ∧ u.raw Reg.adc_TESTING = 0) ∧
  (∀ (s : State) (pos : Nat), s.adc.conv = none → s.adc.waiting = [] → s.adc.test = none →
    s.adc.armed.any (fun a => a.2.2 ≤ s.mono + 3 * unitsUs) = false → (∀ r, r < 8 → s.adcSrc r ≠ 1) →
    exec (.adcTestStep pos none) s = .next
      (State.syncTest ((s.wr Reg.adc_AWAKE 0 1).setAdc { s.adc with test := some pos, last := s.mono }))) ∧
  (∀ (s : State) (k tm : Nat), k < 2 → s.flag Reg.pwr_DIE_HOT = false → s.pwr.safe = false →
    let duty := s.rd (if k = 0 then Reg.pwr_FAN0_DUTY else Reg.pwr_FAN1_DUTY)
    let now := max s.mono tm
    let fans := Tbl.ins (duty, now) s.adc.fans k
    let fall := now + unitsSec / s.rd Reg.pwr_FAN_FREQ * duty / 1000
    let due := fun (r : Nat) => if s.adcSrc r = 2 + 2 * k then some (r, s.raw Reg.adcrq_CHAN r, now + s.adcDelay r)
      else if s.adcSrc r = 3 + 2 * k then some (r, s.raw Reg.adcrq_CHAN r, fall + s.adcDelay r) else none;
    (duty = 0 ∨ 1000 ≤ duty → exec (.fanPeriodStart k tm) s =
      .next { s with mono := now, out := .pin (pinFan k) (if duty = 0 then 0 else 1) :: s.out, adc := { s.adc with fans := fans } }) ∧
    (0 < duty → duty < 1000 → exec (.fanPeriodStart k tm) s =
      .next { s with
        mono := now
        out := .pin (pinFan k) 0 :: .pin (pinFan k) 1 :: s.out
        adc := { s.adc with fans := fans, armed := s.adc.armed ++ (List.range 8).filterMap due } }))

/-- An operation of a requester is answered under its key, or refused: not permitted or of another usage, absent,
orphaned or locked (spec/17_binnacle_keys.md). -/
def Obligations.KeyOperationsAnswerOnlyWhatTheyMay : Prop :=
  (∀ (s : State) (req n alg len : Nat) (iv data tag nonce aad msg sig : Bytes),
    let x := fun (op : KeyOp) => ([(.tagGen, .tagGen req n alg len iv data), (.tagChk, .tagChk req n alg len iv data tag), (.sign, .sign req n msg),
      (.verify, .verify req n msg sig), (.sealing, .sealOp req n nonce aad data), (.opening, .openOp req n nonce aad data),
      (.agree, .agree req n iv nonce aad)] : List (KeyOp × Instr)).find? fun p => p.1 = op;
    (∀ op c r, x op = some (op, c) → s.permitted req op n = false → r = (s.bncFail rsUsage n req).answer [] → exec c s = .next r) ∧
    (∀ op c e, x op = some (op, c) → s.permitted req op n = true → s.keyFor n (op.usage req) = .error e →
      exec c s = .next ((s.bncFail e n req).answer [])) ∧
    (∀ op k, s.permitted req op n = true → s.keyFor n (op.usage req) = .ok k →
      (op = .tagGen → exec (.tagGen req n alg len iv data) s = .next (s.answer (opTag req alg len k iv data))) ∧
      (op = .tagChk → exec (.tagChk req n alg len iv data tag) s = .next (s.answer [if opTag req alg len k iv data = tag then 1 else 0])) ∧
      (op = .verify → exec (.verify req n msg sig) s =
        .next (s.answer [if (if n = 0x88 then Config.ecVerify k msg sig else Config.hssVerify k msg sig) then 1 else 0])) ∧
      (op = .sealing → exec (.sealOp req n nonce aad data) s =
        .next (s.answer (Config.gcmSeal (opCipher req true k nonce).1 (opCipher req true k nonce).2 aad data))) ∧
      (op = .opening → exec (.openOp req n nonce aad data) s =
        .next (s.answer (match Config.gcmOpen (opCipher req false k nonce).1 (opCipher req false k nonce).2 aad data with
          | some b => b
          | none => []))) ∧
      (op = .sign → n = 1 → exec (.sign req n msg) s = .next (s.answer (Config.ecSign k msg))) ∧
      (op = .sign → n ≠ 1 → s.leafBar = true → exec (.sign req n msg) s = .next ((s.bncFail rsLmsExhausted n req).answer [])) ∧
      (op = .sign → n ≠ 1 → s.leafBar = false → s.bnc.leaf < s.bnc.lmsNext → s.bnc.commits.any (fun c => c.what = 5) = false →
        exec (.sign req n msg) s = .next (s.answerHss msg)) ∧
      (op = .sign → n ≠ 1 → s.leafBar = false → s.bnc.lmsNext ≤ s.bnc.leaf ∨ s.bnc.commits.any (fun c => c.what = 5) = true →
        exec (.sign req n msg) s = .next (s.awaitLeaves (leBytes 1 1 ++ leBytes 4 0 ++ msg))) ∧
      (op = .agree → exec (.agree req n iv nonce aad) s = .next (match s.agree iv nonce aad with
        | (some (pub, i), u) => u.answer (pub ++ beBytes 2 i)
        | (none, u) => u.answer [])))) ∧
  (∀ (s : State) (n usage : Nat) (k : Bytes), s.keyFor n usage = .ok k →
    (s.slot n).state ≠ 0 ∧ (s.slot n).state ≠ 2 ∧ bit usage (s.slot n).usage = true ∧ k = (s.slot n).key)

/-- Key commands are refused while something bars them, else wait for the journal or complete; the journal commits or
fails; tamper leaves no key (spec/17_binnacle_keys.md, spec/19_firmware_update.md). -/
def Obligations.KeysAreMadeChangedAndLost : Prop :=
  (∀ (s : State) (src : Requester) (n : Nat) (nonce : Bytes),
    let h := (s.newHandle src).1
    let u := (s.newHandle src).2;
    (∀ r, u.keyChangeBar = some r → exec (.bncGenesis src) s = .next (u.bncRefused h r) ∧ exec (.bncInvalidate src n) s = .next (u.bncRefused h r) ∧
      exec (.bncUser src) s = .next (u.bncRefused h r)) ∧
    (u.keyChangeBar = none → s.raw Reg.bnc_LS_STATE = 1 → exec (.bncGenesis src) s = .next (u.bncRefused h rsSlotInUse)) ∧
    (u.keyChangeBar = none → s.raw Reg.bnc_LS_STATE ≠ 1 → s.bnc.commits.any (fun c => c.what = 4) = false → ∃ t : State, ∃ l seeds,
      exec (.bncGenesis src) s = .next t ∧ t = { u with
        regs := t.regs
        wh := { u.wh with draws := s.wh.draws + 4 }
        bnc := { s.bnc with
          lodestone := some l, j0 := none, j1 := none, reseal := none, slots := [], slrEpoch := [], users := [], pairRolled := false, leaf := 0, lmsNext := 0
          commits := s.bnc.commits ++ [{ what := 4, data := seeds, handle := some h }], writing := s.bnc.writing || s.pwr.holdAt.isNone } } ∧
      l = Config.random s.wh.draws 48 ∧ seeds = [1, 2, 3].map (fun k => Config.random (s.wh.draws + k) 48) ∧
      t.raw Reg.bnc_JSEL = 3 ∧ t.raw Reg.bnc_SLOTS_ACTIVE = 2 ∧ t.raw Reg.bnc_SLOTS_ORPHANED = 0 ∧
      s.regsBut t [Reg.bnc_SLOTS_ACTIVE.key 0, Reg.bnc_SLOTS_ORPHANED.key 0, Reg.bnc_LMS_LEAF_LO.key 0, Reg.bnc_LMS_LEAF_HI.key 0,
        Reg.bnc_JSEL.key 0, Reg.bnc_JNL_COUNT_LO.key 0, Reg.bnc_JNL_COUNT_HI.key 0, Reg.bnc_RESEAL_PEND.key 0]) ∧
    (let r := u.domBytes 0x040902 0 188
     let w := u.releaseDomain 0x040902
     (∀ e, w.importCheck r = .error e → exec (.bncImport src) s = .next ((w.bncRefused h e).raise 87 0x0104 (le 6 2 r + e * 2 ^ 16))) ∧
     let use := le 10 2 r
     let keep := use &&& importUsages (le 8 1 r)
     (∀ k, w.importCheck r = .ok k → ∃ c, exec (.bncImport src) s = .next (let v := if keep = use then w else w.clampReport h 0x04090200 use keep 4
        { v with bnc := { s.bnc with commits := s.bnc.commits ++ [c], writing := s.bnc.writing || s.pwr.holdAt.isNone } }) ∧
       c = { what := 1, slot := le 6 2 r, handle := some h, clamped := decide (keep ≠ use), key := c.key } ∧
       c.key = { state := 1, kind := le 8 1 r, usage := keep, parent := le 12 2 r, owner := le 14 1 r, keyId := le 184 4 r,
                 version := (s.slot (le 6 2 r)).version + 1, key := k })) ∧
    (∀ r, u.changeBar = some r → exec (.bncDelete src n) s = .next (u.bncRefused h r)) ∧
    (u.changeBar = none → exec (.bncDelete src n) s = .next (if s.imported n = false then u.bncRefused h rsNotPermitted
      else if (s.slot n).state = 0 then u.bncRefused h rsAbsent else u.queueCommit { what := 2, slot := n, handle := some h })) ∧
    (u.keyChangeBar = none → n = 4 → (s.slot 4).state = 1 → exec (.bncInvalidate src n) s = .next ((u.renewSession).complete h stOK)) ∧
    (u.keyChangeBar = none → 0x90 ≤ n → n < 0xD0 → (s.slot n).state = 1 → exec (.bncInvalidate src n) s =
      .next ((u.renewUser (n - 0x90)).complete h stOK)) ∧
    (u.keyChangeBar = none → 8 ≤ n → n < 0x88 → (s.slot n).state ≠ 2 → s.journalOpen = true → exec (.bncInvalidate src n) s =
      .next (u.renewRoot (n - 8) (some h))) ∧
    (u.keyChangeBar = none → exec (.bncUser src) s =
      .next (((u.applyUsers h).2.changed).complete h (if (u.applyUsers h).1 then stCLAMPED else stOK))) ∧
    (∀ k, u.keyFor 6 useTagGen = .ok k → exec (.bncPairRoll src) s =
      .next (State.complete { u with bnc := { u.bnc with pairRolled := true } } h stOK)) ∧
    (∀ r, u.keyFor 6 useTagGen = .error r → exec (.bncPairRoll src) s = .next (u.bncRefused h r)) ∧
    (∀ r, u.keyFor 1 useSign = .error r → exec (.bncAttest src nonce) s = .next (State.complete (u.bncFail r 1 6) h stREFUSED r)) ∧
    (∀ a b, u.keyFor 1 useSign = .ok a → u.keyFor 2 useSign = .ok b → u.leafBar = false → u.bnc.leaf < u.bnc.lmsNext →
      u.bnc.commits.any (fun c => c.what = 5) = false → exec (.bncAttest src nonce) s = .next (u.attest h nonce)) ∧
    (∀ r, u.changeBar = some r → exec (.bncPrepareReseal src) s = .next (u.bncRefused h r)) ∧
    (u.changeBar = none → exec (.bncPrepareReseal src) s = .next (if sigEcOk u.stagedMan && sigHssOk u.stagedMan then
      u.queueCommit { what := 7, data := [u.expectedChain u.stagedMan], handle := some h } else u.bncRefused h rsImportAuth))) ∧
  (∀ (s : State) (c : Commit) (rest : List Commit), s.bnc.commits = c :: rest → s.bnc.writing = true →
    let u : State := { s with bnc := { s.bnc with commits := rest, writing := false } }
    exec (.journalCommitDone true) s = .next (((u.applyCommit c).writeJournal c).finishCommit c).startCommits ∧
    exec (.journalCommitDone false) s = .next (u.failCommit c).startCommits) ∧
  (∀ (s : State), s.flag Reg.bnc_TAMP_LOOP_EN = true → 
    let k := (s.selected).elim 0 fun p => 1 - p.1
    let torn := fun (n : Nat) (j : Option Journal) => if s.bnc.writing && k = n then none else j
    let u : State := { s with bnc := { s.bnc with lodestone := none, commits := [], writing := false, j0 := torn 0 s.bnc.j0, j1 := torn 1 s.bnc.j1 } }
    let hs := s.bnc.commits.flatMap fun c => c.handle.toList ++ if c.what = 5 then (c.data.filter fun w => le 0 1 w = 0).map (le 1 4) else []
    ∃ t, exec (.tamper 1) s = .next t ∧ t = ((hs.foldl (fun (w : State) h => w.bncRefused h rsOrphaned)
      ((u.wr Reg.bnc_TAMP_LATCH 0 1).orphan fun _ _ => true)).raise 114 0x0100 1).setLsState 3 ∧ t.bnc.lodestone = none ∧ t.bnc.commits = [] ∧
    (∀ n, (t.slot n).state = 1 → n = 0x88 ∨ n = 0x89) ∧ t.raw Reg.bnc_TAMP_LATCH = 1 ∧ t.raw Reg.bnc_LS_STATE = 3) ∧
  (∀ (s : State) (d : Bytes),
    let n := s.raw Reg.bnc_MEAS_COUNT
    let extended := fun (t : State) =>
      t = { s with regs := t.regs, bnc := { s.bnc with chain := Config.sha384 (s.bnc.chain ++ d), digests := s.bnc.digests ++ [d] } } ∧
      t.raw Reg.bnc_MEAS_COUNT = n + 1 ∧ s.regsBut t [Reg.bnc_MEAS_COUNT.key 0];
    (n < 4 → ∃ t, exec (.measurementExtend d) s = .next t ∧ extended t) ∧
    (n = 4 → ∃ u : State, exec (.measurementExtend d) s = .next u.bncStart ∧ extended u) ∧
    (5 ≤ s.raw Reg.bnc_MEAS_COUNT → exec (.measurementExtend d) s = .next s))

/-- The supply starts the module, domains come up in order, resets and watchdogs restart it, a dip holds it up, heat
and shutdown stop it (spec/18_startup_reset.md, spec/22_physical_electrical.md). -/
def Obligations.SupplyResetsAndHoldup : Prop :=
  (∀ (s : State) (tm : Nat) (lost : Bool),
    (s.pwr.valid = false → s.pwr.thermal = none → exec (.supplyValid tm lost) s = .next ((if lost then s.pd0Lost else s).supplyUp tm)) ∧
    (s.pwr.valid = true → exec (.supplyValid tm lost) s = .next s) ∧
    (∀ k, s.pwr.thermal = some k → exec .thermalRestart s = .next (State.supplyUp { s with pwr := { s.pwr with thermal := none } } 0)) ∧
    (s.pwr.valid = true → exec (.shutdown tm) s = .next ((s.advance tm).shutDown 0x0103 2)) ∧
    (s.pwr.valid = true → let v := (s.advance tm).shutDown 0x010A 4
      exec (.thermalShutdown tm) s = .next { v with pwr := { v.pwr with thermal := some (60 * unitsSec) } } ∧ v.pwr.valid = false) ∧
    (s.pwr.valid = true → s.pwr.holdAt = none → exec (.holdupCharged tm) s = .next ((s.advance tm).wr Reg.pwr_HOLD_OK 0 1)) ∧
    (s.pwr.valid = true → s.pwr.holdAt = none → s.flag Reg.pwr_HOLD_OK = false →
      exec (.brownout tm) s = .next ((((s.advance tm).wr Reg.pwr_BROWNOUT 0 1).count Reg.pwr_PWR_BROWNOUT).shutDown 0x0103 2)) ∧
    (s.pwr.valid = true → s.pwr.holdAt = none → s.flag Reg.pwr_HOLD_OK = true → ∃ t, exec (.brownout tm) s = .next t ∧
      Quiet { s with
        mono := max s.mono tm
        pwr := { s.pwr with holdAt := some (max s.mono tm), before := s.raw Reg.pwr_MOD_STATE, runSince := none } } t ∧
      t.raw Reg.pwr_MOD_STATE = 3 ∧ t.raw Reg.pwr_HOLD_OK = 0 ∧ t.raw Reg.pwr_BROWNOUT = 1 ∧
      t.raw Reg.pwr_PWR_BROWNOUT = (s.raw Reg.pwr_PWR_BROWNOUT + 1) % 2 ^ 32 ∧
      s.regsBut t ([Reg.pwr_MOD_STATE.key 0, Reg.pwr_HOLD_OK.key 0, Reg.pwr_BROWNOUT.key 0, Reg.pwr_PWR_BROWNOUT.key 0] ++ eventKeys 109)) ∧
    (∀ a, s.pwr.holdAt = some a → ∃ u : State, exec (.supplyReturn tm) s = .next u.startCommits.deferred ∧
      Quiet { s with
        mono := max s.mono tm
        pwr := { s.pwr with holdAt := none, runSince := if s.pwr.before = 1 then some (max s.mono tm) else none } } u ∧
      u.raw Reg.pwr_MOD_STATE = s.pwr.before % 8 ∧ u.raw Reg.pwr_BROWNOUT = 0 ∧
      s.regsBut u ([Reg.pwr_MOD_STATE.key 0, Reg.pwr_BROWNOUT.key 0] ++ eventKeys 109)) ∧
    (s.pwr.holdAt = none → exec (.supplyReturn tm) s = .next s)) ∧
  (∀ (s : State) (d tm : Nat), s.pwr.valid = true → s.domainOn d = true → bit d s.pwr.good = false → s.pwr.safe = false →
    let a := s.advance tm
    let u : State := { a with pwr := { a.pwr with good := setBit d a.pwr.good } }
    (10 ≤ d → exec (.powerGood d tm []) s = .next (u.powerFirst ((powerOrder.dropWhile (· ≠ d)).drop 1))) ∧
    (5 ≤ d → d ≤ 8 → bit (d - 5) s.pwr.groups = true → exec (.powerGood d tm []) s = .next (u.groupUp (d - 5)))) ∧
  (∀ (s : State) (tm : Nat),
    (s.wheelRuns = true → s.pwr.settled = false → let a := s.advance tm
      let u : State := { a with pwr := { a.pwr with settled := true }, upd := { a.upd with admits := [] } }
      let v := if !s.fwRec.trial && s.flag Reg.bnc_TRIAL then u.confirmRest else u
      let recs := (v.bootGen.map (·.recs)).getD []
      let filled := fun (w : State) (l : List Nat) => l.any fun d => (w.domain d 0).len ≠ 0
      let w := recs.foldl State.applyRecord v
      let x := if filled w [0x040200, 0x040201] then w.ran (execClsCommit .wheelhouse w) else w
      let y := if filled x [0x040D00, 0x040D01] then x.ran (execLogApply .wheelhouse x) else x
      let z := State.freezeStored { y with pwr := { y.pwr with capDue := filled y [0x040800, 0x040801] } }
      exec (.settingsApply tm) s = .next (if s.fwRec.trial && s.fwRec.left = 2 then
        ((z.newGen s.fwRec.position (z.raw Reg.upd_SFMT_RUN) recs).wrFlag Reg.upd_SET_FROM_DEFAULTS 0 v.bootGen.isNone).raise 98 0x0108
          (b2n v.bootGen.isNone) else z)) ∧
    (s.wheelRuns = true → s.pwr.settled = true → s.pwr.started = false → s.pwr.boot = none → let u := s.advance tm
      let st := s.raw Reg.stx_STATE
      exec (.readmissionStart tm) s = .next (if st ≠ 2 ∧ st ≠ 5 ∧ u.mono < s.pwr.validAt + s.rd Reg.pwr_START_SYNC_S * unitsSec then u
        else State.checkBoot { u with pwr := { u.pwr with boot := some [], bootLeft := s.upd.admits } })) ∧
    (s.wheelRuns = true → exec (.watchdogExpiry tm) s = .next (((s.advance tm).count Reg.pwr_PWR_WDT).cpReset 2)) ∧
    (∀ w, s.wheelRuns = true → ∃ c u, exec (.firmwareRegionEccError w) s = .next (State.cpReset u c) ∧ s.free (2 ^ 32) = (c, u)) ∧
    (∀ c, s.pwr.down = some c → (s.advance tm).imagesMatch = false → exec (.wheelhouseResume tm) s = .next ((s.advance tm).warmReset 5)) ∧
    (∀ c, s.pwr.down = some c → (s.advance tm).imagesMatch = true → s.pwr.lateTiles = [] → s.upd.installing = none → 
      let up : State := { s with mono := max s.mono tm, pwr := { s.pwr with down := none } }
      let boxes := (List.range 2).map Requester.manager ++ (List.range 128).map Requester.slice
      exec (.wheelhouseResume tm) s = .next (boxes.foldl State.abortMailbox up).abortAdmissions) ∧
    (∀ link, bit 3 s.pwr.good = true → s.isFenced .hostIf = false → link = 0 ∨ s.flag Reg.hif_SPLIT = true → 
      exec (.hostLinkTrained link tm) s = .next { s with mono := max s.mono tm, hif := { s.hif with trained := setBit link s.hif.trained } })) ∧
  (∀ (s : State) (src : Requester) (g : Nat),
    let h := (s.newHandle src).1
    let u := (s.newHandle src).2
    exec (.warmReset src) s = .next ((u.complete h stOK).warmReset 3) ∧
    exec (.controlProcessorReset src) s = .next ((u.complete h stOK).cpReset 1) ∧
    (4 ≤ g → exec (.portGroupReset src g) s = .next (u.complete h stBAD_LENGTH)) ∧
    (g < 4 → s.isFenced (.portGroup g) = false → s.domainOn (5 + g) = true → bit g s.pwr.groups = false → ∃ t : State, ∃ v : State, ∃ c,
      exec (.portGroupReset src g) s = .next t ∧ t = v.logReset 5 c g ∧ (u.free 256).1 = c ∧
      (let kept := fun (k : Nat) => decide (k / 8 ≠ g)
       v = { (u.free 256).2 with
        regs := v.regs
        net := { s.net with px := s.net.px.filter fun e => kept e.1, tx := s.net.tx.filter fun e => kept e.1 }
        pwr := { s.pwr with
          groups := setBit g s.pwr.groups, good := clearBit (5 + g) s.pwr.good, groupHandle := Tbl.ins h s.pwr.groupHandle g } }) ∧ (∀ f i, addrIsland (f.key i / 32) = 16 + g → v.raw f i = f.reset % 2 ^ 32) ∧
      (∀ f i, addrIsland (f.key i / 32) ≠ 16 + g → v.raw f i = s.raw f i))) ∧
  (∀ (s : State) (link tm : Nat), link < 2 →
    let c := (s.free 256).1
    let v := (s.free 256).2
    let mode := if link = 0 then Reg.hif_COMPAT_A else Reg.hif_COMPAT_B
    let cleared : State := { v with
      mono := max s.mono tm
      hif := { s.hif with
        trained := clearBit link s.hif.trained, compat := clearBit link s.hif.compat
        postedA := if link = 0 then none else s.hif.postedA, postedB := if link = 1 then none else s.hif.postedB
        msix := s.hif.msix.filter fun e => e.1 / 4224 ≠ link, pba := s.hif.pba.filter fun e => e.1 / 4224 ≠ link
        fn := s.hif.fn.filter fun e => e.1 / 3 ≠ link, shadow := s.hif.shadow.filter fun (b : Buffered) => b.key ≠ mode.key 0 } }
    let w := cleared.wr mode 0 0
    let onLink := fun (x : Txn) => match x.owner with
      | .manager l => decide (l = link)
      | .slice sl => decide (w.sliceLink sl = link)
      | _ => false
    let u := (w.discardTxns onLink 3).abortMailbox (.manager link)
    exec (.hostLinkReset link tm) s = .next (State.logReset
      (((List.range 128).filter fun sl => u.slState sl ≠ 0 && u.sliceLink sl = link).foldl
        (fun (w : State) sl => w.startReset .wheelhouse 3 sl (linkKey sl) false) u) 4 c link)) ∧
  (∀ (s : State) (b : Bool),
    (s.flag Reg.pwr_DIE_HOT ≠ b → exec (.dieTempChange b) s = .next ((s.wrFlag Reg.pwr_DIE_HOT 0 b).raise 108 (if b then 0x0106 else 0x0107) 0)) ∧
    (s.flag Reg.pwr_VBAT_LOW ≠ b → s.domainOn 1 = true → exec (.vbatLowChange b) s = .next
      ((s.wrFlag Reg.pwr_VBAT_LOW 0 b).raise 108 (if b then 0x0108 else 0x0109) (s.raw Reg.adcch_CH_RES 15 % 2 ^ 16))) ∧
    (∀ v, exec (.maxAmbientWrite v) s = .next (if s.heldAmbient (v % 128) = s.ambientRange (v % 128)
      then s.buffer Reg.pwr_MAX_AMBIENT 0 (s.heldAmbient (v % 128)) (Reg.pwr_MAX_AMBIENT.addr 0)
      else (s.buffer Reg.pwr_MAX_AMBIENT 0 (s.heldAmbient (v % 128)) (Reg.pwr_MAX_AMBIENT.addr 0)).count Reg.pwr_PWR_AMB_HELD)))

/-- A package is installed when its checks pass, activated as a trial, confirmed, reverted or dropped; settings are
written, loaded and restored (spec/19_firmware_update.md). -/
def Obligations.UpdatesInstallActivateAndSettle : Prop :=
  (∀ (s : State) (src : Requester) (ok : Bool),
    let h := (s.newHandle src).1
    let u := (s.newHandle src).2
    let r := s.fwRec
    (s.inTrial = true → exec (.updInstall src) s = .next (u.updRefused h upTrialOpen) ∧ exec (.updDiscard src) s = .next (u.updRefused h upTrialOpen)) ∧
    (s.inTrial = false → s.raw Reg.upd_STAGE ≠ 2 → exec (.updInstall src) s = .next (u.updRefused h upPkgIncomplete)) ∧
    (∀ e k, s.inTrial = false → s.raw Reg.upd_STAGE = 2 → u.checkPackage = .error (e, k) → exec (.updInstall src) s =
      .next ((u.raise 93 0x0103 e).updRefused h e k)) ∧
    (∀ m, s.inTrial = false → s.raw Reg.upd_STAGE = 2 → u.checkPackage = .ok m → ∃ t : State, exec (.updInstall src) s = .next t ∧
      Quiet { u with upd := { s.upd with installing := some h, slots := t.upd.slots } } t ∧
      s.regsBut t ([Reg.upd_STAGE.key 0, Reg.upd_STAGED_GRANULES.key 0, Reg.upd_PKG_LEN.key 0] ++ eventKeys 93) ∧
      (∀ c b, 1 ≤ c → (∀ e, e ∈ manEntries m → entComp e ≠ 0 ∧ (entComp e ≠ c ∨ b = r.named c)) → b < 2 →
        Tbl.look ({} : FwSlot) t.upd.slots (2 * (c - 1) + b) = Tbl.look {} s.upd.slots (2 * (c - 1) + b))) ∧
    (s.pwr.holdAt = none → s.raw Reg.upd_STAGE = 4 → r.trial = false → ¬ (s.raw Reg.unit_UNIT_STATE = 4 ∧ s.flag Reg.unit_PARTNER_SEEN = true) →
      (exec (.updActivate src false) s = .next ((u.tearRec).updRefused h upFlashFail)) ∧
      (let a := (manEntries s.stagedMan).foldl (fun (a : Nat) e => putBit (entComp e - 1) (!bit (entComp e - 1) r.active) a) r.active
       let q := { r with active := a, prev := r.active, trial := true, left := 3, pkgId := manPkgId s.stagedMan }
       exec (.updActivate src true) s = .next (State.warmReset (State.complete (u.putRec q) h stOK) 3))) ∧
    (s.pwr.holdAt = none → s.raw Reg.upd_STAGE ≠ 4 → exec (.updActivate src ok) s = .next (u.updRefused h upNotInstalled)) ∧
    (s.inTrial = false → exec (.updConfirm src ok) s = .next (u.updRefused h upNoTrial) ∧ exec (.updRevert src ok) s = .next (u.updRefused h upNoTrial)) ∧
    (s.inTrial = true → s.pwr.holdAt = none → exec (.updConfirm src true) s = .next ((u.confirm).complete h stOK) ∧
      exec (.updRevert src true) s = .next (((u.fallBack 13).complete h stOK).warmReset 3) ∧
      exec (.updConfirm src false) s = .next ((u.tearRec).updRefused h upFlashFail)) ∧
    (s.inTrial = true → s.pwr.holdAt ≠ none → exec (.updConfirm src ok) s =
      .next { u with upd := { s.upd with waiting := s.upd.waiting ++ [(2, h)] } }) ∧
    (s.inTrial = false → s.upd.installing = none → exec (.updDiscard src) s =
      .next (State.complete (if s.raw Reg.upd_STAGE = 0 then u.discardStage else u.dropStage) h stOK)) ∧
    (s.pwr.holdAt = none → let w := u.releaseDomain 0x040B00
      (readSettings (u.image 0x040B00) = none → exec (.updSetLoad src ok) s = .next (w.updRefused h upSettingsFormat)) ∧
      (∀ f l, readSettings (u.image 0x040B00) = some (f, l) → w.readsFormat f = true → exec (.updSetLoad src ok) s = .next (w.loadGen h f l ok)) ∧
      exec (.updSetDefaults src ok) s = .next (u.loadGen h (s.raw Reg.upd_SFMT_RUN) [] ok))) ∧
  (∀ (s : State) (h : Nat), s.upd.installing = some h → s.wheelRuns = true → s.pwr.holdAt = none →
    let u : State := { s with upd := { s.upd with installing := none } }
    exec (.installComplete false) s = .next (u.syncStage.updRefused h upFlashFail) ∧
    ∃ v : State, exec (.installComplete true) s = .next ((v.raise 94 0x0104 (manCount s.stagedMan)).complete h stOK) ∧
      v.upd = { s.upd with installing := none, installed := true, slots := v.upd.slots } ∧ v.raw Reg.upd_STAGE = 4 ∧
      (s.raw Reg.bnc_LS_STATE = 0 → v = { s with regs := v.regs, upd := v.upd } ∧
        s.regsBut v [Reg.upd_STAGE.key 0, Reg.upd_STAGED_GRANULES.key 0, Reg.upd_PKG_LEN.key 0])) ∧
  (∀ (s : State),
    (s.raw Reg.upd_STAGE ≠ 0 → s.upd.installing = none → s.wheelRuns = true → exec .stageExpiry s =
      .next (State.dropStage ((s.advance (s.upd.lastBlock + 604800 * unitsSec - s.opBase)).count Reg.upd_UPD_STAGE_EXPIRED))) ∧
    (∀ t0, s.pwr.runSince = some t0 → s.raw Reg.upd_AUTO_CONFIRM_S ≠ 0 → s.inTrial = true → s.wheelRuns = true → s.raw Reg.pwr_MOD_STATE = 1 →
      s.raw Reg.pwr_DOM_FENCED = 0 → exec .autoConfirm s = .next (s.advance (t0 + s.raw Reg.upd_AUTO_CONFIRM_S * unitsSec)).confirm) ∧
    (s.upd.dirty ≠ none → s.pwr.holdAt = none → s.wheelRuns = true → let u : State := { s with upd := { s.upd with dirty := none } }
      exec (.settingsWrite true) s = .next (u.newGen s.fwRec.position (s.raw Reg.upd_SFMT_RUN) u.settings) ∧
      exec (.settingsWrite false) s = .next (u.failGen s.fwRec.position)) ∧
    (∀ b, s.pwr.safe = true → manEntries (b.take (manLen b)) = [] → exec (.recoveryPackage b) s = .next (s.emit (.uartByte 0x18))) ∧
    (∀ b e, s.pwr.safe = true → let m := b.take (manLen b)
      let x : FwSlot := { man := m, image := slice (entImgOff e) (entImgLen e) b }
      manEntries m = [e] → manFormOk m b.length = true → entComp e = 1 → slotOk x 1 (s.fwRec.min 1) = true →
      let w : State := { s with upd := { s.upd with slots := Tbl.put ({} : FwSlot) s.upd.slots 0 x }, pwr := { s.pwr with valid := false } }
      exec (.recoveryPackage b) s = .next (w.putRec { s.fwRec with active := clearBit 0 s.fwRec.active, trial := false }).coldReset))

/-- Sounding tests a unit and counts its steps, scrubs take their hits, the Logbook writes its queue, clears and
applies its tables (spec/20_recovery_selftest.md, spec/21_logbook.md, spec/10_torchon_array.md). -/
def Obligations.SelfTestsAndTheLogbook : Prop :=
  (∀ (s : State) (u : Blk) (fails : List BootFail) (last : Bool), s.soundingOn = true → s.testable u = true → (∀ k, u ≠ .tile k) → u ≠ .ocxo →
    let v := (s.wr Reg.snd_BLOCK 0 (blkPlace u).1).wr Reg.snd_UNIT 0 (blkPlace u).2
    exec (.soundingStep u true fails last) s = .next (v.count Reg.snd_SND_ABORT) ∧
    exec (.soundingStep u false fails false) s = .next (fails.foldl State.testFailure (v.count Reg.snd_SND_STEPS)) ∧
    exec (.soundingStep u false fails true) s = .next (State.unitTested (fails.foldl State.testFailure (v.count Reg.snd_SND_STEPS)) u)) ∧
  (∀ (s : State) (k : Nat) (fails : List BootFail), s.soundingOn = true →
    (s.testable (.tile k) = true → let v := (s.wr Reg.snd_BLOCK 0 (blkPlace (.tile k)).1).wr Reg.snd_UNIT 0 (blkPlace (.tile k)).2
      exec (.soundingStep (.tile k) true fails false) s = .next (((v.tileState k 3).syncTiles).count Reg.snd_SND_ABORT) ∧
      exec (.soundingStep (.tile k) false fails false) s =
        .next (fails.foldl State.testFailure (((v.tileState k 3).syncTiles).count Reg.snd_SND_STEPS))) ∧
    (s.testable .ocxo = true → ∃ t, exec (.soundingStep .ocxo false [] false) s = .next t ∧
      t = { s with regs := t.regs, snd := { s.snd with ocxoBad := 0 } } ∧ t.raw Reg.snd_SND_STEPS = (s.raw Reg.snd_SND_STEPS + 1) % 2 ^ 32 ∧
      s.regsBut t [Reg.snd_BLOCK.key 0, Reg.snd_UNIT.key 0, Reg.snd_SND_STEPS.key 0])) ∧
  (∀ (s : State) (src : Requester) (scope : Nat),
    let h := (s.newHandle src).1
    let u := (s.newHandle src).2
    exec (.sndPass src) s = .next { u with snd := { s.snd with tested := [], handles := s.snd.handles ++ [h] } } ∧
    exec (.sndClearMap src) s = .next ((u.setMap []).complete h stOK) ∧
    exec (.logApply src) s = .next { u with log := { s.log with applyPend := s.log.applyPend ++ [h] } } ∧
    (s.pwr.holdAt ≠ none → exec (.logClear src scope) s = .next ((u.count Reg.log_LOG_REFUSE).complete h stREFUSED 0x0301)) ∧
    (s.pwr.holdAt = none → s.log.clear ≠ none → exec (.logClear src scope) s = .next ((u.count Reg.log_LOG_REFUSE).complete h stREFUSED 0x0302)) ∧
    (s.pwr.holdAt = none → s.log.clear = none → ∃ t c, exec (.logClear src scope) s = .next t ∧
      t = { u with freeTick := t.freeTick, regs := t.regs, log := { s.log with clear := some c } } ∧ s.regsBut t [Reg.log_CLEARING.key 0] ∧
      c.scope = (if scope = 1 then 1 else 0) ∧ c.handle = h ∧ c.count = (s.logScope (if scope = 1 then 1 else 0)).length ∧
      t.raw Reg.log_CLEARING = 1)) ∧
  (∀ (s : State) (r : LogRec) (rest : List LogRec), s.log.queue = r :: rest → s.logReady = true →
    exec (.logRecordWrite true) s = .next ((s.logQueue rest).logWrite r) ∧
    (∃ x v, s.free (2 ^ 2048) = (x, v) ∧ exec (.logRecordWrite false) s = .next (State.raise ((v.logPut (leBytes 256 x)).count Reg.log_LOG_NOR_FAIL)
      103 0x0103 (s.logNext.2 + b2n s.logNext.1 * 2 ^ 16)))) ∧
  (∀ (s : State) (c : LogClear), s.log.clear = some c → ∃ u : State, exec .logClearComplete s = .next ((u.raise 100 0x0100 c.scope).complete c.handle stOK) ∧
    u = { s with regs := u.regs, log := { s.log with perm := u.log.perm, circ := u.log.circ, clear := none, lost := 0, dropRaised := false } } ∧
    s.regsBut u [Reg.log_CIRC_HEAD.key 0, Reg.log_CIRC_WRAPPED.key 0, Reg.log_CLEARING.key 0, Reg.log_PERM_COUNT.key 0, Reg.log_SEQ_NEXT.key 0,
      Reg.log_LOG_WRITTEN.key 0] ∧ u.raw Reg.log_CLEARING = 0 ∧ u.raw Reg.log_SEQ_NEXT = (s.raw Reg.log_SEQ_NEXT + 1) % 2 ^ 32 ∧
    (c.scope = 1 → u.log.circ = [] ∧ u.log.perm.length = 1 ∧ u.raw Reg.log_PERM_COUNT = 1) ∧
    (c.scope = 0 → u.log.circ.length = 1 ∧ u.log.perm = s.log.perm ∧ u.raw Reg.log_CIRC_HEAD = 1)) ∧
  (∀ (s : State) (e : EccHit),
    (s.flag Reg.snd_SCRUB_EN = false → exec (.scrubPass [e]) s = .next s) ∧
    (s.flag Reg.snd_SCRUB_EN = true → exec (.scrubPass [e]) s =
      .next (State.scrubHit { s with snd := { s.snd with found := [] } } e s.snd.found) ∧
      exec (.scrubPass []) s = .next { s with snd := { s.snd with found := [] } })) ∧
  (∀ (s : State) (tl ty : Nat), exec (.programReloadComplete tl ty) s =
    .next (s.setTile tl { s.tile tl with reloading := (s.tile tl).reloading.filter (· ≠ ty) }))

/-- The accounting window, the pricking frame and the hyperperiod bring what waits for them, at their instants and
once each (spec/03_registers_events.md, spec/04_time_sextant.md, spec/11_speculation_commit.md, spec/15_capture.md).
-/
def Obligations.BoundariesApplyWhatWaits : Prop :=
  (∀ (s : State),
    let n := max (s.stx.lastWin + 1) (s.tai / unitsWin)
    let u : State := State.advance { s with stx := { s.stx with lastWin := n } } (s.monoOf (n * unitsWin))
    exec .accountingWindow s = .next (State.captureDrain (State.bootCapture (State.scanExchangesAt (State.logApply (State.joinPeers
      (State.applyGrants u.windowWrites))))))) ∧
  (∀ (s : State),
    let n := max (s.stx.lastFrame + 1) (s.tai / unitsFrame)
    let u : State := State.advance { s with stx := { s.stx with lastFrame := n } } (s.monoOf (n * unitsFrame))
    let v := ((u.mirrorSend).compareMirror).pruneOwn
    exec .prickingFrameBoundary s = .next (v.applyChains (v.chainDue none) 0).takeFixes) ∧
  (∀ (s : State),
    let n := max (s.stx.lastHyper + 1) (s.tai / unitsHyper)
    let u : State := State.advance { s with stx := { s.stx with lastHyper := n } } (s.monoOf (n * unitsHyper))
    let v := (State.modesAt (((u.hyperWrites).claimApply).sweepLeaving)).exchangesAt
    exec .hyperperiodBoundary s = .next (if v.wheelRuns then v.checkBoot else v)) ∧
  (∀ (s : State) (p : Buffered → Bool),
    (∀ b, b ∈ s.hif.shadow → p b = false → b.bnd ≠ .cfgRef → b ∈ (s.applyBoundary p).hif.shadow) ∧
    (∀ b, b ∈ (s.applyBoundary p).hif.shadow → b ∈ s.hif.shadow ∧ (p b = false ∨ s.held b.blk = true)) ∧
    (∀ b f i, s.hif.shadow = [b] → p b = true → s.held b.blk = false → b.txn = none → b.key = f.key i →
      b.key ≠ Reg.evt_PEND.key 0 → b.reset = f.reset → b.wid = f.wid → f.wid ≤ 32 → b.val < 2 ^ f.wid →
      (s.applyBoundary p).raw f i = b.val))

/-- Every well-formed FB-ISA instruction is read back from its word, every legal word is the word of the one
instruction it spells, and no illegal word spells one (spec/10_torchon_array.md, spec/14_scan_engine.md). -/
def Obligations.IsaWordsDecodeAndEncode : Prop :=
  (∀ (i : Instr) (u w : Nat), i.wf = true → isaWord i = some (u, w) → isaInstr u w = some i) ∧
  (∀ (i : Instr) (u w : Nat), u < 192 → w < 2 ^ 32 → isaInstr u w = some i → i.wf = true ∧ isaWord i = some (u, w)) ∧
  (∀ (u w : Nat), w < 2 ^ 32 → (isaInstr u w).isSome = legalWord (decide (64 ≤ u)) w)

/-- The bounds of what waits: at most 8 handshakes are open (R77), and one admission is computed while at most 16 wait (R362). -/
def Sys2Proof.Machine.State.Inv (s : State) : Prop := s.wh.handshakes.length ≤ 8 ∧ s.tor.queue.length ≤ 17

/-- Whatever command comes, at most 8 handshakes are open and at most 17 admission requests are queued
(spec/02_object_dictionary.md, spec/12_admission.md). -/
def Obligations.EveryStepKeepsTheBounds : Prop :=
  ∀ (s t : State), s.Inv → step s = .next t → t.Inv

/-- At reset no handshake is open and no admission request is queued, and no step is refused or faults
(spec/02_object_dictionary.md, spec/12_admission.md). -/
def Obligations.ResetMeetsTheBounds : Prop :=
  State.reset.Inv ∧ State.reset.wh.handshakes = [] ∧ State.reset.tor.queue = [] ∧ (∀ s : State, goesOn (step s))
end

