-- ==== Sys2Proof/Laws/Arms.lean ====
section
/-!
SUPPORT. `exec` arm by arm: the meaning that each command has.
-/

namespace Sys2Proof.Machine

@[simp] theorem exec_registerWrite (a : Access) (v : Nat) (s : State) : exec (.registerWrite a v) s = execRegisterWrite a v s := rfl
@[simp] theorem exec_rcCounterRead (a : Access) (s : State) : exec (.rcCounterRead a) s = execRcCounterRead a s := rfl
@[simp] theorem exec_counter64Read (a : Access) (s : State) : exec (.counter64Read a) s = execCounter64Read a s := rfl
@[simp] theorem exec_xaccTimeout (a : Access) (read : Bool) (s : State) : exec (.xaccTimeout a read) s = execXaccTimeout a read s := rfl
@[simp] theorem exec_compatWrite (a : Access) (v : Nat) (s : State) : exec (.compatWrite a v) s = execCompatWrite a v s := rfl
@[simp] theorem exec_compatModeSwitch (link : Nat) (s : State) : exec (.compatModeSwitch link) s = execCompatModeSwitch link s := rfl
@[simp] theorem exec_postedWriteLand (link : Nat) (s : State) : exec (.postedWriteLand link) s = execPostedWriteLand link s := rfl
@[simp] theorem exec_cfgHoldWrite (a : Access) (v : Nat) (s : State) : exec (.cfgHoldWrite a v) s = execCfgHoldWrite a v s := rfl
@[simp] theorem exec_cfgRefWrite (a : Access) (v : Nat) (s : State) : exec (.cfgRefWrite a v) s = execCfgRefWrite a v s := rfl
@[simp] theorem exec_cfgCheckPass (b : Nat) (s : State) : exec (.cfgCheckPass b) s = execCfgCheckPass b s := rfl
@[simp] theorem exec_eventPendClear (n : Nat) (event : Option (Nat × Nat)) (s : State) : exec (.eventPendClear n event) s = execEventPendClear n event s := rfl
@[simp] theorem exec_eventMaskWrite (n : Nat) (mask : Bool) (s : State) : exec (.eventMaskWrite n mask) s = execEventMaskWrite n mask s := rfl
@[simp] theorem exec_msixUnmask (link : Nat) (fn : Nat) (entry : Option Nat) (s : State) : exec (.msixUnmask link fn entry) s = execMsixUnmask link fn entry s := rfl
@[simp] theorem exec_slcVecMaskWrite (a : Access) (v : Nat) (s : State) : exec (.slcVecMaskWrite a v) s = execSlcVecMaskWrite a v s := rfl
@[simp] theorem exec_slcVecPendClear (a : Access) (v : Nat) (sets : Nat) (s : State) : exec (.slcVecPendClear a v sets) s = execSlcVecPendClear a v sets s := rfl
@[simp] theorem exec_accountingWindow (s : State) : exec (.accountingWindow) s = execAccountingWindow s := rfl
@[simp] theorem exec_prickingFrameBoundary (s : State) : exec (.prickingFrameBoundary) s = execPrickingFrameBoundary s := rfl
@[simp] theorem exec_hyperperiodBoundary (s : State) : exec (.hyperperiodBoundary) s = execHyperperiodBoundary s := rfl
@[simp] theorem exec_sampleBoundary (k : Nat) (s : State) : exec (.sampleBoundary k) s = execSampleBoundary k s := rfl
@[simp] theorem exec_xingWaitExpiry (src : Nat) (dst : Nat) (s : State) : exec (.xingWaitExpiry src dst) s = execXingWaitExpiry src dst s := rfl
@[simp] theorem exec_quadClockApply (q : Nat) (s : State) : exec (.quadClockApply q) s = execQuadClockApply q s := rfl
@[simp] theorem exec_hello (m : Msg) (s : State) : exec (.hello m) s = execHello m s := rfl
@[simp] theorem exec_helloReply (id : Nat) (t : Nat) (s : State) : exec (.helloReply id t) s = execHelloReply id t s := rfl
@[simp] theorem exec_auth (m : Msg) (s : State) : exec (.auth m) s = execAuth m s := rfl
@[simp] theorem exec_authTimeout (id : Nat) (s : State) : exec (.authTimeout id) s = execAuthTimeout id s := rfl
@[simp] theorem exec_authBlockExpiry (ip : Nat) (s : State) : exec (.authBlockExpiry ip) s = execAuthBlockExpiry ip s := rfl
@[simp] theorem exec_data (m : Msg) (s : State) : exec (.data m) s = execData m s := rfl
@[simp] theorem exec_close (m : Msg) (s : State) : exec (.close m) s = execClose m s := rfl
@[simp] theorem exec_sessionIdleTimeout (id : Nat) (s : State) : exec (.sessionIdleTimeout id) s = execSessionIdleTimeout id s := rfl
@[simp] theorem exec_wheelhouseServeRequest (s : State) : exec (.wheelhouseServeRequest) s = execWheelhouseServeRequest s := rfl
@[simp] theorem exec_read (src : Requester) (reqId : Nat) (body : Bytes) (s : State) : exec (.read src reqId body) s = execRead src reqId body s := rfl
@[simp] theorem exec_write (src : Requester) (reqId : Nat) (body : Bytes) (s : State) : exec (.write src reqId body) s = execWrite src reqId body s := rfl
@[simp] theorem exec_blockRead (src : Requester) (reqId : Nat) (body : Bytes) (s : State) : exec (.blockRead src reqId body) s = execBlockRead src reqId body s := rfl
@[simp] theorem exec_blockWrite (src : Requester) (reqId : Nat) (body : Bytes) (s : State) : exec (.blockWrite src reqId body) s = execBlockWrite src reqId body s := rfl
@[simp] theorem exec_execute (src : Requester) (reqId : Nat) (body : Bytes) (s : State) : exec (.execute src reqId body) s = execExecute src reqId body s := rfl
@[simp] theorem exec_txnOpen (src : Requester) (reqId : Nat) (body : Bytes) (s : State) : exec (.txnOpen src reqId body) s = execTxnOpen src reqId body s := rfl
@[simp] theorem exec_txnCommit (src : Requester) (reqId : Nat) (body : Bytes) (s : State) : exec (.txnCommit src reqId body) s = execTxnCommit src reqId body s := rfl
@[simp] theorem exec_txnAbort (src : Requester) (reqId : Nat) (body : Bytes) (s : State) : exec (.txnAbort src reqId body) s = execTxnAbort src reqId body s := rfl
@[simp] theorem exec_txnTimeout (src : Requester) (s : State) : exec (.txnTimeout src) s = execTxnTimeout src s := rfl
@[simp] theorem exec_subscribe (id : Nat) (reqId : Nat) (body : Bytes) (s : State) : exec (.subscribe id reqId body) s = execSubscribe id reqId body s := rfl
@[simp] theorem exec_ack (id : Nat) (note : Nat) (s : State) : exec (.ack id note) s = execAck id note s := rfl
@[simp] theorem exec_notifyResend (id : Nat) (note : Nat) (s : State) : exec (.notifyResend id note) s = execNotifyResend id note s := rfl
@[simp] theorem exec_keepalive (id : Nat) (reqId : Nat) (body : Bytes) (s : State) : exec (.keepalive id reqId body) s = execKeepalive id reqId body s := rfl
@[simp] theorem exec_mbxGo (m : Requester) (abort : Bool) (s : State) : exec (.mbxGo m abort) s = execMbxGo m abort s := rfl
@[simp] theorem exec_mbxAbort (m : Requester) (s : State) : exec (.mbxAbort m) s = execMbxAbort m s := rfl
@[simp] theorem exec_mbxResponse (s : State) : exec (.mbxResponse) s = execMbxResponse s := rfl
@[simp] theorem exec_timeLatchRead (a : Access) (s : State) : exec (.timeLatchRead a) s = execTimeLatchRead a s := rfl
@[simp] theorem exec_stepNow (s : State) : exec (.stepNow) s = execStepNow s := rfl
@[simp] theorem exec_setTime (s : State) : exec (.setTime) s = execSetTime s := rfl
@[simp] theorem exec_syncRx (p : Nat) (t : Nat) (bytes : Bytes) (s : State) : exec (.syncRx p t bytes) s = execSyncRx p t bytes s := rfl
@[simp] theorem exec_followUpRx (p : Nat) (t : Nat) (bytes : Bytes) (s : State) : exec (.followUpRx p t bytes) s = execFollowUpRx p t bytes s := rfl
@[simp] theorem exec_announceRx (p : Nat) (t : Nat) (bytes : Bytes) (s : State) : exec (.announceRx p t bytes) s = execAnnounceRx p t bytes s := rfl
@[simp] theorem exec_pdelayReqRx (p : Nat) (t : Nat) (bytes : Bytes) (s : State) : exec (.pdelayReqRx p t bytes) s = execPdelayReqRx p t bytes s := rfl
@[simp] theorem exec_pdelayRespRx (p : Nat) (t : Nat) (bytes : Bytes) (s : State) : exec (.pdelayRespRx p t bytes) s = execPdelayRespRx p t bytes s := rfl
@[simp] theorem exec_pdelayReqSend (p : Nat) (t : Nat) (s : State) : exec (.pdelayReqSend p t) s = execPdelayReqSend p t s := rfl
@[simp] theorem exec_syncRecordExpiry (s : State) : exec (.syncRecordExpiry) s = execSyncRecordExpiry s := rfl
@[simp] theorem exec_masterLossTimeout (s : State) : exec (.masterLossTimeout) s = execMasterLossTimeout s := rfl
@[simp] theorem exec_masterSend (t : Nat) (s : State) : exec (.masterSend t) s = execMasterSend t s := rfl
@[simp] theorem exec_holdoverExpired (s : State) : exec (.holdoverExpired) s = execHoldoverExpired s := rfl
@[simp] theorem exec_stepApply (s : State) : exec (.stepApply) s = execStepApply s := rfl
@[simp] theorem exec_slewDone (s : State) : exec (.slewDone) s = execSlewDone s := rfl
@[simp] theorem exec_leapSecondApply (s : State) : exec (.leapSecondApply) s = execLeapSecondApply s := rfl
@[simp] theorem exec_ppsInEdge (t : Nat) (s : State) : exec (.ppsInEdge t) s = execPpsInEdge t s := rfl
@[simp] theorem exec_ppsInLost (s : State) : exec (.ppsInLost) s = execPpsInLost s := rfl
@[simp] theorem exec_ppsOutPulse (s : State) : exec (.ppsOutPulse) s = execPpsOutPulse s := rfl
@[simp] theorem exec_portFrameRx (p : Nat) (t : Nat) (bytes : Bytes) (fcsOk : Bool) (s : State) : exec (.portFrameRx p t bytes fcsOk) s = execPortFrameRx p t bytes fcsOk s := rfl
@[simp] theorem exec_pauseRx (p : Nat) (t : Nat) (bytes : Bytes) (s : State) : exec (.pauseRx p t bytes) s = execPauseRx p t bytes s := rfl
@[simp] theorem exec_pauseExpiry (p : Nat) (s : State) : exec (.pauseExpiry p) s = execPauseExpiry p s := rfl
@[simp] theorem exec_pauseRefresh (p : Nat) (s : State) : exec (.pauseRefresh p) s = execPauseRefresh p s := rfl
@[simp] theorem exec_sgmiiControlWord (p : Nat) (up : Bool) (speed : Nat) (full : Bool) (s : State) : exec (.sgmiiControlWord p up speed full) s = execSgmiiControlWord p up speed full s := rfl
@[simp] theorem exec_linkUp (p : Nat) (fec : Nat) (s : State) : exec (.linkUp p fec) s = execLinkUp p fec s := rfl
@[simp] theorem exec_linkDown (p : Nat) (s : State) : exec (.linkDown p) s = execLinkDown p s := rfl
@[simp] theorem exec_forwarding (p : Nat) (s : State) : exec (.forwarding p) s = execForwarding p s := rfl
@[simp] theorem exec_heldFrameExpiry (p : Nat) (s : State) : exec (.heldFrameExpiry p) s = execHeldFrameExpiry p s := rfl
@[simp] theorem exec_flapHoldExpiry (p : Nat) (s : State) : exec (.flapHoldExpiry p) s = execFlapHoldExpiry p s := rfl
@[simp] theorem exec_collision (p : Nat) (t : Nat) (s : State) : exec (.collision p t) s = execCollision p t s := rfl
@[simp] theorem exec_backoffExpiry (p : Nat) (s : State) : exec (.backoffExpiry p) s = execBackoffExpiry p s := rfl
@[simp] theorem exec_quarantineExpiry (p : Nat) (s : State) : exec (.quarantineExpiry p) s = execQuarantineExpiry p s := rfl
@[simp] theorem exec_lpReqWrite (p : Nat) (v : Bool) (s : State) : exec (.lpReqWrite p v) s = execLpReqWrite p v s := rfl
@[simp] theorem exec_pauseImmuneWrite (p : Nat) (v : Nat) (s : State) : exec (.pauseImmuneWrite p v) s = execPauseImmuneWrite p v s := rfl
@[simp] theorem exec_laneModeWrite (p : Nat) (lane : Nat) (speed : Nat) (s : State) : exec (.laneModeWrite p lane speed) s = execLaneModeWrite p lane speed s := rfl
@[simp] theorem exec_maxFrameWrite (p : Nat) (v : Nat) (s : State) : exec (.maxFrameWrite p v) s = execMaxFrameWrite p v s := rfl
@[simp] theorem exec_groupPowerOff (g : Nat) (s : State) : exec (.groupPowerOff g) s = execGroupPowerOff g s := rfl
@[simp] theorem exec_wakePattern (p : Nat) (lpWrite : Bool) (s : State) : exec (.wakePattern p lpWrite) s = execWakePattern p lpWrite s := rfl
@[simp] theorem exec_groupPowerUp (g : Nat) (s : State) : exec (.groupPowerUp g) s = execGroupPowerUp g s := rfl
@[simp] theorem exec_superFrameTx (q : Nat) (s : State) : exec (.superFrameTx q) s = execSuperFrameTx q s := rfl
@[simp] theorem exec_portMRx (t : Nat) (bytes : Bytes) (s : State) : exec (.portMRx t bytes) s = execPortMRx t bytes s := rfl
@[simp] theorem exec_portMLinkChange (up : Bool) (speed : Nat) (s : State) : exec (.portMLinkChange up speed) s = execPortMLinkChange up speed s := rfl
@[simp] theorem exec_cagePresenceChange (cage : Nat) (present : Bool) (s : State) : exec (.cagePresenceChange cage present) s = execCagePresenceChange cage present s := rfl
@[simp] theorem exec_switchIngress (q : Nat) (s : State) : exec (.switchIngress q) s = execSwitchIngress q s := rfl
@[simp] theorem exec_tagCheckDone (s : State) : exec (.tagCheckDone) s = execTagCheckDone s := rfl
@[simp] theorem exec_egressSchedule (q : Nat) (ecc : Option (Bool × Nat)) (s : State) : exec (.egressSchedule q ecc) s = execEgressSchedule q ecc s := rfl
@[simp] theorem exec_txComplete (q : Nat) (s : State) : exec (.txComplete q) s = execTxComplete q s := rfl
@[simp] theorem exec_starvePromote (q : Nat) (c : Nat) (s : State) : exec (.starvePromote q c) s = execStarvePromote q c s := rfl
@[simp] theorem exec_staleFrameDrop (s : State) : exec (.staleFrameDrop) s = execStaleFrameDrop s := rfl
@[simp] theorem exec_fdbAgeOut (mac : Nat) (vid : Nat) (s : State) : exec (.fdbAgeOut mac vid) s = execFdbAgeOut mac vid s := rfl
@[simp] theorem exec_clsCommit (src : Requester) (s : State) : exec (.clsCommit src) s = execClsCommit src s := rfl
@[simp] theorem exec_epochActivate (s : State) : exec (.epochActivate) s = execEpochActivate s := rfl
@[simp] theorem exec_epochRetire (s : State) : exec (.epochRetire) s = execEpochRetire s := rfl
@[simp] theorem exec_auditPass (lost : Nat) (dups : List Nat) (s : State) : exec (.auditPass lost dups) s = execAuditPass lost dups s := rfl
@[simp] theorem exec_supervisionSend (t : Nat) (s : State) : exec (.supervisionSend t) s = execSupervisionSend t s := rfl
@[simp] theorem exec_proxyNodeAge (mac : Nat) (s : State) : exec (.proxyNodeAge mac) s = execProxyNodeAge mac s := rfl
@[simp] theorem exec_lanSilentTimeout (k : Nat) (isB : Bool) (s : State) : exec (.lanSilentTimeout k isB) s = execLanSilentTimeout k isB s := rfl
@[simp] theorem exec_ringOpenTimeout (r : Nat) (s : State) : exec (.ringOpenTimeout r) s = execRingOpenTimeout r s := rfl
@[simp] theorem exec_unitEnWrite (v : Bool) (s : State) : exec (.unitEnWrite v) s = execUnitEnWrite v s := rfl
@[simp] theorem exec_heartbeatSend (t : Nat) (s : State) : exec (.heartbeatSend t) s = execHeartbeatSend t s := rfl
@[simp] theorem exec_heartbeat (t : Nat) (f : Bytes) (s : State) : exec (.heartbeat t f) s = execHeartbeat t f s := rfl
@[simp] theorem exec_partnerLost (s : State) : exec (.partnerLost) s = execPartnerLost s := rfl
@[simp] theorem exec_soloActiveTimeout (s : State) : exec (.soloActiveTimeout) s = execSoloActiveTimeout s := rfl
@[simp] theorem exec_takeoverEpochWritten (t : Nat) (s : State) : exec (.takeoverEpochWritten t) s = execTakeoverEpochWritten t s := rfl
@[simp] theorem exec_relinquish (s : State) : exec (.relinquish) s = execRelinquish s := rfl
@[simp] theorem exec_takeover (s : State) : exec (.takeover) s = execTakeover s := rfl
@[simp] theorem exec_epochClear (src : Requester) (s : State) : exec (.epochClear src) s = execEpochClear src s := rfl
@[simp] theorem exec_unfitRelease (src : Requester) (s : State) : exec (.unfitRelease src) s = execUnfitRelease src s := rfl
@[simp] theorem exec_mirror (t : Nat) (f : Bytes) (s : State) : exec (.mirror t f) s = execMirror t f s := rfl
@[simp] theorem exec_mirrorLate (s : State) : exec (.mirrorLate) s = execMirrorLate s := rfl
@[simp] theorem exec_resyncStoreReady (s : State) : exec (.resyncStoreReady) s = execResyncStoreReady s := rfl
@[simp] theorem exec_resyncReq (t : Nat) (f : Bytes) (s : State) : exec (.resyncReq t f) s = execResyncReq t f s := rfl
@[simp] theorem exec_resyncData (t : Nat) (f : Bytes) (s : State) : exec (.resyncData t f) s = execResyncData t f s := rfl
@[simp] theorem exec_resyncAck (t : Nat) (f : Option Bytes) (s : State) : exec (.resyncAck t f) s = execResyncAck t f s := rfl
@[simp] theorem exec_svFrameIngest (s : State) : exec (.svFrameIngest) s = execSvFrameIngest s := rfl
@[simp] theorem exec_reckonCheck (k : Nat) (s : State) : exec (.reckonCheck k) s = execReckonCheck k s := rfl
@[simp] theorem exec_substituteDeclare (k : Nat) (s : State) : exec (.substituteDeclare k) s = execSubstituteDeclare k s := rfl
@[simp] theorem exec_streamLostTimeout (k : Nat) (s : State) : exec (.streamLostTimeout k) s = execStreamLostTimeout k s := rfl
@[simp] theorem exec_sampleStoreEcc (k : Nat) (a : Nat) (word : Nat) (s : State) : exec (.sampleStoreEcc k a word) s = execSampleStoreEcc k a word s := rfl
@[simp] theorem exec_apertureRead (link : Nat) (off : Nat) (size : Nat) (s : State) : exec (.apertureRead link off size) s = execApertureRead link off size s := rfl
@[simp] theorem exec_filterChainWrite (c : Nat) (s1 : Nat) (s2 : Nat) (s : State) : exec (.filterChainWrite c s1 s2) s = execFilterChainWrite c s1 s2 s := rfl
@[simp] theorem exec_evalStart (t : Nat) (now : Nat) (s : State) : exec (.evalStart t now) s = execEvalStart t now s := rfl
@[simp] theorem exec_add (u : Nat) (rd : Nat) (ra : Nat) (rb : Nat) (s : State) : exec (.add u rd ra rb) s = execAdd u rd ra rb s := rfl
@[simp] theorem exec_sub (u : Nat) (rd : Nat) (ra : Nat) (rb : Nat) (s : State) : exec (.sub u rd ra rb) s = execSub u rd ra rb s := rfl
@[simp] theorem exec_mul (u : Nat) (rd : Nat) (ra : Nat) (rb : Nat) (s : State) : exec (.mul u rd ra rb) s = execMul u rd ra rb s := rfl
@[simp] theorem exec_and (u : Nat) (rd : Nat) (ra : Nat) (rb : Nat) (s : State) : exec (.and u rd ra rb) s = execAnd u rd ra rb s := rfl
@[simp] theorem exec_or (u : Nat) (rd : Nat) (ra : Nat) (rb : Nat) (s : State) : exec (.or u rd ra rb) s = execOr u rd ra rb s := rfl
@[simp] theorem exec_xor (u : Nat) (rd : Nat) (ra : Nat) (rb : Nat) (s : State) : exec (.xor u rd ra rb) s = execXor u rd ra rb s := rfl
@[simp] theorem exec_shl (u : Nat) (rd : Nat) (ra : Nat) (rb : Nat) (s : State) : exec (.shl u rd ra rb) s = execShl u rd ra rb s := rfl
@[simp] theorem exec_shr (u : Nat) (rd : Nat) (ra : Nat) (rb : Nat) (s : State) : exec (.shr u rd ra rb) s = execShr u rd ra rb s := rfl
@[simp] theorem exec_sra (u : Nat) (rd : Nat) (ra : Nat) (rb : Nat) (s : State) : exec (.sra u rd ra rb) s = execSra u rd ra rb s := rfl
@[simp] theorem exec_slt (u : Nat) (rd : Nat) (ra : Nat) (rb : Nat) (s : State) : exec (.slt u rd ra rb) s = execSlt u rd ra rb s := rfl
@[simp] theorem exec_addi (u : Nat) (rd : Nat) (ra : Nat) (imm : Nat) (s : State) : exec (.addi u rd ra imm) s = execAddi u rd ra imm s := rfl
@[simp] theorem exec_ori (u : Nat) (rd : Nat) (ra : Nat) (imm : Nat) (s : State) : exec (.ori u rd ra imm) s = execOri u rd ra imm s := rfl
@[simp] theorem exec_lui (u : Nat) (rd : Nat) (imm : Nat) (s : State) : exec (.lui u rd imm) s = execLui u rd imm s := rfl
@[simp] theorem exec_fadd (u : Nat) (rd : Nat) (ra : Nat) (rb : Nat) (p : Bool) (s : State) : exec (.fadd u rd ra rb p) s = execFadd u rd ra rb p s := rfl
@[simp] theorem exec_fsub (u : Nat) (rd : Nat) (ra : Nat) (rb : Nat) (p : Bool) (s : State) : exec (.fsub u rd ra rb p) s = execFsub u rd ra rb p s := rfl
@[simp] theorem exec_fmul (u : Nat) (rd : Nat) (ra : Nat) (rb : Nat) (p : Bool) (s : State) : exec (.fmul u rd ra rb p) s = execFmul u rd ra rb p s := rfl
@[simp] theorem exec_fdiv (u : Nat) (rd : Nat) (ra : Nat) (rb : Nat) (p : Bool) (s : State) : exec (.fdiv u rd ra rb p) s = execFdiv u rd ra rb p s := rfl
@[simp] theorem exec_fma (u : Nat) (rd : Nat) (ra : Nat) (rb : Nat) (p : Bool) (s : State) : exec (.fma u rd ra rb p) s = execFma u rd ra rb p s := rfl
@[simp] theorem exec_fsqrt (u : Nat) (rd : Nat) (ra : Nat) (p : Bool) (s : State) : exec (.fsqrt u rd ra p) s = execFsqrt u rd ra p s := rfl
@[simp] theorem exec_fminmax (u : Nat) (rd : Nat) (ra : Nat) (rb : Nat) (p : Bool) (mx : Bool) (s : State) : exec (.fminmax u rd ra rb p mx) s = execFminmax u rd ra rb p mx s := rfl
@[simp] theorem exec_fsgn (u : Nat) (rd : Nat) (ra : Nat) (rb : Nat) (p : Bool) (sel : Nat) (s : State) : exec (.fsgn u rd ra rb p sel) s = execFsgn u rd ra rb p sel s := rfl
@[simp] theorem exec_fcmp (u : Nat) (rd : Nat) (ra : Nat) (rb : Nat) (p : Bool) (sel : Nat) (s : State) : exec (.fcmp u rd ra rb p sel) s = execFcmp u rd ra rb p sel s := rfl
@[simp] theorem exec_fcvt (u : Nat) (rd : Nat) (ra : Nat) (sel : Nat) (s : State) : exec (.fcvt u rd ra sel) s = execFcvt u rd ra sel s := rfl
@[simp] theorem exec_fatan2 (u : Nat) (rd : Nat) (ra : Nat) (rb : Nat) (p : Bool) (s : State) : exec (.fatan2 u rd ra rb p) s = execFatan2 u rd ra rb p s := rfl
@[simp] theorem exec_fsincos (u : Nat) (rd : Nat) (ra : Nat) (p : Bool) (s : State) : exec (.fsincos u rd ra p) s = execFsincos u rd ra p s := rfl
@[simp] theorem exec_vadd (u : Nat) (vd : Nat) (va : Nat) (vb : Nat) (p : Bool) (s : State) : exec (.vadd u vd va vb p) s = execVadd u vd va vb p s := rfl
@[simp] theorem exec_vsub (u : Nat) (vd : Nat) (va : Nat) (vb : Nat) (p : Bool) (s : State) : exec (.vsub u vd va vb p) s = execVsub u vd va vb p s := rfl
@[simp] theorem exec_vmul (u : Nat) (vd : Nat) (va : Nat) (vb : Nat) (p : Bool) (s : State) : exec (.vmul u vd va vb p) s = execVmul u vd va vb p s := rfl
@[simp] theorem exec_vfma (u : Nat) (vd : Nat) (va : Nat) (vb : Nat) (p : Bool) (s : State) : exec (.vfma u vd va vb p) s = execVfma u vd va vb p s := rfl
@[simp] theorem exec_vcmac (u : Nat) (vd : Nat) (va : Nat) (vb : Nat) (p : Bool) (s : State) : exec (.vcmac u vd va vb p) s = execVcmac u vd va vb p s := rfl
@[simp] theorem exec_vsum (u : Nat) (va : Nat) (rs : Nat) (p : Bool) (s : State) : exec (.vsum u va rs p) s = execVsum u va rs p s := rfl
@[simp] theorem exec_vsplat (u : Nat) (vd : Nat) (rs : Nat) (p : Bool) (s : State) : exec (.vsplat u vd rs p) s = execVsplat u vd rs p s := rfl
@[simp] theorem exec_vext (u : Nat) (va : Nat) (rs : Nat) (p : Bool) (lane : Nat) (s : State) : exec (.vext u va rs p lane) s = execVext u va rs p lane s := rfl
@[simp] theorem exec_vld (u : Nat) (vd : Nat) (rs : Nat) (fn : Nat) (s : State) : exec (.vld u vd rs fn) s = execVld u vd rs fn s := rfl
@[simp] theorem exec_vst (u : Nat) (vd : Nat) (rs : Nat) (fn : Nat) (s : State) : exec (.vst u vd rs fn) s = execVst u vd rs fn s := rfl
@[simp] theorem exec_ld (u : Nat) (rd : Nat) (ra : Nat) (imm : Nat) (ecc : Nat) (word : Nat) (s : State) : exec (.ld u rd ra imm ecc word) s = execLd u rd ra imm ecc word s := rfl
@[simp] theorem exec_st (u : Nat) (rd : Nat) (ra : Nat) (imm : Nat) (s : State) : exec (.st u rd ra imm) s = execSt u rd ra imm s := rfl
@[simp] theorem exec_ldin (u : Nat) (rd : Nat) (ra : Nat) (imm : Nat) (s : State) : exec (.ldin u rd ra imm) s = execLdin u rd ra imm s := rfl
@[simp] theorem exec_ldss (u : Nat) (rd : Nat) (ra : Nat) (imm : Nat) (s : State) : exec (.ldss u rd ra imm) s = execLdss u rd ra imm s := rfl
@[simp] theorem exec_ldssDataArrive (u : Nat) (inst : Nat) (n : Nat) (s : State) : exec (.ldssDataArrive u inst n) s = execLdssDataArrive u inst n s := rfl
@[simp] theorem exec_ldfl (u : Nat) (rd : Nat) (ra : Nat) (imm : Nat) (s : State) : exec (.ldfl u rd ra imm) s = execLdfl u rd ra imm s := rfl
@[simp] theorem exec_ldsg (u : Nat) (rd : Nat) (imm : Nat) (s : State) : exec (.ldsg u rd imm) s = execLdsg u rd imm s := rfl
@[simp] theorem exec_out (u : Nat) (rd : Nat) (ra : Nat) (rb : Nat) (fn : Nat) (s : State) : exec (.out u rd ra rb fn) s = execOut u rd ra rb fn s := rfl
@[simp] theorem exec_ldtm (u : Nat) (rd : Nat) (fn : Nat) (s : State) : exec (.ldtm u rd fn) s = execLdtm u rd fn s := rfl
@[simp] theorem exec_beq (u : Nat) (ra : Nat) (rb : Nat) (off : Nat) (s : State) : exec (.beq u ra rb off) s = execBeq u ra rb off s := rfl
@[simp] theorem exec_bne (u : Nat) (ra : Nat) (rb : Nat) (off : Nat) (s : State) : exec (.bne u ra rb off) s = execBne u ra rb off s := rfl
@[simp] theorem exec_blt (u : Nat) (ra : Nat) (rb : Nat) (off : Nat) (s : State) : exec (.blt u ra rb off) s = execBlt u ra rb off s := rfl
@[simp] theorem exec_bge (u : Nat) (ra : Nat) (rb : Nat) (off : Nat) (s : State) : exec (.bge u ra rb off) s = execBge u ra rb off s := rfl
@[simp] theorem exec_jal (u : Nat) (rd : Nat) (off : Nat) (s : State) : exec (.jal u rd off) s = execJal u rd off s := rfl
@[simp] theorem exec_jalr (u : Nat) (rd : Nat) (ra : Nat) (imm : Nat) (s : State) : exec (.jalr u rd ra imm) s = execJalr u rd ra imm s := rfl
@[simp] theorem exec_endEval (u : Nat) (s : State) : exec (.endEval u) s = execEndEval u s := rfl
@[simp] theorem exec_sfb (u : Nat) (rd : Nat) (ra : Nat) (imm : Nat) (s : State) : exec (.sfb u rd ra imm) s = execSfb u rd ra imm s := rfl
@[simp] theorem exec_illegal (u : Nat) (s : State) : exec (.illegal u) s = execIllegal u s := rfl
@[simp] theorem exec_verdictReceive (t : Nat) (s : State) : exec (.verdictReceive t) s = execVerdictReceive t s := rfl
@[simp] theorem exec_replay (t : Nat) (s : State) : exec (.replay t) s = execReplay t s := rfl
@[simp] theorem exec_commitEvaluation (t : Nat) (s : State) : exec (.commitEvaluation t) s = execCommitEvaluation t s := rfl
@[simp] theorem exec_gooseRepeat (p : Nat) (s : State) : exec (.gooseRepeat p) s = execGooseRepeat p s := rfl
@[simp] theorem exec_evalLost (inst : Nat) (s : State) : exec (.evalLost inst) s = execEvalLost inst s := rfl
@[simp] theorem exec_farFixComplete (inst : Nat) (s : State) : exec (.farFixComplete inst) s = execFarFixComplete inst s := rfl
@[simp] theorem exec_farFixLate (inst : Nat) (s : State) : exec (.farFixLate inst) s = execFarFixLate inst s := rfl
@[simp] theorem exec_tileFailure (ts : List Nat) (s : State) : exec (.tileFailure ts) s = execTileFailure ts s := rfl
@[simp] theorem exec_spareLoadDone (t : Nat) (s : State) : exec (.spareLoadDone t) s = execSpareLoadDone t s := rfl
@[simp] theorem exec_fbDisable (src : Requester) (inst : Nat) (E : Nat) (s : State) : exec (.fbDisable src inst E) s = execFbDisable src inst E s := rfl
@[simp] theorem exec_fbEnable (src : Requester) (inst : Nat) (s : State) : exec (.fbEnable src inst) s = execFbEnable src inst s := rfl
@[simp] theorem exec_fbExchange (src : Requester) (sl : Nat) (old : Nat) (new : Nat) (m : Nat) (s : State) : exec (.fbExchange src sl old new m) s = execFbExchange src sl old new m s := rfl
@[simp] theorem exec_exchangeApply (inst : Nat) (s : State) : exec (.exchangeApply inst) s = execExchangeApply inst s := rfl
@[simp] theorem exec_tileMode (src : Requester) (l : Nat) (deep : Bool) (s : State) : exec (.tileMode src l deep) s = execTileMode src l deep s := rfl
@[simp] theorem exec_tileModeApply (t : Nat) (s : State) : exec (.tileModeApply t) s = execTileModeApply t s := rfl
@[simp] theorem exec_qclkWrite (q : Nat) (v : Nat) (s : State) : exec (.qclkWrite q v) s = execQclkWrite q v s := rfl
@[simp] theorem exec_admitStreams (src : Requester) (check : Bool) (s : State) : exec (.admitStreams src check) s = execAdmitStreams src check s := rfl
@[simp] theorem exec_admitInstanceSet (src : Requester) (sl : Nat) (e : Nat) (check : Bool) (deep : Bool) (s : State) : exec (.admitInstanceSet src sl e check deep) s = execAdmitInstanceSet src sl e check deep s := rfl
@[simp] theorem exec_admitPublications (src : Requester) (check : Bool) (s : State) : exec (.admitPublications src check) s = execAdmitPublications src check s := rfl
@[simp] theorem exec_admitScanProgram (src : Requester) (sl : Nat) (d : Nat) (check : Bool) (s : State) : exec (.admitScanProgram src sl d check) s = execAdmitScanProgram src sl d check s := rfl
@[simp] theorem exec_admitWithdrawSet (src : Requester) (sl : Nat) (e : Nat) (check : Bool) (s : State) : exec (.admitWithdrawSet src sl e check) s = execAdmitWithdrawSet src sl e check s := rfl
@[simp] theorem exec_admitWithdrawScan (src : Requester) (sl : Nat) (check : Bool) (s : State) : exec (.admitWithdrawScan src sl check) s = execAdmitWithdrawScan src sl check s := rfl
@[simp] theorem exec_admitQuadClock (src : Requester) (c : Nat) (q : Nat) (check : Bool) (s : State) : exec (.admitQuadClock src c q check) s = execAdmitQuadClock src c q check s := rfl
@[simp] theorem exec_admitFilterChains (src : Requester) (check : Bool) (s : State) : exec (.admitFilterChains src check) s = execAdmitFilterChains src check s := rfl
@[simp] theorem exec_admissionComputed (t : Nat) (s : State) : exec (.admissionComputed t) s = execAdmissionComputed t s := rfl
@[simp] theorem exec_admissionApply (s : State) : exec (.admissionApply) s = execAdmissionApply s := rfl
@[simp] theorem exec_bind (src : Requester) (sl : Nat) (s : State) : exec (.bind src sl) s = execBind src sl s := rfl
@[simp] theorem exec_unbind (src : Requester) (sl : Nat) (s : State) : exec (.unbind src sl) s = execUnbind src sl s := rfl
@[simp] theorem exec_reset (src : Requester) (sl : Nat) (full : Bool) (s : State) : exec (.reset src sl full) s = execReset src sl full s := rfl
@[simp] theorem exec_sliceResetDrained (sl : Nat) (s : State) : exec (.sliceResetDrained sl) s = execSliceResetDrained sl s := rfl
@[simp] theorem exec_freeze (src : Requester) (sl : Nat) (s : State) : exec (.freeze src sl) s = execFreeze src sl s := rfl
@[simp] theorem exec_freezeDrained (sl : Nat) (s : State) : exec (.freezeDrained sl) s = execFreezeDrained sl s := rfl
@[simp] theorem exec_thaw (src : Requester) (sl : Nat) (s : State) : exec (.thaw src sl) s = execThaw src sl s := rfl
@[simp] theorem exec_save (src : Requester) (sl : Nat) (s : State) : exec (.save src sl) s = execSave src sl s := rfl
@[simp] theorem exec_restore (src : Requester) (sl : Nat) (s : State) : exec (.restore src sl) s = execRestore src sl s := rfl
@[simp] theorem exec_rebind (src : Requester) (sl : Nat) (s : State) : exec (.rebind src sl) s = execRebind src sl s := rfl
@[simp] theorem exec_sqTail (sl : Nat) (b : Nat) (v : Nat) (s : State) : exec (.sqTail sl b v) s = execSqTail sl b v s := rfl
@[simp] theorem exec_cqHead (sl : Nat) (b : Nat) (v : Nat) (s : State) : exec (.cqHead sl b v) s = execCqHead sl b v s := rfl
@[simp] theorem exec_descriptorFetch (sl : Nat) (b : Nat) (bytes : Bytes) (s : State) : exec (.descriptorFetch sl b bytes) s = execDescriptorFetch sl b bytes s := rfl
@[simp] theorem exec_dmaReadCompletion (sl : Nat) (b : Nat) (idx : Nat) (gen : Nat) (data : Bytes) (s : State) : exec (.dmaReadCompletion sl b idx gen data) s = execDmaReadCompletion sl b idx gen data s := rfl
@[simp] theorem exec_dmaError (sl : Nat) (b : Nat) (idx : Nat) (gen : Nat) (info : Nat) (s : State) : exec (.dmaError sl b idx gen info) s = execDmaError sl b idx gen info s := rfl
@[simp] theorem exec_dmaTimeout (sl : Nat) (b : Nat) (idx : Nat) (gen : Nat) (s : State) : exec (.dmaTimeout sl b idx gen) s = execDmaTimeout sl b idx gen s := rfl
@[simp] theorem exec_sendComplete (sl : Nat) (b : Nat) (idx : Nat) (s : State) : exec (.sendComplete sl b idx) s = execSendComplete sl b idx s := rfl
@[simp] theorem exec_hostFrameDeliver (s : State) : exec (.hostFrameDeliver) s = execHostFrameDeliver s := rfl
@[simp] theorem exec_bobbinEnWrite (sl : Nat) (b : Nat) (en : Bool) (s : State) : exec (.bobbinEnWrite sl b en) s = execBobbinEnWrite sl b en s := rfl
@[simp] theorem exec_shareWrite (k : Nat) (sl : Nat) (v : Nat) (who : Nat) (s : State) : exec (.shareWrite k sl v who) s = execShareWrite k sl v who s := rfl
@[simp] theorem exec_grantWrite (sl : Nat) (g : Nat) (f : Nat) (v : Nat) (who : Nat) (s : State) : exec (.grantWrite sl g f v who) s = execGrantWrite sl g f v who s := rfl
@[simp] theorem exec_scanLatch (sl : Nat) (s : State) : exec (.scanLatch sl) s = execScanLatch sl s := rfl
@[simp] theorem exec_scanOverrun (sl : Nat) (s : State) : exec (.scanOverrun sl) s = execScanOverrun sl s := rfl
@[simp] theorem exec_scanAbandon (sl : Nat) (s : State) : exec (.scanAbandon sl) s = execScanAbandon sl s := rfl
@[simp] theorem exec_scanExchange (src : Requester) (sl : Nat) (d : Nat) (m : Nat) (s : State) : exec (.scanExchange src sl d m) s = execScanExchange src sl d m s := rfl
@[simp] theorem exec_scanExchangeApply (sl : Nat) (s : State) : exec (.scanExchangeApply sl) s = execScanExchangeApply sl s := rfl
@[simp] theorem exec_scanHold (src : Requester) (sl : Nat) (s : State) : exec (.scanHold src sl) s = execScanHold src sl s := rfl
@[simp] theorem exec_scanRun (src : Requester) (sl : Nat) (s : State) : exec (.scanRun src sl) s = execScanRun src sl s := rfl
@[simp] theorem exec_forceWrite (n : Nat) (enable : Option Bool) (v : Nat) (who : Nat) (s : State) : exec (.forceWrite n enable v who) s = execForceWrite n enable v who s := rfl
@[simp] theorem exec_capApply (src : Requester) (s : State) : exec (.capApply src) s = execCapApply src s := rfl
@[simp] theorem exec_capApplyTakeEffect (s : State) : exec (.capApplyTakeEffect) s = execCapApplyTakeEffect s := rfl
@[simp] theorem exec_capTrigger (src : Requester) (k : Nat) (s : State) : exec (.capTrigger src k) s = execCapTrigger src k s := rfl
@[simp] theorem exec_captureTick (k : Nat) (a : Nat) (s : State) : exec (.captureTick k a) s = execCaptureTick k a s := rfl
@[simp] theorem exec_triggerEdge (line : Nat) (rising : Bool) (t : Nat) (s : State) : exec (.triggerEdge line rising t) s = execTriggerEdge line rising t s := rfl
@[simp] theorem exec_captureFrameRx (s : State) : exec (.captureFrameRx) s = execCaptureFrameRx s := rfl
@[simp] theorem exec_xtrigPulseEnd (line : Nat) (s : State) : exec (.xtrigPulseEnd line) s = execXtrigPulseEnd line s := rfl
@[simp] theorem exec_captureFlushTimeout (k : Nat) (s : State) : exec (.captureFlushTimeout k) s = execCaptureFlushTimeout k s := rfl
@[simp] theorem exec_rateRestoreTimeout (k : Nat) (s : State) : exec (.rateRestoreTimeout k) s = execRateRestoreTimeout k s := rfl
@[simp] theorem exec_postTriggerHoldEnd (k : Nat) (s : State) : exec (.postTriggerHoldEnd k) s = execPostTriggerHoldEnd k s := rfl
@[simp] theorem exec_adcRequestDue (r : Nat) (t : Nat) (s : State) : exec (.adcRequestDue r t) s = execAdcRequestDue r t s := rfl
@[simp] theorem exec_adcStart (r : Nat) (s : State) : exec (.adcStart r) s = execAdcStart r s := rfl
@[simp] theorem exec_adcConversionDone (code : Nat) (ovr : Nat) (s : State) : exec (.adcConversionDone code ovr) s = execAdcConversionDone code ovr s := rfl
@[simp] theorem exec_adcResultRead (a : Access) (s : State) : exec (.adcResultRead a) s = execAdcResultRead a s := rfl
@[simp] theorem exec_adcPowerDown (s : State) : exec (.adcPowerDown) s = execAdcPowerDown s := rfl
@[simp] theorem exec_adcWakeDone (s : State) : exec (.adcWakeDone) s = execAdcWakeDone s := rfl
@[simp] theorem exec_adcTestStep (pos : Nat) (code : Option Nat) (s : State) : exec (.adcTestStep pos code) s = execAdcTestStep pos code s := rfl
@[simp] theorem exec_fanPeriodStart (k : Nat) (t : Nat) (s : State) : exec (.fanPeriodStart k t) s = execFanPeriodStart k t s := rfl
@[simp] theorem exec_bncGenesis (src : Requester) (s : State) : exec (.bncGenesis src) s = execBncGenesis src s := rfl
@[simp] theorem exec_bncImport (src : Requester) (s : State) : exec (.bncImport src) s = execBncImport src s := rfl
@[simp] theorem exec_bncDelete (src : Requester) (n : Nat) (s : State) : exec (.bncDelete src n) s = execBncDelete src n s := rfl
@[simp] theorem exec_bncInvalidate (src : Requester) (n : Nat) (s : State) : exec (.bncInvalidate src n) s = execBncInvalidate src n s := rfl
@[simp] theorem exec_bncAttest (src : Requester) (nonce : Bytes) (s : State) : exec (.bncAttest src nonce) s = execBncAttest src nonce s := rfl
@[simp] theorem exec_bncPrepareReseal (src : Requester) (s : State) : exec (.bncPrepareReseal src) s = execBncPrepareReseal src s := rfl
@[simp] theorem exec_bncUser (src : Requester) (s : State) : exec (.bncUser src) s = execBncUser src s := rfl
@[simp] theorem exec_bncPairRoll (src : Requester) (s : State) : exec (.bncPairRoll src) s = execBncPairRoll src s := rfl
@[simp] theorem exec_tagGen (req n alg len : Nat) (iv data : Bytes) (s : State) : exec (.tagGen req n alg len iv data) s = execTagGen req n alg len iv data s := rfl
@[simp] theorem exec_tagChk (req n alg len : Nat) (iv data tag : Bytes) (s : State) : exec (.tagChk req n alg len iv data tag) s = execTagChk req n alg len iv data tag s := rfl
@[simp] theorem exec_sign (req n : Nat) (msg : Bytes) (s : State) : exec (.sign req n msg) s = execSign req n msg s := rfl
@[simp] theorem exec_verify (req n : Nat) (digest sig : Bytes) (s : State) : exec (.verify req n digest sig) s = execVerify req n digest sig s := rfl
@[simp] theorem exec_sealOp (req n : Nat) (nonce aad data : Bytes) (s : State) : exec (.sealOp req n nonce aad data) s = execSealOp req n nonce aad data s := rfl
@[simp] theorem exec_openOp (req n : Nat) (nonce aad data : Bytes) (s : State) : exec (.openOp req n nonce aad data) s = execOpenOp req n nonce aad data s := rfl
@[simp] theorem exec_agree (req n : Nat) (clientPub clientNonce moduleNonce : Bytes) (s : State) : exec (.agree req n clientPub clientNonce moduleNonce) s = execAgree req n clientPub clientNonce moduleNonce s := rfl
@[simp] theorem exec_measurementExtend (d : Bytes) (s : State) : exec (.measurementExtend d) s = execMeasurementExtend d s := rfl
@[simp] theorem exec_journalCommitDone (ok : Bool) (s : State) : exec (.journalCommitDone ok) s = execJournalCommitDone ok s := rfl
@[simp] theorem exec_tamper (which : Nat) (s : State) : exec (.tamper which) s = execTamper which s := rfl
@[simp] theorem exec_supplyValid (t : Nat) (lost : Bool) (s : State) : exec (.supplyValid t lost) s = execSupplyValid t lost s := rfl
@[simp] theorem exec_powerGood (d : Nat) (t : Nat) (fails : List BootFail) (s : State) : exec (.powerGood d t fails) s = execPowerGood d t fails s := rfl
@[simp] theorem exec_settingsApply (t : Nat) (s : State) : exec (.settingsApply t) s = execSettingsApply t s := rfl
@[simp] theorem exec_readmissionStart (t : Nat) (s : State) : exec (.readmissionStart t) s = execReadmissionStart t s := rfl
@[simp] theorem exec_hostLinkTrained (link : Nat) (t : Nat) (s : State) : exec (.hostLinkTrained link t) s = execHostLinkTrained link t s := rfl
@[simp] theorem exec_warmReset (src : Requester) (s : State) : exec (.warmReset src) s = execWarmReset src s := rfl
@[simp] theorem exec_controlProcessorReset (src : Requester) (s : State) : exec (.controlProcessorReset src) s = execControlProcessorReset src s := rfl
@[simp] theorem exec_portGroupReset (src : Requester) (g : Nat) (s : State) : exec (.portGroupReset src g) s = execPortGroupReset src g s := rfl
@[simp] theorem exec_watchdogExpiry (t : Nat) (s : State) : exec (.watchdogExpiry t) s = execWatchdogExpiry t s := rfl
@[simp] theorem exec_wheelhouseResume (t : Nat) (s : State) : exec (.wheelhouseResume t) s = execWheelhouseResume t s := rfl
@[simp] theorem exec_hostLinkReset (link : Nat) (t : Nat) (s : State) : exec (.hostLinkReset link t) s = execHostLinkReset link t s := rfl
@[simp] theorem exec_brownout (t : Nat) (s : State) : exec (.brownout t) s = execBrownout t s := rfl
@[simp] theorem exec_supplyReturn (t : Nat) (s : State) : exec (.supplyReturn t) s = execSupplyReturn t s := rfl
@[simp] theorem exec_shutdown (t : Nat) (s : State) : exec (.shutdown t) s = execShutdown t s := rfl
@[simp] theorem exec_holdupCharged (t : Nat) (s : State) : exec (.holdupCharged t) s = execHoldupCharged t s := rfl
@[simp] theorem exec_updInstall (src : Requester) (s : State) : exec (.updInstall src) s = execUpdInstall src s := rfl
@[simp] theorem exec_updActivate (src : Requester) (ok : Bool) (s : State) : exec (.updActivate src ok) s = execUpdActivate src ok s := rfl
@[simp] theorem exec_updConfirm (src : Requester) (ok : Bool) (s : State) : exec (.updConfirm src ok) s = execUpdConfirm src ok s := rfl
@[simp] theorem exec_updRevert (src : Requester) (ok : Bool) (s : State) : exec (.updRevert src ok) s = execUpdRevert src ok s := rfl
@[simp] theorem exec_updDiscard (src : Requester) (s : State) : exec (.updDiscard src) s = execUpdDiscard src s := rfl
@[simp] theorem exec_updSetLoad (src : Requester) (ok : Bool) (s : State) : exec (.updSetLoad src ok) s = execUpdSetLoad src ok s := rfl
@[simp] theorem exec_updSetDefaults (src : Requester) (ok : Bool) (s : State) : exec (.updSetDefaults src ok) s = execUpdSetDefaults src ok s := rfl
@[simp] theorem exec_stageExpiry (s : State) : exec (.stageExpiry) s = execStageExpiry s := rfl
@[simp] theorem exec_autoConfirm (s : State) : exec (.autoConfirm) s = execAutoConfirm s := rfl
@[simp] theorem exec_settingsWrite (ok : Bool) (s : State) : exec (.settingsWrite ok) s = execSettingsWrite ok s := rfl
@[simp] theorem exec_recoveryPackage (bytes : Bytes) (s : State) : exec (.recoveryPackage bytes) s = execRecoveryPackage bytes s := rfl
@[simp] theorem exec_scrubPass (hits : List EccHit) (s : State) : exec (.scrubPass hits) s = execScrubPass hits s := rfl
@[simp] theorem exec_soundingStep (u : Blk) (aborted : Bool) (fails : List BootFail) (last : Bool) (s : State) : exec (.soundingStep u aborted fails last) s = execSoundingStep u aborted fails last s := rfl
@[simp] theorem exec_sndPass (src : Requester) (s : State) : exec (.sndPass src) s = execSndPass src s := rfl
@[simp] theorem exec_sndClearMap (src : Requester) (s : State) : exec (.sndClearMap src) s = execSndClearMap src s := rfl
@[simp] theorem exec_logRecordWrite (ok : Bool) (s : State) : exec (.logRecordWrite ok) s = execLogRecordWrite ok s := rfl
@[simp] theorem exec_logClear (src : Requester) (scope : Nat) (s : State) : exec (.logClear src scope) s = execLogClear src scope s := rfl
@[simp] theorem exec_logApply (src : Requester) (s : State) : exec (.logApply src) s = execLogApply src s := rfl
@[simp] theorem exec_vbatLowChange (low : Bool) (s : State) : exec (.vbatLowChange low) s = execVbatLowChange low s := rfl
@[simp] theorem exec_dieTempChange (hot : Bool) (s : State) : exec (.dieTempChange hot) s = execDieTempChange hot s := rfl
@[simp] theorem exec_thermalShutdown (t : Nat) (s : State) : exec (.thermalShutdown t) s = execThermalShutdown t s := rfl
@[simp] theorem exec_thermalRestart (s : State) : exec (.thermalRestart) s = execThermalRestart s := rfl
@[simp] theorem exec_maxAmbientWrite (v : Nat) (s : State) : exec (.maxAmbientWrite v) s = execMaxAmbientWrite v s := rfl
@[simp] theorem exec_installComplete (ok : Bool) (s : State) : exec (.installComplete ok) s = execInstallComplete ok s := rfl
@[simp] theorem exec_logClearComplete (s : State) : exec (.logClearComplete) s = execLogClearComplete s := rfl
@[simp] theorem exec_programReloadComplete (t : Nat) (ty : Nat) (s : State) : exec (.programReloadComplete t ty) s = execProgramReloadComplete t ty s := rfl
@[simp] theorem exec_firmwareRegionEccError (word : Nat) (s : State) : exec (.firmwareRegionEccError word) s = execFirmwareRegionEccError word s := rfl

end Sys2Proof.Machine
end

