-- ==== Sys2Proof/Laws/State.lean ====
section
/-!
SUPPORT. What each plain update of the state leaves alone: one equation per update and field, so that no proof unfolds a
record update.
-/

namespace Sys2Proof.Machine

@[simp] theorem State.wr_pending (s : State) (f : Fld) (i v : Nat) : (s.wr f i v).pending = s.pending := rfl
@[simp] theorem State.wr_mono (s : State) (f : Fld) (i v : Nat) : (s.wr f i v).mono = s.mono := rfl
@[simp] theorem State.wr_opBase (s : State) (f : Fld) (i v : Nat) : (s.wr f i v).opBase = s.opBase := rfl
@[simp] theorem State.wr_ident (s : State) (f : Fld) (i v : Nat) : (s.wr f i v).ident = s.ident := rfl
@[simp] theorem State.wr_hif (s : State) (f : Fld) (i v : Nat) : (s.wr f i v).hif = s.hif := rfl
@[simp] theorem State.wr_wh (s : State) (f : Fld) (i v : Nat) : (s.wr f i v).wh = s.wh := rfl
@[simp] theorem State.wr_stx (s : State) (f : Fld) (i v : Nat) : (s.wr f i v).stx = s.stx := rfl
@[simp] theorem State.wr_log (s : State) (f : Fld) (i v : Nat) : (s.wr f i v).log = s.log := rfl
@[simp] theorem State.wr_net (s : State) (f : Fld) (i v : Nat) : (s.wr f i v).net = s.net := rfl
@[simp] theorem State.wr_red (s : State) (f : Fld) (i v : Nat) : (s.wr f i v).red = s.red := rfl
@[simp] theorem State.wr_sv (s : State) (f : Fld) (i v : Nat) : (s.wr f i v).sv = s.sv := rfl
@[simp] theorem State.wr_tor (s : State) (f : Fld) (i v : Nat) : (s.wr f i v).tor = s.tor := rfl
@[simp] theorem State.wr_scan (s : State) (f : Fld) (i v : Nat) : (s.wr f i v).scan = s.scan := rfl
@[simp] theorem State.wr_slices (s : State) (f : Fld) (i v : Nat) : (s.wr f i v).slices = s.slices := rfl
@[simp] theorem State.wr_bnc (s : State) (f : Fld) (i v : Nat) : (s.wr f i v).bnc = s.bnc := rfl
@[simp] theorem State.wr_cap (s : State) (f : Fld) (i v : Nat) : (s.wr f i v).cap = s.cap := rfl
@[simp] theorem State.wr_adc (s : State) (f : Fld) (i v : Nat) : (s.wr f i v).adc = s.adc := rfl
@[simp] theorem State.wr_pwr (s : State) (f : Fld) (i v : Nat) : (s.wr f i v).pwr = s.pwr := rfl
@[simp] theorem State.wr_upd (s : State) (f : Fld) (i v : Nat) : (s.wr f i v).upd = s.upd := rfl
@[simp] theorem State.wr_snd (s : State) (f : Fld) (i v : Nat) : (s.wr f i v).snd = s.snd := rfl
@[simp] theorem State.wr_out (s : State) (f : Fld) (i v : Nat) : (s.wr f i v).out = s.out := rfl
@[simp] theorem State.wr_freeTick (s : State) (f : Fld) (i v : Nat) : (s.wr f i v).freeTick = s.freeTick := rfl

@[simp] theorem State.wrFlag_pending (s : State) (f : Fld) (i : Nat) (b : Bool) : (s.wrFlag f i b).pending = s.pending := rfl
@[simp] theorem State.wrFlag_mono (s : State) (f : Fld) (i : Nat) (b : Bool) : (s.wrFlag f i b).mono = s.mono := rfl
@[simp] theorem State.wrFlag_opBase (s : State) (f : Fld) (i : Nat) (b : Bool) : (s.wrFlag f i b).opBase = s.opBase := rfl
@[simp] theorem State.wrFlag_ident (s : State) (f : Fld) (i : Nat) (b : Bool) : (s.wrFlag f i b).ident = s.ident := rfl
@[simp] theorem State.wrFlag_hif (s : State) (f : Fld) (i : Nat) (b : Bool) : (s.wrFlag f i b).hif = s.hif := rfl
@[simp] theorem State.wrFlag_wh (s : State) (f : Fld) (i : Nat) (b : Bool) : (s.wrFlag f i b).wh = s.wh := rfl
@[simp] theorem State.wrFlag_stx (s : State) (f : Fld) (i : Nat) (b : Bool) : (s.wrFlag f i b).stx = s.stx := rfl
@[simp] theorem State.wrFlag_log (s : State) (f : Fld) (i : Nat) (b : Bool) : (s.wrFlag f i b).log = s.log := rfl
@[simp] theorem State.wrFlag_net (s : State) (f : Fld) (i : Nat) (b : Bool) : (s.wrFlag f i b).net = s.net := rfl
@[simp] theorem State.wrFlag_red (s : State) (f : Fld) (i : Nat) (b : Bool) : (s.wrFlag f i b).red = s.red := rfl
@[simp] theorem State.wrFlag_sv (s : State) (f : Fld) (i : Nat) (b : Bool) : (s.wrFlag f i b).sv = s.sv := rfl
@[simp] theorem State.wrFlag_tor (s : State) (f : Fld) (i : Nat) (b : Bool) : (s.wrFlag f i b).tor = s.tor := rfl
@[simp] theorem State.wrFlag_scan (s : State) (f : Fld) (i : Nat) (b : Bool) : (s.wrFlag f i b).scan = s.scan := rfl
@[simp] theorem State.wrFlag_slices (s : State) (f : Fld) (i : Nat) (b : Bool) : (s.wrFlag f i b).slices = s.slices := rfl
@[simp] theorem State.wrFlag_bnc (s : State) (f : Fld) (i : Nat) (b : Bool) : (s.wrFlag f i b).bnc = s.bnc := rfl
@[simp] theorem State.wrFlag_cap (s : State) (f : Fld) (i : Nat) (b : Bool) : (s.wrFlag f i b).cap = s.cap := rfl
@[simp] theorem State.wrFlag_adc (s : State) (f : Fld) (i : Nat) (b : Bool) : (s.wrFlag f i b).adc = s.adc := rfl
@[simp] theorem State.wrFlag_pwr (s : State) (f : Fld) (i : Nat) (b : Bool) : (s.wrFlag f i b).pwr = s.pwr := rfl
@[simp] theorem State.wrFlag_upd (s : State) (f : Fld) (i : Nat) (b : Bool) : (s.wrFlag f i b).upd = s.upd := rfl
@[simp] theorem State.wrFlag_snd (s : State) (f : Fld) (i : Nat) (b : Bool) : (s.wrFlag f i b).snd = s.snd := rfl
@[simp] theorem State.wrFlag_out (s : State) (f : Fld) (i : Nat) (b : Bool) : (s.wrFlag f i b).out = s.out := rfl
@[simp] theorem State.wrFlag_freeTick (s : State) (f : Fld) (i : Nat) (b : Bool) : (s.wrFlag f i b).freeTick = s.freeTick := rfl

@[simp] theorem State.count_pending (s : State) (f : Fld) (i n : Nat) : (s.count f i n).pending = s.pending := rfl
@[simp] theorem State.count_mono (s : State) (f : Fld) (i n : Nat) : (s.count f i n).mono = s.mono := rfl
@[simp] theorem State.count_opBase (s : State) (f : Fld) (i n : Nat) : (s.count f i n).opBase = s.opBase := rfl
@[simp] theorem State.count_ident (s : State) (f : Fld) (i n : Nat) : (s.count f i n).ident = s.ident := rfl
@[simp] theorem State.count_hif (s : State) (f : Fld) (i n : Nat) : (s.count f i n).hif = s.hif := rfl
@[simp] theorem State.count_wh (s : State) (f : Fld) (i n : Nat) : (s.count f i n).wh = s.wh := rfl
@[simp] theorem State.count_stx (s : State) (f : Fld) (i n : Nat) : (s.count f i n).stx = s.stx := rfl
@[simp] theorem State.count_log (s : State) (f : Fld) (i n : Nat) : (s.count f i n).log = s.log := rfl
@[simp] theorem State.count_net (s : State) (f : Fld) (i n : Nat) : (s.count f i n).net = s.net := rfl
@[simp] theorem State.count_red (s : State) (f : Fld) (i n : Nat) : (s.count f i n).red = s.red := rfl
@[simp] theorem State.count_sv (s : State) (f : Fld) (i n : Nat) : (s.count f i n).sv = s.sv := rfl
@[simp] theorem State.count_tor (s : State) (f : Fld) (i n : Nat) : (s.count f i n).tor = s.tor := rfl
@[simp] theorem State.count_scan (s : State) (f : Fld) (i n : Nat) : (s.count f i n).scan = s.scan := rfl
@[simp] theorem State.count_slices (s : State) (f : Fld) (i n : Nat) : (s.count f i n).slices = s.slices := rfl
@[simp] theorem State.count_bnc (s : State) (f : Fld) (i n : Nat) : (s.count f i n).bnc = s.bnc := rfl
@[simp] theorem State.count_cap (s : State) (f : Fld) (i n : Nat) : (s.count f i n).cap = s.cap := rfl
@[simp] theorem State.count_adc (s : State) (f : Fld) (i n : Nat) : (s.count f i n).adc = s.adc := rfl
@[simp] theorem State.count_pwr (s : State) (f : Fld) (i n : Nat) : (s.count f i n).pwr = s.pwr := rfl
@[simp] theorem State.count_upd (s : State) (f : Fld) (i n : Nat) : (s.count f i n).upd = s.upd := rfl
@[simp] theorem State.count_snd (s : State) (f : Fld) (i n : Nat) : (s.count f i n).snd = s.snd := rfl
@[simp] theorem State.count_out (s : State) (f : Fld) (i n : Nat) : (s.count f i n).out = s.out := rfl
@[simp] theorem State.count_freeTick (s : State) (f : Fld) (i n : Nat) : (s.count f i n).freeTick = s.freeTick := rfl

@[simp] theorem State.advance_pending (s : State) (t : Nat) : (s.advance t).pending = s.pending := rfl
@[simp] theorem State.advance_opBase (s : State) (t : Nat) : (s.advance t).opBase = s.opBase := rfl
@[simp] theorem State.advance_ident (s : State) (t : Nat) : (s.advance t).ident = s.ident := rfl
@[simp] theorem State.advance_regs (s : State) (t : Nat) : (s.advance t).regs = s.regs := rfl
@[simp] theorem State.advance_hif (s : State) (t : Nat) : (s.advance t).hif = s.hif := rfl
@[simp] theorem State.advance_wh (s : State) (t : Nat) : (s.advance t).wh = s.wh := rfl
@[simp] theorem State.advance_stx (s : State) (t : Nat) : (s.advance t).stx = s.stx := rfl
@[simp] theorem State.advance_log (s : State) (t : Nat) : (s.advance t).log = s.log := rfl
@[simp] theorem State.advance_net (s : State) (t : Nat) : (s.advance t).net = s.net := rfl
@[simp] theorem State.advance_red (s : State) (t : Nat) : (s.advance t).red = s.red := rfl
@[simp] theorem State.advance_sv (s : State) (t : Nat) : (s.advance t).sv = s.sv := rfl
@[simp] theorem State.advance_tor (s : State) (t : Nat) : (s.advance t).tor = s.tor := rfl
@[simp] theorem State.advance_scan (s : State) (t : Nat) : (s.advance t).scan = s.scan := rfl
@[simp] theorem State.advance_slices (s : State) (t : Nat) : (s.advance t).slices = s.slices := rfl
@[simp] theorem State.advance_bnc (s : State) (t : Nat) : (s.advance t).bnc = s.bnc := rfl
@[simp] theorem State.advance_cap (s : State) (t : Nat) : (s.advance t).cap = s.cap := rfl
@[simp] theorem State.advance_adc (s : State) (t : Nat) : (s.advance t).adc = s.adc := rfl
@[simp] theorem State.advance_pwr (s : State) (t : Nat) : (s.advance t).pwr = s.pwr := rfl
@[simp] theorem State.advance_upd (s : State) (t : Nat) : (s.advance t).upd = s.upd := rfl
@[simp] theorem State.advance_snd (s : State) (t : Nat) : (s.advance t).snd = s.snd := rfl
@[simp] theorem State.advance_out (s : State) (t : Nat) : (s.advance t).out = s.out := rfl
@[simp] theorem State.advance_freeTick (s : State) (t : Nat) : (s.advance t).freeTick = s.freeTick := rfl

@[simp] theorem State.emit_pending (s : State) (o : Output) : (s.emit o).pending = s.pending := rfl
@[simp] theorem State.emit_mono (s : State) (o : Output) : (s.emit o).mono = s.mono := rfl
@[simp] theorem State.emit_opBase (s : State) (o : Output) : (s.emit o).opBase = s.opBase := rfl
@[simp] theorem State.emit_ident (s : State) (o : Output) : (s.emit o).ident = s.ident := rfl
@[simp] theorem State.emit_regs (s : State) (o : Output) : (s.emit o).regs = s.regs := rfl
@[simp] theorem State.emit_hif (s : State) (o : Output) : (s.emit o).hif = s.hif := rfl
@[simp] theorem State.emit_wh (s : State) (o : Output) : (s.emit o).wh = s.wh := rfl
@[simp] theorem State.emit_stx (s : State) (o : Output) : (s.emit o).stx = s.stx := rfl
@[simp] theorem State.emit_log (s : State) (o : Output) : (s.emit o).log = s.log := rfl
@[simp] theorem State.emit_net (s : State) (o : Output) : (s.emit o).net = s.net := rfl
@[simp] theorem State.emit_red (s : State) (o : Output) : (s.emit o).red = s.red := rfl
@[simp] theorem State.emit_sv (s : State) (o : Output) : (s.emit o).sv = s.sv := rfl
@[simp] theorem State.emit_tor (s : State) (o : Output) : (s.emit o).tor = s.tor := rfl
@[simp] theorem State.emit_scan (s : State) (o : Output) : (s.emit o).scan = s.scan := rfl
@[simp] theorem State.emit_slices (s : State) (o : Output) : (s.emit o).slices = s.slices := rfl
@[simp] theorem State.emit_bnc (s : State) (o : Output) : (s.emit o).bnc = s.bnc := rfl
@[simp] theorem State.emit_cap (s : State) (o : Output) : (s.emit o).cap = s.cap := rfl
@[simp] theorem State.emit_adc (s : State) (o : Output) : (s.emit o).adc = s.adc := rfl
@[simp] theorem State.emit_pwr (s : State) (o : Output) : (s.emit o).pwr = s.pwr := rfl
@[simp] theorem State.emit_upd (s : State) (o : Output) : (s.emit o).upd = s.upd := rfl
@[simp] theorem State.emit_snd (s : State) (o : Output) : (s.emit o).snd = s.snd := rfl
@[simp] theorem State.emit_freeTick (s : State) (o : Output) : (s.emit o).freeTick = s.freeTick := rfl

@[simp] theorem State.countStatus_pending (s : State) (ii ss : Nat) : (s.countStatus ii ss).pending = s.pending := rfl
@[simp] theorem State.countStatus_mono (s : State) (ii ss : Nat) : (s.countStatus ii ss).mono = s.mono := rfl
@[simp] theorem State.countStatus_opBase (s : State) (ii ss : Nat) : (s.countStatus ii ss).opBase = s.opBase := rfl
@[simp] theorem State.countStatus_ident (s : State) (ii ss : Nat) : (s.countStatus ii ss).ident = s.ident := rfl
@[simp] theorem State.countStatus_regs (s : State) (ii ss : Nat) : (s.countStatus ii ss).regs = s.regs := rfl
@[simp] theorem State.countStatus_hif (s : State) (ii ss : Nat) : (s.countStatus ii ss).hif = s.hif := rfl
@[simp] theorem State.countStatus_stx (s : State) (ii ss : Nat) : (s.countStatus ii ss).stx = s.stx := rfl
@[simp] theorem State.countStatus_log (s : State) (ii ss : Nat) : (s.countStatus ii ss).log = s.log := rfl
@[simp] theorem State.countStatus_net (s : State) (ii ss : Nat) : (s.countStatus ii ss).net = s.net := rfl
@[simp] theorem State.countStatus_red (s : State) (ii ss : Nat) : (s.countStatus ii ss).red = s.red := rfl
@[simp] theorem State.countStatus_sv (s : State) (ii ss : Nat) : (s.countStatus ii ss).sv = s.sv := rfl
@[simp] theorem State.countStatus_tor (s : State) (ii ss : Nat) : (s.countStatus ii ss).tor = s.tor := rfl
@[simp] theorem State.countStatus_scan (s : State) (ii ss : Nat) : (s.countStatus ii ss).scan = s.scan := rfl
@[simp] theorem State.countStatus_slices (s : State) (ii ss : Nat) : (s.countStatus ii ss).slices = s.slices := rfl
@[simp] theorem State.countStatus_bnc (s : State) (ii ss : Nat) : (s.countStatus ii ss).bnc = s.bnc := rfl
@[simp] theorem State.countStatus_cap (s : State) (ii ss : Nat) : (s.countStatus ii ss).cap = s.cap := rfl
@[simp] theorem State.countStatus_adc (s : State) (ii ss : Nat) : (s.countStatus ii ss).adc = s.adc := rfl
@[simp] theorem State.countStatus_pwr (s : State) (ii ss : Nat) : (s.countStatus ii ss).pwr = s.pwr := rfl
@[simp] theorem State.countStatus_upd (s : State) (ii ss : Nat) : (s.countStatus ii ss).upd = s.upd := rfl
@[simp] theorem State.countStatus_snd (s : State) (ii ss : Nat) : (s.countStatus ii ss).snd = s.snd := rfl
@[simp] theorem State.countStatus_out (s : State) (ii ss : Nat) : (s.countStatus ii ss).out = s.out := rfl
@[simp] theorem State.countStatus_freeTick (s : State) (ii ss : Nat) : (s.countStatus ii ss).freeTick = s.freeTick := rfl

@[simp] theorem State.ringCompletion_pending (s : State) (h st r : Nat) : (s.ringCompletion h st r).pending = s.pending := rfl
@[simp] theorem State.ringCompletion_mono (s : State) (h st r : Nat) : (s.ringCompletion h st r).mono = s.mono := rfl
@[simp] theorem State.ringCompletion_opBase (s : State) (h st r : Nat) : (s.ringCompletion h st r).opBase = s.opBase := rfl
@[simp] theorem State.ringCompletion_ident (s : State) (h st r : Nat) : (s.ringCompletion h st r).ident = s.ident := rfl
@[simp] theorem State.ringCompletion_regs (s : State) (h st r : Nat) : (s.ringCompletion h st r).regs = s.regs := rfl
@[simp] theorem State.ringCompletion_hif (s : State) (h st r : Nat) : (s.ringCompletion h st r).hif = s.hif := rfl
@[simp] theorem State.ringCompletion_stx (s : State) (h st r : Nat) : (s.ringCompletion h st r).stx = s.stx := rfl
@[simp] theorem State.ringCompletion_log (s : State) (h st r : Nat) : (s.ringCompletion h st r).log = s.log := rfl
@[simp] theorem State.ringCompletion_net (s : State) (h st r : Nat) : (s.ringCompletion h st r).net = s.net := rfl
@[simp] theorem State.ringCompletion_red (s : State) (h st r : Nat) : (s.ringCompletion h st r).red = s.red := rfl
@[simp] theorem State.ringCompletion_sv (s : State) (h st r : Nat) : (s.ringCompletion h st r).sv = s.sv := rfl
@[simp] theorem State.ringCompletion_tor (s : State) (h st r : Nat) : (s.ringCompletion h st r).tor = s.tor := rfl
@[simp] theorem State.ringCompletion_scan (s : State) (h st r : Nat) : (s.ringCompletion h st r).scan = s.scan := rfl
@[simp] theorem State.ringCompletion_slices (s : State) (h st r : Nat) : (s.ringCompletion h st r).slices = s.slices := rfl
@[simp] theorem State.ringCompletion_bnc (s : State) (h st r : Nat) : (s.ringCompletion h st r).bnc = s.bnc := rfl
@[simp] theorem State.ringCompletion_cap (s : State) (h st r : Nat) : (s.ringCompletion h st r).cap = s.cap := rfl
@[simp] theorem State.ringCompletion_adc (s : State) (h st r : Nat) : (s.ringCompletion h st r).adc = s.adc := rfl
@[simp] theorem State.ringCompletion_pwr (s : State) (h st r : Nat) : (s.ringCompletion h st r).pwr = s.pwr := rfl
@[simp] theorem State.ringCompletion_upd (s : State) (h st r : Nat) : (s.ringCompletion h st r).upd = s.upd := rfl
@[simp] theorem State.ringCompletion_snd (s : State) (h st r : Nat) : (s.ringCompletion h st r).snd = s.snd := rfl
@[simp] theorem State.ringCompletion_out (s : State) (h st r : Nat) : (s.ringCompletion h st r).out = s.out := rfl
@[simp] theorem State.ringCompletion_freeTick (s : State) (h st r : Nat) : (s.ringCompletion h st r).freeTick = s.freeTick := rfl

@[simp] theorem State.clampReport_pending (s : State) (r o w a c : Nat) : (s.clampReport r o w a c).pending = s.pending := rfl
@[simp] theorem State.clampReport_mono (s : State) (r o w a c : Nat) : (s.clampReport r o w a c).mono = s.mono := rfl
@[simp] theorem State.clampReport_opBase (s : State) (r o w a c : Nat) : (s.clampReport r o w a c).opBase = s.opBase := rfl
@[simp] theorem State.clampReport_ident (s : State) (r o w a c : Nat) : (s.clampReport r o w a c).ident = s.ident := rfl
@[simp] theorem State.clampReport_regs (s : State) (r o w a c : Nat) : (s.clampReport r o w a c).regs = s.regs := rfl
@[simp] theorem State.clampReport_hif (s : State) (r o w a c : Nat) : (s.clampReport r o w a c).hif = s.hif := rfl
@[simp] theorem State.clampReport_stx (s : State) (r o w a c : Nat) : (s.clampReport r o w a c).stx = s.stx := rfl
@[simp] theorem State.clampReport_log (s : State) (r o w a c : Nat) : (s.clampReport r o w a c).log = s.log := rfl
@[simp] theorem State.clampReport_net (s : State) (r o w a c : Nat) : (s.clampReport r o w a c).net = s.net := rfl
@[simp] theorem State.clampReport_red (s : State) (r o w a c : Nat) : (s.clampReport r o w a c).red = s.red := rfl
@[simp] theorem State.clampReport_sv (s : State) (r o w a c : Nat) : (s.clampReport r o w a c).sv = s.sv := rfl
@[simp] theorem State.clampReport_tor (s : State) (r o w a c : Nat) : (s.clampReport r o w a c).tor = s.tor := rfl
@[simp] theorem State.clampReport_scan (s : State) (r o w a c : Nat) : (s.clampReport r o w a c).scan = s.scan := rfl
@[simp] theorem State.clampReport_slices (s : State) (r o w a c : Nat) : (s.clampReport r o w a c).slices = s.slices := rfl
@[simp] theorem State.clampReport_bnc (s : State) (r o w a c : Nat) : (s.clampReport r o w a c).bnc = s.bnc := rfl
@[simp] theorem State.clampReport_cap (s : State) (r o w a c : Nat) : (s.clampReport r o w a c).cap = s.cap := rfl
@[simp] theorem State.clampReport_adc (s : State) (r o w a c : Nat) : (s.clampReport r o w a c).adc = s.adc := rfl
@[simp] theorem State.clampReport_pwr (s : State) (r o w a c : Nat) : (s.clampReport r o w a c).pwr = s.pwr := rfl
@[simp] theorem State.clampReport_upd (s : State) (r o w a c : Nat) : (s.clampReport r o w a c).upd = s.upd := rfl
@[simp] theorem State.clampReport_snd (s : State) (r o w a c : Nat) : (s.clampReport r o w a c).snd = s.snd := rfl
@[simp] theorem State.clampReport_out (s : State) (r o w a c : Nat) : (s.clampReport r o w a c).out = s.out := rfl
@[simp] theorem State.clampReport_freeTick (s : State) (r o w a c : Nat) : (s.clampReport r o w a c).freeTick = s.freeTick := rfl

@[simp] theorem State.setDomain_pending (s : State) (x y : Nat) (d : Domain) : (s.setDomain x y d).pending = s.pending := rfl
@[simp] theorem State.setDomain_mono (s : State) (x y : Nat) (d : Domain) : (s.setDomain x y d).mono = s.mono := rfl
@[simp] theorem State.setDomain_opBase (s : State) (x y : Nat) (d : Domain) : (s.setDomain x y d).opBase = s.opBase := rfl
@[simp] theorem State.setDomain_ident (s : State) (x y : Nat) (d : Domain) : (s.setDomain x y d).ident = s.ident := rfl
@[simp] theorem State.setDomain_regs (s : State) (x y : Nat) (d : Domain) : (s.setDomain x y d).regs = s.regs := rfl
@[simp] theorem State.setDomain_hif (s : State) (x y : Nat) (d : Domain) : (s.setDomain x y d).hif = s.hif := rfl
@[simp] theorem State.setDomain_stx (s : State) (x y : Nat) (d : Domain) : (s.setDomain x y d).stx = s.stx := rfl
@[simp] theorem State.setDomain_log (s : State) (x y : Nat) (d : Domain) : (s.setDomain x y d).log = s.log := rfl
@[simp] theorem State.setDomain_net (s : State) (x y : Nat) (d : Domain) : (s.setDomain x y d).net = s.net := rfl
@[simp] theorem State.setDomain_red (s : State) (x y : Nat) (d : Domain) : (s.setDomain x y d).red = s.red := rfl
@[simp] theorem State.setDomain_sv (s : State) (x y : Nat) (d : Domain) : (s.setDomain x y d).sv = s.sv := rfl
@[simp] theorem State.setDomain_tor (s : State) (x y : Nat) (d : Domain) : (s.setDomain x y d).tor = s.tor := rfl
@[simp] theorem State.setDomain_scan (s : State) (x y : Nat) (d : Domain) : (s.setDomain x y d).scan = s.scan := rfl
@[simp] theorem State.setDomain_slices (s : State) (x y : Nat) (d : Domain) : (s.setDomain x y d).slices = s.slices := rfl
@[simp] theorem State.setDomain_bnc (s : State) (x y : Nat) (d : Domain) : (s.setDomain x y d).bnc = s.bnc := rfl
@[simp] theorem State.setDomain_cap (s : State) (x y : Nat) (d : Domain) : (s.setDomain x y d).cap = s.cap := rfl
@[simp] theorem State.setDomain_adc (s : State) (x y : Nat) (d : Domain) : (s.setDomain x y d).adc = s.adc := rfl
@[simp] theorem State.setDomain_pwr (s : State) (x y : Nat) (d : Domain) : (s.setDomain x y d).pwr = s.pwr := rfl
@[simp] theorem State.setDomain_upd (s : State) (x y : Nat) (d : Domain) : (s.setDomain x y d).upd = s.upd := rfl
@[simp] theorem State.setDomain_snd (s : State) (x y : Nat) (d : Domain) : (s.setDomain x y d).snd = s.snd := rfl
@[simp] theorem State.setDomain_out (s : State) (x y : Nat) (d : Domain) : (s.setDomain x y d).out = s.out := rfl
@[simp] theorem State.setDomain_freeTick (s : State) (x y : Nat) (d : Domain) : (s.setDomain x y d).freeTick = s.freeTick := rfl

@[simp] theorem State.releaseDomain_pending (s : State) (x y : Nat) : (s.releaseDomain x y).pending = s.pending := rfl
@[simp] theorem State.releaseDomain_mono (s : State) (x y : Nat) : (s.releaseDomain x y).mono = s.mono := rfl
@[simp] theorem State.releaseDomain_opBase (s : State) (x y : Nat) : (s.releaseDomain x y).opBase = s.opBase := rfl
@[simp] theorem State.releaseDomain_ident (s : State) (x y : Nat) : (s.releaseDomain x y).ident = s.ident := rfl
@[simp] theorem State.releaseDomain_regs (s : State) (x y : Nat) : (s.releaseDomain x y).regs = s.regs := rfl
@[simp] theorem State.releaseDomain_hif (s : State) (x y : Nat) : (s.releaseDomain x y).hif = s.hif := rfl
@[simp] theorem State.releaseDomain_stx (s : State) (x y : Nat) : (s.releaseDomain x y).stx = s.stx := rfl
@[simp] theorem State.releaseDomain_log (s : State) (x y : Nat) : (s.releaseDomain x y).log = s.log := rfl
@[simp] theorem State.releaseDomain_net (s : State) (x y : Nat) : (s.releaseDomain x y).net = s.net := rfl
@[simp] theorem State.releaseDomain_red (s : State) (x y : Nat) : (s.releaseDomain x y).red = s.red := rfl
@[simp] theorem State.releaseDomain_sv (s : State) (x y : Nat) : (s.releaseDomain x y).sv = s.sv := rfl
@[simp] theorem State.releaseDomain_tor (s : State) (x y : Nat) : (s.releaseDomain x y).tor = s.tor := rfl
@[simp] theorem State.releaseDomain_scan (s : State) (x y : Nat) : (s.releaseDomain x y).scan = s.scan := rfl
@[simp] theorem State.releaseDomain_slices (s : State) (x y : Nat) : (s.releaseDomain x y).slices = s.slices := rfl
@[simp] theorem State.releaseDomain_bnc (s : State) (x y : Nat) : (s.releaseDomain x y).bnc = s.bnc := rfl
@[simp] theorem State.releaseDomain_cap (s : State) (x y : Nat) : (s.releaseDomain x y).cap = s.cap := rfl
@[simp] theorem State.releaseDomain_adc (s : State) (x y : Nat) : (s.releaseDomain x y).adc = s.adc := rfl
@[simp] theorem State.releaseDomain_pwr (s : State) (x y : Nat) : (s.releaseDomain x y).pwr = s.pwr := rfl
@[simp] theorem State.releaseDomain_upd (s : State) (x y : Nat) : (s.releaseDomain x y).upd = s.upd := rfl
@[simp] theorem State.releaseDomain_snd (s : State) (x y : Nat) : (s.releaseDomain x y).snd = s.snd := rfl
@[simp] theorem State.releaseDomain_out (s : State) (x y : Nat) : (s.releaseDomain x y).out = s.out := rfl
@[simp] theorem State.releaseDomain_freeTick (s : State) (x y : Nat) : (s.releaseDomain x y).freeTick = s.freeTick := rfl

@[simp] theorem State.fillDomain_pending (s : State) (x : Nat) (b : Bytes) (y : Nat) : (s.fillDomain x b y).pending = s.pending := rfl
@[simp] theorem State.fillDomain_mono (s : State) (x : Nat) (b : Bytes) (y : Nat) : (s.fillDomain x b y).mono = s.mono := rfl
@[simp] theorem State.fillDomain_opBase (s : State) (x : Nat) (b : Bytes) (y : Nat) : (s.fillDomain x b y).opBase = s.opBase := rfl
@[simp] theorem State.fillDomain_ident (s : State) (x : Nat) (b : Bytes) (y : Nat) : (s.fillDomain x b y).ident = s.ident := rfl
@[simp] theorem State.fillDomain_regs (s : State) (x : Nat) (b : Bytes) (y : Nat) : (s.fillDomain x b y).regs = s.regs := rfl
@[simp] theorem State.fillDomain_hif (s : State) (x : Nat) (b : Bytes) (y : Nat) : (s.fillDomain x b y).hif = s.hif := rfl
@[simp] theorem State.fillDomain_stx (s : State) (x : Nat) (b : Bytes) (y : Nat) : (s.fillDomain x b y).stx = s.stx := rfl
@[simp] theorem State.fillDomain_log (s : State) (x : Nat) (b : Bytes) (y : Nat) : (s.fillDomain x b y).log = s.log := rfl
@[simp] theorem State.fillDomain_net (s : State) (x : Nat) (b : Bytes) (y : Nat) : (s.fillDomain x b y).net = s.net := rfl
@[simp] theorem State.fillDomain_red (s : State) (x : Nat) (b : Bytes) (y : Nat) : (s.fillDomain x b y).red = s.red := rfl
@[simp] theorem State.fillDomain_sv (s : State) (x : Nat) (b : Bytes) (y : Nat) : (s.fillDomain x b y).sv = s.sv := rfl
@[simp] theorem State.fillDomain_tor (s : State) (x : Nat) (b : Bytes) (y : Nat) : (s.fillDomain x b y).tor = s.tor := rfl
@[simp] theorem State.fillDomain_scan (s : State) (x : Nat) (b : Bytes) (y : Nat) : (s.fillDomain x b y).scan = s.scan := rfl
@[simp] theorem State.fillDomain_slices (s : State) (x : Nat) (b : Bytes) (y : Nat) : (s.fillDomain x b y).slices = s.slices := rfl
@[simp] theorem State.fillDomain_bnc (s : State) (x : Nat) (b : Bytes) (y : Nat) : (s.fillDomain x b y).bnc = s.bnc := rfl
@[simp] theorem State.fillDomain_cap (s : State) (x : Nat) (b : Bytes) (y : Nat) : (s.fillDomain x b y).cap = s.cap := rfl
@[simp] theorem State.fillDomain_adc (s : State) (x : Nat) (b : Bytes) (y : Nat) : (s.fillDomain x b y).adc = s.adc := rfl
@[simp] theorem State.fillDomain_pwr (s : State) (x : Nat) (b : Bytes) (y : Nat) : (s.fillDomain x b y).pwr = s.pwr := rfl
@[simp] theorem State.fillDomain_upd (s : State) (x : Nat) (b : Bytes) (y : Nat) : (s.fillDomain x b y).upd = s.upd := rfl
@[simp] theorem State.fillDomain_snd (s : State) (x : Nat) (b : Bytes) (y : Nat) : (s.fillDomain x b y).snd = s.snd := rfl
@[simp] theorem State.fillDomain_out (s : State) (x : Nat) (b : Bytes) (y : Nat) : (s.fillDomain x b y).out = s.out := rfl
@[simp] theorem State.fillDomain_freeTick (s : State) (x : Nat) (b : Bytes) (y : Nat) : (s.fillDomain x b y).freeTick = s.freeTick := rfl

@[simp] theorem State.newHandle_pending (s : State) (src : Requester) : ((s.newHandle src).2).pending = s.pending := rfl
@[simp] theorem State.newHandle_mono (s : State) (src : Requester) : ((s.newHandle src).2).mono = s.mono := rfl
@[simp] theorem State.newHandle_opBase (s : State) (src : Requester) : ((s.newHandle src).2).opBase = s.opBase := rfl
@[simp] theorem State.newHandle_ident (s : State) (src : Requester) : ((s.newHandle src).2).ident = s.ident := rfl
@[simp] theorem State.newHandle_regs (s : State) (src : Requester) : ((s.newHandle src).2).regs = s.regs := rfl
@[simp] theorem State.newHandle_hif (s : State) (src : Requester) : ((s.newHandle src).2).hif = s.hif := rfl
@[simp] theorem State.newHandle_stx (s : State) (src : Requester) : ((s.newHandle src).2).stx = s.stx := rfl
@[simp] theorem State.newHandle_log (s : State) (src : Requester) : ((s.newHandle src).2).log = s.log := rfl
@[simp] theorem State.newHandle_net (s : State) (src : Requester) : ((s.newHandle src).2).net = s.net := rfl
@[simp] theorem State.newHandle_red (s : State) (src : Requester) : ((s.newHandle src).2).red = s.red := rfl
@[simp] theorem State.newHandle_sv (s : State) (src : Requester) : ((s.newHandle src).2).sv = s.sv := rfl
@[simp] theorem State.newHandle_tor (s : State) (src : Requester) : ((s.newHandle src).2).tor = s.tor := rfl
@[simp] theorem State.newHandle_scan (s : State) (src : Requester) : ((s.newHandle src).2).scan = s.scan := rfl
@[simp] theorem State.newHandle_slices (s : State) (src : Requester) : ((s.newHandle src).2).slices = s.slices := rfl
@[simp] theorem State.newHandle_bnc (s : State) (src : Requester) : ((s.newHandle src).2).bnc = s.bnc := rfl
@[simp] theorem State.newHandle_cap (s : State) (src : Requester) : ((s.newHandle src).2).cap = s.cap := rfl
@[simp] theorem State.newHandle_adc (s : State) (src : Requester) : ((s.newHandle src).2).adc = s.adc := rfl
@[simp] theorem State.newHandle_pwr (s : State) (src : Requester) : ((s.newHandle src).2).pwr = s.pwr := rfl
@[simp] theorem State.newHandle_upd (s : State) (src : Requester) : ((s.newHandle src).2).upd = s.upd := rfl
@[simp] theorem State.newHandle_snd (s : State) (src : Requester) : ((s.newHandle src).2).snd = s.snd := rfl
@[simp] theorem State.newHandle_out (s : State) (src : Requester) : ((s.newHandle src).2).out = s.out := rfl
@[simp] theorem State.newHandle_freeTick (s : State) (src : Requester) : ((s.newHandle src).2).freeTick = s.freeTick := rfl

@[simp] theorem State.setSli_pending (s : State) (sl : Nat) (x : Slice) : (s.setSli sl x).pending = s.pending := rfl
@[simp] theorem State.setSli_mono (s : State) (sl : Nat) (x : Slice) : (s.setSli sl x).mono = s.mono := rfl
@[simp] theorem State.setSli_opBase (s : State) (sl : Nat) (x : Slice) : (s.setSli sl x).opBase = s.opBase := rfl
@[simp] theorem State.setSli_ident (s : State) (sl : Nat) (x : Slice) : (s.setSli sl x).ident = s.ident := rfl
@[simp] theorem State.setSli_regs (s : State) (sl : Nat) (x : Slice) : (s.setSli sl x).regs = s.regs := rfl
@[simp] theorem State.setSli_hif (s : State) (sl : Nat) (x : Slice) : (s.setSli sl x).hif = s.hif := rfl
@[simp] theorem State.setSli_wh (s : State) (sl : Nat) (x : Slice) : (s.setSli sl x).wh = s.wh := rfl
@[simp] theorem State.setSli_stx (s : State) (sl : Nat) (x : Slice) : (s.setSli sl x).stx = s.stx := rfl
@[simp] theorem State.setSli_log (s : State) (sl : Nat) (x : Slice) : (s.setSli sl x).log = s.log := rfl
@[simp] theorem State.setSli_net (s : State) (sl : Nat) (x : Slice) : (s.setSli sl x).net = s.net := rfl
@[simp] theorem State.setSli_red (s : State) (sl : Nat) (x : Slice) : (s.setSli sl x).red = s.red := rfl
@[simp] theorem State.setSli_sv (s : State) (sl : Nat) (x : Slice) : (s.setSli sl x).sv = s.sv := rfl
@[simp] theorem State.setSli_tor (s : State) (sl : Nat) (x : Slice) : (s.setSli sl x).tor = s.tor := rfl
@[simp] theorem State.setSli_scan (s : State) (sl : Nat) (x : Slice) : (s.setSli sl x).scan = s.scan := rfl
@[simp] theorem State.setSli_bnc (s : State) (sl : Nat) (x : Slice) : (s.setSli sl x).bnc = s.bnc := rfl
@[simp] theorem State.setSli_cap (s : State) (sl : Nat) (x : Slice) : (s.setSli sl x).cap = s.cap := rfl
@[simp] theorem State.setSli_adc (s : State) (sl : Nat) (x : Slice) : (s.setSli sl x).adc = s.adc := rfl
@[simp] theorem State.setSli_pwr (s : State) (sl : Nat) (x : Slice) : (s.setSli sl x).pwr = s.pwr := rfl
@[simp] theorem State.setSli_upd (s : State) (sl : Nat) (x : Slice) : (s.setSli sl x).upd = s.upd := rfl
@[simp] theorem State.setSli_snd (s : State) (sl : Nat) (x : Slice) : (s.setSli sl x).snd = s.snd := rfl
@[simp] theorem State.setSli_out (s : State) (sl : Nat) (x : Slice) : (s.setSli sl x).out = s.out := rfl
@[simp] theorem State.setSli_freeTick (s : State) (sl : Nat) (x : Slice) : (s.setSli sl x).freeTick = s.freeTick := rfl

@[simp] theorem State.setPx_pending (s : State) (p : Nat) (x : PortX) : (s.setPx p x).pending = s.pending := rfl
@[simp] theorem State.setPx_mono (s : State) (p : Nat) (x : PortX) : (s.setPx p x).mono = s.mono := rfl
@[simp] theorem State.setPx_opBase (s : State) (p : Nat) (x : PortX) : (s.setPx p x).opBase = s.opBase := rfl
@[simp] theorem State.setPx_ident (s : State) (p : Nat) (x : PortX) : (s.setPx p x).ident = s.ident := rfl
@[simp] theorem State.setPx_regs (s : State) (p : Nat) (x : PortX) : (s.setPx p x).regs = s.regs := rfl
@[simp] theorem State.setPx_hif (s : State) (p : Nat) (x : PortX) : (s.setPx p x).hif = s.hif := rfl
@[simp] theorem State.setPx_wh (s : State) (p : Nat) (x : PortX) : (s.setPx p x).wh = s.wh := rfl
@[simp] theorem State.setPx_stx (s : State) (p : Nat) (x : PortX) : (s.setPx p x).stx = s.stx := rfl
@[simp] theorem State.setPx_log (s : State) (p : Nat) (x : PortX) : (s.setPx p x).log = s.log := rfl
@[simp] theorem State.setPx_red (s : State) (p : Nat) (x : PortX) : (s.setPx p x).red = s.red := rfl
@[simp] theorem State.setPx_sv (s : State) (p : Nat) (x : PortX) : (s.setPx p x).sv = s.sv := rfl
@[simp] theorem State.setPx_tor (s : State) (p : Nat) (x : PortX) : (s.setPx p x).tor = s.tor := rfl
@[simp] theorem State.setPx_scan (s : State) (p : Nat) (x : PortX) : (s.setPx p x).scan = s.scan := rfl
@[simp] theorem State.setPx_slices (s : State) (p : Nat) (x : PortX) : (s.setPx p x).slices = s.slices := rfl
@[simp] theorem State.setPx_bnc (s : State) (p : Nat) (x : PortX) : (s.setPx p x).bnc = s.bnc := rfl
@[simp] theorem State.setPx_cap (s : State) (p : Nat) (x : PortX) : (s.setPx p x).cap = s.cap := rfl
@[simp] theorem State.setPx_adc (s : State) (p : Nat) (x : PortX) : (s.setPx p x).adc = s.adc := rfl
@[simp] theorem State.setPx_pwr (s : State) (p : Nat) (x : PortX) : (s.setPx p x).pwr = s.pwr := rfl
@[simp] theorem State.setPx_upd (s : State) (p : Nat) (x : PortX) : (s.setPx p x).upd = s.upd := rfl
@[simp] theorem State.setPx_snd (s : State) (p : Nat) (x : PortX) : (s.setPx p x).snd = s.snd := rfl
@[simp] theorem State.setPx_out (s : State) (p : Nat) (x : PortX) : (s.setPx p x).out = s.out := rfl
@[simp] theorem State.setPx_freeTick (s : State) (p : Nat) (x : PortX) : (s.setPx p x).freeTick = s.freeTick := rfl

@[simp] theorem State.free_pending (s : State) (n : Nat) : ((s.free n).2).pending = s.pending := rfl
@[simp] theorem State.free_mono (s : State) (n : Nat) : ((s.free n).2).mono = s.mono := rfl
@[simp] theorem State.free_opBase (s : State) (n : Nat) : ((s.free n).2).opBase = s.opBase := rfl
@[simp] theorem State.free_ident (s : State) (n : Nat) : ((s.free n).2).ident = s.ident := rfl
@[simp] theorem State.free_regs (s : State) (n : Nat) : ((s.free n).2).regs = s.regs := rfl
@[simp] theorem State.free_hif (s : State) (n : Nat) : ((s.free n).2).hif = s.hif := rfl
@[simp] theorem State.free_wh (s : State) (n : Nat) : ((s.free n).2).wh = s.wh := rfl
@[simp] theorem State.free_stx (s : State) (n : Nat) : ((s.free n).2).stx = s.stx := rfl
@[simp] theorem State.free_log (s : State) (n : Nat) : ((s.free n).2).log = s.log := rfl
@[simp] theorem State.free_net (s : State) (n : Nat) : ((s.free n).2).net = s.net := rfl
@[simp] theorem State.free_red (s : State) (n : Nat) : ((s.free n).2).red = s.red := rfl
@[simp] theorem State.free_sv (s : State) (n : Nat) : ((s.free n).2).sv = s.sv := rfl
@[simp] theorem State.free_tor (s : State) (n : Nat) : ((s.free n).2).tor = s.tor := rfl
@[simp] theorem State.free_scan (s : State) (n : Nat) : ((s.free n).2).scan = s.scan := rfl
@[simp] theorem State.free_slices (s : State) (n : Nat) : ((s.free n).2).slices = s.slices := rfl
@[simp] theorem State.free_bnc (s : State) (n : Nat) : ((s.free n).2).bnc = s.bnc := rfl
@[simp] theorem State.free_cap (s : State) (n : Nat) : ((s.free n).2).cap = s.cap := rfl
@[simp] theorem State.free_adc (s : State) (n : Nat) : ((s.free n).2).adc = s.adc := rfl
@[simp] theorem State.free_pwr (s : State) (n : Nat) : ((s.free n).2).pwr = s.pwr := rfl
@[simp] theorem State.free_upd (s : State) (n : Nat) : ((s.free n).2).upd = s.upd := rfl
@[simp] theorem State.free_snd (s : State) (n : Nat) : ((s.free n).2).snd = s.snd := rfl
@[simp] theorem State.free_out (s : State) (n : Nat) : ((s.free n).2).out = s.out := rfl

@[simp] theorem State.random_pending (s : State) (n : Nat) : ((s.random n).2).pending = s.pending := rfl
@[simp] theorem State.random_mono (s : State) (n : Nat) : ((s.random n).2).mono = s.mono := rfl
@[simp] theorem State.random_opBase (s : State) (n : Nat) : ((s.random n).2).opBase = s.opBase := rfl
@[simp] theorem State.random_ident (s : State) (n : Nat) : ((s.random n).2).ident = s.ident := rfl
@[simp] theorem State.random_regs (s : State) (n : Nat) : ((s.random n).2).regs = s.regs := rfl
@[simp] theorem State.random_hif (s : State) (n : Nat) : ((s.random n).2).hif = s.hif := rfl
@[simp] theorem State.random_stx (s : State) (n : Nat) : ((s.random n).2).stx = s.stx := rfl
@[simp] theorem State.random_log (s : State) (n : Nat) : ((s.random n).2).log = s.log := rfl
@[simp] theorem State.random_net (s : State) (n : Nat) : ((s.random n).2).net = s.net := rfl
@[simp] theorem State.random_red (s : State) (n : Nat) : ((s.random n).2).red = s.red := rfl
@[simp] theorem State.random_sv (s : State) (n : Nat) : ((s.random n).2).sv = s.sv := rfl
@[simp] theorem State.random_tor (s : State) (n : Nat) : ((s.random n).2).tor = s.tor := rfl
@[simp] theorem State.random_scan (s : State) (n : Nat) : ((s.random n).2).scan = s.scan := rfl
@[simp] theorem State.random_slices (s : State) (n : Nat) : ((s.random n).2).slices = s.slices := rfl
@[simp] theorem State.random_bnc (s : State) (n : Nat) : ((s.random n).2).bnc = s.bnc := rfl
@[simp] theorem State.random_cap (s : State) (n : Nat) : ((s.random n).2).cap = s.cap := rfl
@[simp] theorem State.random_adc (s : State) (n : Nat) : ((s.random n).2).adc = s.adc := rfl
@[simp] theorem State.random_pwr (s : State) (n : Nat) : ((s.random n).2).pwr = s.pwr := rfl
@[simp] theorem State.random_upd (s : State) (n : Nat) : ((s.random n).2).upd = s.upd := rfl
@[simp] theorem State.random_snd (s : State) (n : Nat) : ((s.random n).2).snd = s.snd := rfl
@[simp] theorem State.random_out (s : State) (n : Nat) : ((s.random n).2).out = s.out := rfl
@[simp] theorem State.random_freeTick (s : State) (n : Nat) : ((s.random n).2).freeTick = s.freeTick := rfl

@[simp] theorem State.advance_mono (s : State) (t : Nat) : (s.advance t).mono = max s.mono t := rfl
@[simp] theorem State.emit_out (s : State) (o : Output) : (s.emit o).out = o :: s.out := rfl
@[simp] theorem State.setSli_sli (s : State) (sl : Nat) (x : Slice) : (s.setSli sl x).slices = Tbl.put ({} : Slice) s.slices sl x := rfl
@[simp] theorem State.setDomain_domains (s : State) (x y : Nat) (d : Domain) :
    (s.setDomain x y d).wh.domains = Tbl.put ({} : Domain) s.wh.domains (x * 256 + y) d := rfl

end Sys2Proof.Machine
end

