-- ==== Sys2Proof/Laws/Tables.lean ====
section
/-!
SUPPORT. Tables by number: what a lookup finds after an update, and that every update keeps the canonical form.
-/

namespace Sys2Proof.Machine

variable {α : Type}

theorem Tbl.look_ins_same (d v : α) (m : Tbl α) (k : Nat) : Tbl.look d (Tbl.ins v m k) k = v := by
  induction m with
  | nil => simp [Tbl.ins, Tbl.look]
  | cons e m ih =>
    obtain ⟨j, w⟩ := e
    unfold Tbl.ins
    split
    · simp [Tbl.look]
    · split
      · simp [Tbl.look]
      · have : ¬ j = k := by omega
        simp [Tbl.look, this, ih]

theorem Tbl.look_ins_other (d v : α) (m : Tbl α) {k j : Nat} (h : j ≠ k) :
    Tbl.look d (Tbl.ins v m k) j = Tbl.look d m j := by
  induction m with
  | nil => simp [Tbl.ins, Tbl.look, Ne.symm h]
  | cons e m ih =>
    obtain ⟨i, w⟩ := e
    unfold Tbl.ins
    split
    · simp [Tbl.look, Ne.symm h]
    · split
      · rename_i he
        subst he
        simp [Tbl.look, Ne.symm h]
      · simp [Tbl.look, ih]

theorem Tbl.look_drop_same (d : α) (m : Tbl α) (k : Nat) : Tbl.look d (Tbl.drop m k) k = d := by
  induction m with
  | nil => rfl
  | cons e m ih =>
    obtain ⟨j, w⟩ := e
    unfold Tbl.drop
    split
    · exact ih
    · rename_i h; simp [Tbl.look, h, ih]

theorem Tbl.look_drop_other (d : α) (m : Tbl α) {k j : Nat} (h : j ≠ k) :
    Tbl.look d (Tbl.drop m k) j = Tbl.look d m j := by
  induction m with
  | nil => rfl
  | cons e m ih =>
    obtain ⟨i, w⟩ := e
    unfold Tbl.drop
    split
    · rename_i hi; subst hi; simp [Tbl.look, Ne.symm h, ih]
    · simp [Tbl.look, ih]

variable [DecidableEq α]

@[simp] theorem Tbl.look_put_same (d v : α) (m : Tbl α) (k : Nat) : Tbl.look d (Tbl.put d m k v) k = v := by
  unfold Tbl.put
  split
  · rename_i h; rw [Tbl.look_drop_same, h]
  · exact Tbl.look_ins_same ..

/-- Another number keeps its entry, whatever default either table goes by. -/
theorem Tbl.look_put_other (d d' v : α) (m : Tbl α) {k j : Nat} (h : j ≠ k) :
    Tbl.look d (Tbl.put d' m k v) j = Tbl.look d m j := by
  unfold Tbl.put
  split
  · exact Tbl.look_drop_other d m h
  · exact Tbl.look_ins_other d v m h

/-! ### The canonical form -/

theorem Tbl.wfFrom_mono (d : α) {lo lo' : Nat} (h : lo ≤ lo') : ∀ {m : Tbl α}, Tbl.wfFrom d lo' m = true → Tbl.wfFrom d lo m = true
  | [], _ => rfl
  | (j, v) :: m, hw => by
    simp only [Tbl.wfFrom, Bool.and_eq_true, decide_eq_true_eq] at hw ⊢
    exact ⟨⟨by omega, hw.1.2⟩, hw.2⟩

theorem Tbl.wfFrom_ins (d v : α) (hv : v ≠ d) (k : Nat) : ∀ (m : Tbl α) (lo : Nat), lo ≤ k → Tbl.wfFrom d lo m = true →
    Tbl.wfFrom d lo (Tbl.ins v m k) = true
  | [], lo, hk, _ => by simp [Tbl.ins, Tbl.wfFrom, hk, hv]
  | (j, w) :: m, lo, hk, hw => by
    simp only [Tbl.wfFrom, Bool.and_eq_true, decide_eq_true_eq] at hw
    unfold Tbl.ins
    split
    · simp only [Tbl.wfFrom, Bool.and_eq_true, decide_eq_true_eq]
      exact ⟨⟨hk, hv⟩, ⟨by omega, hw.1.2⟩, hw.2⟩
    · split
      · rename_i he; subst he
        simp only [Tbl.wfFrom, Bool.and_eq_true, decide_eq_true_eq]
        exact ⟨⟨hk, hv⟩, hw.2⟩
      · simp only [Tbl.wfFrom, Bool.and_eq_true, decide_eq_true_eq]
        exact ⟨hw.1, Tbl.wfFrom_ins d v hv k m (j + 1) (by omega) hw.2⟩

theorem Tbl.wfFrom_drop (d : α) (k : Nat) : ∀ (m : Tbl α) (lo : Nat), Tbl.wfFrom d lo m = true →
    Tbl.wfFrom d lo (Tbl.drop m k) = true
  | [], _, h => h
  | (j, w) :: m, lo, hw => by
    simp only [Tbl.wfFrom, Bool.and_eq_true, decide_eq_true_eq] at hw
    unfold Tbl.drop
    split
    · exact Tbl.wfFrom_mono d (by omega) (Tbl.wfFrom_drop d k m (j + 1) hw.2)
    · simp only [Tbl.wfFrom, Bool.and_eq_true, decide_eq_true_eq]
      exact ⟨hw.1, Tbl.wfFrom_drop d k m (j + 1) hw.2⟩

/-- An update keeps the canonical form. -/
theorem Tbl.wf_put (d v : α) (m : Tbl α) (k : Nat) (h : Tbl.wf d m = true) : Tbl.wf d (Tbl.put d m k v) = true := by
  unfold Tbl.put
  split
  · exact Tbl.wfFrom_drop d k m 0 h
  · rename_i hv; exact Tbl.wfFrom_ins d v hv k m 0 (Nat.zero_le _) h

theorem Tbl.wf_drop (d : α) (m : Tbl α) (k : Nat) (h : Tbl.wf d m = true) : Tbl.wf d (Tbl.drop m k) = true :=
  Tbl.wfFrom_drop d k m 0 h

theorem Tbl.wf_upd (d : α) (m : Tbl α) (k : Nat) (f : α → α) (h : Tbl.wf d m = true) : Tbl.wf d (Tbl.upd d m k f) = true :=
  Tbl.wf_put d _ m k h

/-! ### Byte stores -/

@[simp] theorem Memory.read_write_same (m : List Host.Cell) (a : Nat) (v : Byte) : Memory.read (Memory.write m a v) a = v :=
  Tbl.look_put_same ..

theorem Memory.read_write_other (m : List Host.Cell) {a b : Nat} (v : Byte) (h : b ≠ a) :
    Memory.read (Memory.write m a v) b = Memory.read m b := Tbl.look_put_other _ _ _ _ h

/-- One byte written keeps the canonical form. -/
theorem Memory.wf_write (m : List Host.Cell) (a : Nat) (v : Byte) (h : Memory.wf m = true) : Memory.wf (Memory.write m a v) = true :=
  Tbl.wf_put _ _ m a h

/-- Bytes written keep the canonical form. -/
theorem Memory.wf_writeBytes : ∀ (bs : Bytes) (m : List Host.Cell) (a : Nat), Memory.wf m = true →
    Memory.wf (Memory.writeBytes m a bs) = true
  | [], _, _, h => h
  | b :: bs, m, a, h => Memory.wf_writeBytes bs _ (a + 1) (Memory.wf_write m a b h)

/-- Bytes outside the written run keep their values. -/
theorem Memory.read_writeBytes_outside : ∀ (bs : Bytes) (m : List Host.Cell) (a b : Nat), b < a ∨ a + bs.length ≤ b →
    Memory.read (Memory.writeBytes m a bs) b = Memory.read m b
  | [], _, _, _, _ => rfl
  | x :: bs, m, a, b, h => by
    simp only [List.length_cons] at h
    rw [Memory.writeBytes, Memory.read_writeBytes_outside bs _ (a + 1) b (by omega), Memory.read_write_other _ _ (by omega)]

/-- A run written reads back. -/
theorem Memory.readBytes_writeBytes : ∀ (bs : Bytes) (m : List Host.Cell) (a : Nat),
    Memory.readBytes (Memory.writeBytes m a bs) a bs.length = bs
  | [], _, _ => rfl
  | b :: bs, m, a => by
    simp only [List.length_cons, Memory.writeBytes, Memory.readBytes]
    rw [Memory.read_writeBytes_outside bs _ (a + 1) a (by omega), Memory.read_write_same,
      Memory.readBytes_writeBytes bs _ (a + 1)]

end Sys2Proof.Machine
end

