-- ==== Sys2Proof/Laws/Registers.lean ====
section
/-!
SUPPORT. Register fields: what a field reads after a field has been written.
-/

namespace Sys2Proof.Machine

/-- A field reads its own width of the value written. -/
theorem State.raw_wr_same (s : State) (f : Fld) (i v : Nat) (h : f.wid ≤ 32) : (s.wr f i v).raw f i = v % 2 ^ f.wid := by
  unfold State.raw State.wr
  rw [Tbl.look_put_same, BitVec.toNat_ofNat]
  exact Nat.mod_eq_of_lt (Nat.lt_of_lt_of_le (Nat.mod_lt _ (Nat.two_pow_pos _)) (Nat.pow_le_pow_right (by omega) h))

/-- A field of another key keeps its value. -/
theorem State.raw_wr_other (s : State) (f g : Fld) (i j v : Nat) (h : g.key j ≠ f.key i) : (s.wr f i v).raw g j = s.raw g j := by
  unfold State.raw State.wr
  rw [Tbl.look_put_other _ _ _ _ h]

/-- What does not touch the register file leaves every field alone. -/
theorem State.raw_of_regs {s t : State} (h : t.regs = s.regs) (f : Fld) (i : Nat) : t.raw f i = s.raw f i := by
  unfold State.raw
  rw [h]

theorem State.flag_of_regs {s t : State} (h : t.regs = s.regs) (f : Fld) (i : Nat) : t.flag f i = s.flag f i := by
  unfold State.flag State.rd
  rw [State.raw_of_regs h]

theorem State.rd_of_regs {s t : State} (h : t.regs = s.regs) (f : Fld) (i : Nat) : t.rd f i = s.rd f i := by
  unfold State.rd
  rw [State.raw_of_regs h]

/-- The register file after a write. -/
theorem State.wr_regs (s : State) (f : Fld) (i v : Nat) :
    (s.wr f i v).regs = Tbl.put (BitVec.ofNat 32 f.reset) s.regs (f.key i) (BitVec.ofNat 32 (v % 2 ^ f.wid)) := rfl

theorem State.count_eq (s : State) (f : Fld) (i n : Nat) : s.count f i n = s.wr f i (s.raw f i + n) := rfl

end Sys2Proof.Machine
end

