-- ==== Sys2Proof/Laws/Events.lean ====
section
/-!
SUPPORT. What reporting does at most: an event, a completion or a notice touches the register file, the host interface, the
dictionary, the Logbook's queue and the outputs, and nothing else of the module.
-/

namespace Sys2Proof.Machine

theorem Quiet.refl (s : State) : Quiet s s := by constructor <;> rfl

theorem Quiet.trans {a b c : State} (h : Quiet a b) (k : Quiet b c) : Quiet a c :=
  ⟨k.pending.trans h.pending, k.mono.trans h.mono, k.opBase.trans h.opBase, k.ident.trans h.ident, k.stx.trans h.stx,
   k.net.trans h.net, k.red.trans h.red, k.sv.trans h.sv, k.tor.trans h.tor, k.scan.trans h.scan, k.slices.trans
   h.slices, k.bnc.trans h.bnc, k.cap.trans h.cap, k.adc.trans h.adc, k.pwr.trans h.pwr, k.upd.trans h.upd,
   k.snd.trans h.snd, k.freeTick.trans h.freeTick, k.wh_fleet.trans h.wh_fleet, k.wh_fleetAssigned.trans
   h.wh_fleetAssigned, k.wh_idleTimeout.trans h.wh_idleTimeout, k.wh_maxSessions.trans h.wh_maxSessions,
   k.wh_mgrRole.trans h.wh_mgrRole, k.wh_mgmtVlan.trans h.wh_mgmtVlan, k.wh_switchedEn.trans h.wh_switchedEn,
   k.wh_queue.trans h.wh_queue, k.wh_responses.trans h.wh_responses, k.wh_txns.trans h.wh_txns, k.wh_handshakes.trans
   h.wh_handshakes, k.wh_failures.trans h.wh_failures, k.wh_blocked.trans h.wh_blocked, k.wh_clampNext.trans
   h.wh_clampNext, k.wh_clamps.trans h.wh_clamps, k.wh_handleSeq.trans h.wh_handleSeq, k.wh_sessionSeq.trans
   h.wh_sessionSeq, k.wh_counters.trans h.wh_counters, k.wh_domains.trans h.wh_domains, k.wh_signals.trans
   h.wh_signals, k.wh_peers.trans h.wh_peers, k.wh_peerWrites.trans h.wh_peerWrites, k.wh_buffers.trans h.wh_buffers,
   k.wh_draws.trans h.wh_draws, k.hif_shadow.trans h.hif_shadow, k.hif_compat.trans h.hif_compat, k.hif_postedA.trans
   h.hif_postedA, k.hif_postedB.trans h.hif_postedB, k.hif_trained.trans h.hif_trained, k.hif_msix.trans h.hif_msix,
   k.hif_fn.trans h.hif_fn⟩

/-- A fold of quiet updates is quiet. -/
theorem Quiet.foldl {β : Type} (f : State → β → State) (h : ∀ s x, Quiet s (f s x)) :
    ∀ (l : List β) (s : State), Quiet s (l.foldl f s)
  | [], s => Quiet.refl s
  | x :: xs, s => (h s x).trans (Quiet.foldl f h xs (f s x))

theorem State.wr_quiet (s : State) (f : Fld) (i v : Nat) : Quiet s (s.wr f i v) := by constructor <;> rfl
theorem State.count_quiet (s : State) (f : Fld) (i n : Nat) : Quiet s (s.count f i n) := by constructor <;> rfl

theorem State.sendEntry_quiet (s : State) (l e : Nat) : Quiet s (s.sendEntry l e).1 := by
  unfold State.sendEntry
  simp only
  split <;> (constructor <;> rfl)

theorem State.sendSource_quiet (s : State) (src : Nat) : Quiet s (s.sendSource src) := by
  unfold State.sendSource
  split
  · exact (by constructor <;> rfl)
  · refine Quiet.foldl _ (fun s l => ?_) _ _
    simp only
    repeat' split
    · refine Quiet.trans ?_ (State.wr_quiet _ _ _ _)
      refine Quiet.trans ?_ (State.sendEntry_quiet _ _ _)
      constructor <;> rfl
    · refine Quiet.trans ?_ (State.sendEntry_quiet _ _ _)
      constructor <;> rfl
    · constructor <;> rfl

theorem State.markDue_quiet (s : State) (src : Nat) : Quiet s (s.markDue src) :=
  Quiet.foldl _ (fun s _ => by constructor <;> rfl) _ _

theorem State.pendEvent_quiet (s : State) (src code info : Nat) : Quiet s (s.pendEvent src code info) := by
  unfold State.pendEvent
  split
  · exact (by constructor <;> rfl)
  · refine Quiet.trans ?_ (State.sendSource_quiet _ src)
    refine Quiet.trans ?_ (State.markDue_quiet _ src)
    constructor <;> rfl

theorem State.sendSession_quiet (s : State) (x : Session) (ty : Nat) (b : Bytes) : Quiet s (s.sendSession x ty b) := by
  unfold State.sendSession
  split <;> (constructor <;> rfl)

theorem State.notify_quiet (s : State) (id kind : Nat) (rest : Bytes) : Quiet s (s.notify id kind rest) := by
  unfold State.notify
  split
  · exact (by constructor <;> rfl)
  · refine Quiet.trans ?_ (State.sendSession_quiet _ _ _ _)
    constructor <;> rfl

theorem State.notifyEvent_quiet (s : State) (src code : Nat) : Quiet s (s.notifyEvent src code) :=
  Quiet.foldl _ (fun s _ => State.notify_quiet s _ _ _) _ _

theorem State.logOffer_quiet (s : State) (r : LogRec) : Quiet s (s.logOffer r) := by
  unfold State.logOffer
  split <;> (constructor <;> rfl)

theorem State.logEvent_quiet (s : State) (src code info : Nat) : Quiet s (s.logEvent src code info) := by
  unfold State.logEvent
  simp only
  repeat' split
  all_goals first
    | (constructor <;> rfl)
    | (refine Quiet.trans ?_ (State.logOffer_quiet _ _); constructor <;> rfl)

/-- An event touches nothing beyond its own reporting (R112). -/
theorem State.raise_quiet (s : State) (src code info : Nat) : Quiet s (s.raise src code info) := by
  have h : Quiet s (((s.pendEvent src code (info % 2 ^ 32)).notifyEvent src code).logEvent src code (info % 2 ^ 32)) :=
    ((State.pendEvent_quiet s src code _).trans (State.notifyEvent_quiet _ src code)).trans (State.logEvent_quiet _ src code _)
  unfold State.raise
  simp only
  split
  · refine h.trans (Quiet.trans ?_ (State.notifyEvent_quiet _ 102 0x0102))
    refine Quiet.trans ?_ (State.pendEvent_quiet _ 102 0x0102 src)
    constructor <;> rfl
  · exact h

/-- A completion touches nothing beyond the dictionary and its notice (R62). -/
theorem State.complete_quiet (s : State) (h st r : Nat) : Quiet s (s.complete h st r) := by
  unfold State.complete
  simp only
  repeat' split
  all_goals first
    | (constructor <;> rfl)
    | (refine Quiet.trans ?_ (State.notify_quiet _ _ _ _); constructor <;> rfl)

/-- A vector raised touches registers and host interface alone (R120). -/
theorem State.raiseVector_quiet (s : State) (sl v : Nat) : Quiet s (s.raiseVector sl v) := by
  unfold State.raiseVector
  simp only
  repeat' split
  all_goals first
    | (constructor <;> rfl)
    | (refine Quiet.trans ?_ (State.sendEntry_quiet _ _ _); constructor <;> rfl)

end Sys2Proof.Machine
end

