-- ==== Sys2Proof/Laws/Isa.lean ====
section
/-!
SUPPORT. What the common course of an FB-ISA instruction does, once for all instructions, and its two's complement numbers
as those of bit vectors.
-/

namespace Sys2Proof.Machine

/-- An instruction at its word, within its limit of cycles: its effect, or its fault (R299, R308, R309). -/
theorem State.runOp_eq (s t : State) (u word cost : Nat) (c : Ctx) (f : State → Ctx → Except Nat (Ctx × State))
    (hc : s.unitCtx u = some c) (hw : wordAt (s.unitCode u) c.pc = some word)
    (ho : s.overrun u (c.cycles + cost) = (t, false)) :
    s.runOp u word cost f = match f t { c with cycles := c.cycles + cost, pc := c.pc + 4 } with
      | .error e => t.unitFault u e
      | .ok (c', s') => s'.setCtx u c' := by
  simp only [State.runOp, hc, hw, ho, ne_eq, not_true_eq_false, if_false, Bool.false_eq_true] <;> rfl

/-- An instruction that takes its evaluation over its limit faults with cause 6 (R308). -/
theorem State.runOp_limit (s t : State) (u word cost : Nat) (c : Ctx) (f : State → Ctx → Except Nat (Ctx × State))
    (hc : s.unitCtx u = some c) (hw : wordAt (s.unitCode u) c.pc = some word)
    (ho : s.overrun u (c.cycles + cost) = (t, true)) : s.runOp u word cost f = t.unitFault u 6 := by
  unfold State.runOp
  simp [hc, hw, ho]

/-- An instruction that is not at its unit's pc changes nothing. -/
theorem State.runOp_idle (s : State) (u word cost : Nat) (f : State → Ctx → Except Nat (Ctx × State))
    (h : ∀ c, s.unitCtx u = some c → wordAt (s.unitCode u) c.pc ≠ some word) : s.runOp u word cost f = s := by
  unfold State.runOp
  split
  · rfl
  · next c hc => simp [h c hc]

theorem toSigned_eq (w v : Nat) (hw : 0 < w) : toSigned w v = (BitVec.ofNat w v).toInt := by
  have h2 : 2 ^ w = 2 * 2 ^ (w - 1) := by
    obtain ⟨n, rfl⟩ := Nat.exists_eq_succ_of_ne_zero (Nat.ne_of_gt hw)
    simp [Nat.pow_succ, Nat.mul_comm]
  unfold toSigned BitVec.toInt
  simp only [BitVec.toNat_ofNat]
  split <;> split <;> omega

theorem ofSigned_toInt (w : Nat) (b : BitVec w) (n : Nat) : ofSigned n b.toInt = (b.signExtend n).toNat := by
  unfold ofSigned BitVec.signExtend
  simp

theorem sext32_eq (v : Nat) : sext32 v = ((BitVec.ofNat 32 v).signExtend 64).toNat := by
  unfold sext32
  rw [toSigned_eq _ _ (by decide), ofSigned_toInt]

end Sys2Proof.Machine
end

