-- ==== Sys2Proof/Laws/Reports.lean ====
section
/-!
SUPPORT. The register fields that an event, a notice, a completion or a vector may write; every other field keeps its value.
-/

namespace Sys2Proof.Machine

theorem State.count_raw_other (s : State) (f g : Fld) (i j n : Nat) (h : g.key j ≠ f.key i) : (s.count f i n).raw g j = s.raw g j :=
  State.raw_wr_other _ _ _ _ _ _ h

/-- A fold whose steps leave a field alone leaves it alone. -/
theorem State.foldl_raw {β : Type} (f : State → β → State) (g : Fld) (j : Nat) (h : ∀ s x, (f s x).raw g j = s.raw g j) :
    ∀ (l : List β) (s : State), (l.foldl f s).raw g j = s.raw g j
  | [], _ => rfl
  | x :: xs, s => (State.foldl_raw f g j h xs (f s x)).trans (h s x)

theorem State.sendEntry_regs (s : State) (l e : Nat) : (s.sendEntry l e).1.regs = s.regs := by
  unfold State.sendEntry
  simp only
  split <;> rfl

theorem State.sendSource_raw (s : State) (src : Nat) (g : Fld) (j : Nat) (h : g.key j ≠ Reg.src_DELIV.key src) :
    (s.sendSource src).raw g j = s.raw g j := by
  unfold State.sendSource
  split
  · rfl
  · refine State.foldl_raw _ g j (fun s l => ?_) _ _
    simp only
    repeat' split
    · rw [State.raw_wr_other _ _ _ _ _ _ h, State.raw_of_regs (State.sendEntry_regs _ _ _)]
      rfl
    · rw [State.raw_of_regs (State.sendEntry_regs _ _ _)]
      rfl
    · rfl

theorem State.markDue_regs (s : State) (src : Nat) : (s.markDue src).regs = s.regs := by
  unfold State.markDue
  generalize s.routeLinks src = ls
  induction ls generalizing s with
  | nil => rfl
  | cons l ls ih => exact (ih _).trans rfl

theorem State.pendEvent_raw (s : State) (src code info : Nat) (g : Fld) (j : Nat) (h : g.key j ∉ sourceKeys src) :
    (s.pendEvent src code info).raw g j = s.raw g j := by
  simp only [sourceKeys, List.mem_cons, List.not_mem_nil, or_false, not_or] at h
  obtain ⟨h1, h2, h3, h4, h5⟩ := h
  unfold State.pendEvent
  split
  · exact State.raw_wr_other _ _ _ _ _ _ h5
  · rw [State.sendSource_raw _ _ _ _ h2, State.raw_of_regs (State.markDue_regs _ _), State.raw_wr_other _ _ _ _ _ _ h4,
      State.raw_wr_other _ _ _ _ _ _ h3, State.raw_wr_other _ _ _ _ _ _ h2, State.raw_wr_other _ _ _ _ _ _ h1]

theorem State.sendSession_raw (s : State) (x : Session) (ty : Nat) (b : Bytes) (g : Fld) (j : Nat)
    (h : g.key j ≠ Reg.bnc_BNC_REFUSE.key 0) : (s.sendSession x ty b).raw g j = s.raw g j := by
  unfold State.sendSession
  split
  · exact State.raw_wr_other _ _ _ _ _ _ h
  · rfl

theorem State.notify_raw (s : State) (id kind : Nat) (rest : Bytes) (g : Fld) (j : Nat)
    (h : g.key j ≠ Reg.bnc_BNC_REFUSE.key 0) : (s.notify id kind rest).raw g j = s.raw g j := by
  unfold State.notify
  split
  · rfl
  · rw [State.sendSession_raw _ _ _ _ _ _ h]
    rfl

theorem State.notifyEvent_raw (s : State) (src code : Nat) (g : Fld) (j : Nat)
    (h : g.key j ≠ Reg.bnc_BNC_REFUSE.key 0) : (s.notifyEvent src code).raw g j = s.raw g j :=
  State.foldl_raw _ g j (fun s _ => State.notify_raw s _ _ _ g j h) _ _

theorem State.logOffer_raw (s : State) (r : LogRec) (g : Fld) (j : Nat) (h : g.key j ∉ logKeys) :
    (s.logOffer r).raw g j = s.raw g j := by
  simp only [logKeys, List.mem_cons, List.not_mem_nil, or_false, not_or] at h
  unfold State.logOffer
  split
  · unfold State.logPush
    rw [State.raw_wr_other _ _ _ _ _ _ h.1]
    rfl
  · unfold State.logDropMark
    exact State.raw_wr_other _ _ _ _ _ _ h.2.1

theorem State.logEvent_raw (s : State) (src code info : Nat) (g : Fld) (j : Nat) (h : g.key j ∉ logKeys) :
    (s.logEvent src code info).raw g j = s.raw g j := by
  have h3 := h
  simp only [logKeys, List.mem_cons, List.not_mem_nil, or_false, not_or] at h3
  unfold State.logEvent
  simp only
  repeat' split
  all_goals first
    | rfl
    | exact State.raw_wr_other _ _ _ _ _ _ h3.2.2
    | (rw [State.logOffer_raw _ _ _ _ h]; rfl)

/-- An event at a source writes that source's fields, those of source 102, the Logbook's counters and the refusals of the
Binnacle, and no other field. -/
theorem State.raise_raw (s : State) (src code info : Nat) (g : Fld) (j : Nat) (h : g.key j ∉ eventKeys src) :
    (s.raise src code info).raw g j = s.raw g j := by
  have h1 : g.key j ∉ sourceKeys src := fun k => h (by simp [eventKeys, k])
  have h2 : g.key j ∉ sourceKeys 102 := fun k => h (by simp [eventKeys, k])
  have h3 : g.key j ∉ logKeys := fun k => h (by simp [eventKeys, k])
  have h4 : g.key j ≠ Reg.bnc_BNC_REFUSE.key 0 := fun k => h (by simp [eventKeys, k])
  unfold State.raise
  simp only
  split
  · rw [State.notifyEvent_raw _ _ _ _ _ h4, State.pendEvent_raw _ _ _ _ _ _ h2]
    refine Eq.trans (b := (State.logEvent _ _ _ _).raw g j) rfl ?_
    rw [State.logEvent_raw _ _ _ _ _ _ h3, State.notifyEvent_raw _ _ _ _ _ h4, State.pendEvent_raw _ _ _ _ _ _ h1]
  · rw [State.logEvent_raw _ _ _ _ _ _ h3, State.notifyEvent_raw _ _ _ _ _ h4, State.pendEvent_raw _ _ _ _ _ _ h1]

/-- A completion writes no field but the Binnacle's refusals. -/
theorem State.complete_raw (s : State) (h st r : Nat) (g : Fld) (j : Nat) (hg : g.key j ≠ Reg.bnc_BNC_REFUSE.key 0) :
    (s.complete h st r).raw g j = s.raw g j := by
  unfold State.complete
  simp only
  repeat' split
  all_goals first
    | rfl
    | (rw [State.notify_raw _ _ _ _ _ _ hg]; rfl)

/-- A vector writes SLC_VEC_PEND or its count of losses. -/
theorem State.raiseVector_raw (s : State) (sl v : Nat) (g : Fld) (j : Nat) (h1 : g.key j ≠ Reg.vec_SLC_VEC_PEND.key sl)
    (h2 : g.key j ≠ Reg.vec_SLC_VEC_LOST.key sl) : (s.raiseVector sl v).raw g j = s.raw g j := by
  unfold State.raiseVector
  simp only
  repeat' split
  all_goals first
    | exact State.raw_wr_other _ _ _ _ _ _ h2
    | (rw [State.raw_of_regs (State.sendEntry_regs _ _ _), State.raw_wr_other _ _ _ _ _ _ h1])
    | exact State.raw_wr_other _ _ _ _ _ _ h1

end Sys2Proof.Machine
end

