-- ==== Sys2Proof/Tests/Slice0.lean ====
section
/-!
SUPPORT. Tests: for each statement of Certificates/Slice0/Obligations.lean a theorem witness_<its name> with states and
operands that meet the hypotheses of each of its clauses; terms that each check of WellFormed.lean refuses; and the spec's
worked examples. Hypotheses on an outcome of the opaque functions of Config are met under the assumption of that outcome.
-/

namespace Sys2Proof.Tests

open Sys2Proof Sys2Proof.Machine

set_option Elab.async false

/-- The result is `.ok y`. -/
def okIs {ε α : Type} [DecidableEq α] (x : Except ε α) (y : α) : Bool :=
  match x with
  | .ok z => decide (z = y)
  | .error _ => false

/-- The result is `.error y`. -/
def errIs {ε α : Type} [DecidableEq ε] (x : Except ε α) (y : ε) : Bool :=
  match x with
  | .ok _ => false
  | .error z => decide (z = y)

theorem of_ok {ε α : Type} [DecidableEq α] {x : Except ε α} {y : α} (h : okIs x y = true) : x = .ok y := by
  cases x with
  | ok z => simpa [okIs] using h
  | error z => simp [okIs] at h

theorem of_error {ε α : Type} [DecidableEq ε] {x : Except ε α} {y : ε} (h : errIs x y = true) : x = .error y := by
  cases x with
  | ok z => simp [errIs] at h
  | error z => simpa [errIs] using h

/-! ### Helpers -/

/-- A module whose domains run, whose links have trained and whose Wheelhouse serves. -/
def up : State := { State.reset.wr Reg.pwr_DOM_ON 0 0xFFF with
  pwr := { State.reset.pwr with valid := true, good := 0xFFF }, hif := { State.reset.hif with trained := 3 } }

/-- A 32-bit access of host A to a BAR0 offset. -/
def acc (off : Nat) : Access := { link := 0, bar := 0, off := off, size := 4 }

/-! ### Witnesses: the hypotheses of each statement are met -/

/-- Operands that meet the hypotheses of each clause of RegisterWriteReachesEveryField. -/
theorem witness_RegisterWriteReachesEveryField :
    (up.admits (acc 0x780010) ∧ Reg.fieldsAt (acc 0x780010).addr ≠ [] ∧ ¬(0x680000 ≤ (acc 0x780010).addr ∧ (acc 0x780010).addr < 0x700000) ∧ (acc
      0x780010).addr ≠ 0x40000 ∧ (acc 0x780010).addr ≠ 0x40040) ∧
    (up.linkUp (Access.mk 1 0 2 4).link = true ∧ (Access.mk 1 0 2 4).sizeOk = false) ∧
    (Reg.log_RATE_MAX.own = false ∧ Reg.log_RATE_MAX.acc = .rwb ∧ Reg.log_RATE_MAX.clamp = .range 1 1000) ∧
    (Reg.pwr_FAN_FREQ.own = false ∧ Reg.pwr_FAN_FREQ.acc = .rw ∧ Reg.pwr_FAN_FREQ.base < 0x1000000 ∧ Reg.pwr_FAN_FREQ.clamp = .range 1000 40000) ∧
    (Reg.hif_REV.own = false ∧ Reg.hif_REV.acc = .ro ∧ Reg.hif_REV.clamp = .any) := ⟨
  by unfold State.admits; decide +kernel,
  by decide +kernel,
  by decide +kernel,
  by decide +kernel,
  by decide +kernel⟩

/-- Operands that meet the hypotheses of each clause of BufferedWriteWaitsAndReadsBack. -/
theorem witness_BufferedWriteWaitsAndReadsBack :
    (Reg.log_RATE_MAX.acc = .rwb ∧ Reg.log_RATE_MAX.bnd ≠ .frame ∧ ((up.hif.shadow.filter fun b => b.blk = Reg.log_RATE_MAX.blk).map
      (·.addr)).eraseDups.length < 256 ∧ up.hif.shadow.all (fun b => b.txn.isNone) = true ∧ Reg.log_SEQ_NEXT.key 0 ≠ Reg.evt_PEND.key 0) := by decide +kernel

/-- Operands that meet the hypotheses of each clause of RegisterReadClearsReadClearCounters. -/
theorem witness_RegisterReadClearsReadClearCounters :
    (up.admits (acc 0x18) ∧ up.posted 0 = none ∧ up.sliceView (acc 0x18).addr = none ∧ Reg.fieldsAt (acc 0x18).addr ≠ [] ∧ ¬(0x21000 ≤ (acc 0x18).addr
      ∧ (acc 0x18).addr < 0x21210) ∧ up.refresh (acc 0x18).addr = up ∧ Reg.adcch_CH_RES.at? (acc 0x18).addr = none ∧ Reg.adcrq_REQ_RES.at? (acc
      0x18).addr = none ∧ Tbl.look none up.adc.latch (acc 0x18).addr = none) ∧
    (Reg.hif_HIF_COMPAT_DROP_A.acc = .rc ∧ Reg.hif_HIF_COMPAT_DROP_A ≠ Reg.prt_RX_FRAMES_LO ∧ Reg.hif_HIF_COMPAT_DROP_A ≠ Reg.prt_RX_BYTES_LO ∧
      Reg.hif_HIF_COMPAT_DROP_A ≠ Reg.prt_TX_FRAMES_LO ∧ Reg.hif_HIF_COMPAT_DROP_A ≠ Reg.prt_TX_BYTES_LO) := ⟨
  by unfold State.admits; decide +kernel,
  by decide +kernel⟩

/-- Operands that meet the hypotheses of each clause of UnmappedAccessIsIgnored. -/
theorem witness_UnmappedAccessIsIgnored :
    (up.linkUp 0 = true ∧ (acc 0x7C).sizeOk = true ∧ (acc 0x7C).size = 4 ∧ up.windowOk (acc 0x7C) = true ∧ bit 0 up.hif.compat = false ∧ up.reach 0x7C
      = true ∧ up.posted 0 = none ∧ up.refresh 0x7C = up ∧ up.sliceView 0x7C = none ∧ mailboxOffset 0x7C = none ∧ msixAt 0x7C = none ∧ ¬(0x21000 ≤
      0x7C ∧ 0x7C < 0x21210) ∧ Reg.fieldsAt 0x7C = [] ∧ Reg.adcch_CH_RES.at? 0x7C = none ∧ Reg.adcrq_REQ_RES.at? 0x7C = none ∧ Tbl.look none
      up.adc.latch 0x7C = none) ∧
    (up.linkUp 1 = true ∧ (Access.mk 1 2 0x7F0000 4).sizeOk = true ∧ (Access.mk 1 2 0x7F0000 4).size = 4 ∧ up.windowOk (Access.mk 1 2 0x7F0000 4) =
      false) := ⟨
  by decide +kernel,
  by decide +kernel⟩

/-- Operands that meet the hypotheses of each clause of CompatibilityModeAndPostedWrites. -/
theorem witness_CompatibilityModeAndPostedWrites :
    (up.linkUp 1 = true) ∧
    (({ up with hif := { up.hif with postedA := some (0x780010, 5) } } : State).hif.postedA = some (0x780010, 5) ∧ ({ up with hif := { up.hif with postedA := some (0x780010, 5) } }
      : State).reach 0x780010 = true) := ⟨
  by decide +kernel,
  by decide +kernel⟩

/-- Block 13 held, with one buffered write of RATE_MAX. -/
def held : State := (up.buffer Reg.log_RATE_MAX 0 7 0).wr Reg.evt_HOLD 0 (2 ^ 13)

/-- The state in which the checker compares. -/
def chk (s : State) (b : Nat) : State :=
  let u := s.wr Reg.evt_EVT_CFG_LIVE b (s.cfgCrc b)
  u.wr Reg.evt_EVT_CFG_ALL 0 (crcOfBlocks ((List.range 19).map fun k => u.raw Reg.evt_EVT_CFG_LIVE k))

/-- Block 13 with the reference it has. -/
def eq13 : State := up.wr Reg.evt_EVT_CFG_REF 13 (up.cfgCrc 13)

set_option maxRecDepth 100000 in
/-- Operands that meet the hypotheses of each clause of ConfigurationHoldAndChecker. -/
theorem witness_ConfigurationHoldAndChecker :
    (up.linkUp 1 = true) ∧
    (up.linkUp 1 = true ∧ 18 < 19 ∧ (acc (Reg.evt_EVT_CFG_REF.addr 18)).addr = Reg.evt_EVT_CFG_REF.addr 18) ∧
    (∃ b, b ∈ held.hif.shadow ∧ held.held b.blk = true ∧ b.bnd ≠ .cfgRef ∧ held.hif.shadow.all (fun b => b.txn.isNone) = true) ∧
    (bit 18 ((up.wr Reg.evt_CHK_EN 0 0).raw Reg.evt_CHK_EN) = false) ∧
    (bit 13 (eq13.raw Reg.evt_CHK_EN) = true ∧ (chk eq13 13).raw Reg.evt_EVT_CFG_LIVE 13 = (chk eq13 13).raw Reg.evt_EVT_CFG_REF 13 ∧ bit 13 ((chk
      eq13 13).raw Reg.evt_BAD) = false ∧ bit 13 ((chk (eq13.wr Reg.evt_BAD 0 (2 ^ 13)) 13).raw Reg.evt_BAD) = true) ∧
    (bit 13 (up.raw Reg.evt_CHK_EN) = true ∧ (chk up 13).raw Reg.evt_EVT_CFG_LIVE 13 ≠ (chk up 13).raw Reg.evt_EVT_CFG_REF 13 ∧ bit 13 ((chk up
      13).raw Reg.evt_BAD) = false ∧ bit 13 ((chk (up.wr Reg.evt_BAD 0 (2 ^ 13)) 13).raw Reg.evt_BAD) = true) := ⟨
  by decide +kernel,
  by decide +kernel,
  by decide +kernel,
  by decide +kernel,
  by decide +kernel,
  by decide +kernel⟩

/-- Operands that meet the hypotheses of each clause of PendClearAndEventOfOneCycle. -/
theorem witness_PendClearAndEventOfOneCycle :
    (127 < 128 ∧ 127 ≠ 102 ∧ (up.wr Reg.src_EN 127 1).raw Reg.src_EN 127 = 1) ∧
    (0 < 128 ∧ (up.wr Reg.src_PEND 0 1).raw Reg.src_PEND 0 = 1) := ⟨
  by decide +kernel,
  by decide +kernel⟩

/-- Every function of every link may send, and its entries are unmasked. -/
def msg : State := { up with hif := { up.hif with
  fn := (List.range 6).map fun k => (k, { busMaster := true, enable := true }),
  msix := [(127, { addr := 0xFEE00000, data := 5, masked := false })] } }

/-- A window bound to slice 127. -/
def win127 : State := up.wr Reg.slc_STATE 127 1

/-- Operands that meet the hypotheses of each clause of UnmaskingSendsTheWaitingMessage. -/
theorem witness_UnmaskingSendsTheWaitingMessage :
    (127 < 128 ∧ msg.raw Reg.hif_SPLIT = 0 ∧ Tbl.look false ({ msg with hif := { msg.hif with due := [(127, true)] } } : State).hif.due 127 = true ∧
      msg.fnOpen 0 127 = true ∧ (Tbl.look ({} : MsixEntry) msg.hif.msix 127).masked = false) ∧
    (127 < 128 ∧ msg.fnOpen 1 127 = true ∧ Tbl.look false ({ msg with hif := { msg.hif with pba := [(4224 + 127, true)] } } : State).hif.pba (1 * 4224
      + 127) = true ∧ msg.flag Reg.src_PEND 127 = false ∧ (msg.wr Reg.src_PEND 127 1).flag Reg.src_PEND 127 = true) ∧
    (win127.windowSlice (Access.mk 0 2 0x7FF004 4) = some 127 ∧ Tbl.look 0 win127.hif.vecDue 127 = 0) := ⟨
  by decide +kernel,
  by decide +kernel,
  by decide +kernel⟩

/-! ### Dictionary and Chartroom -/

/-- A HELLO for any module, over port M. -/
def hi : Msg :=
  { t := 0, ip := 9, switched := false, vlan := 0, cls := 0, size := 1400, fragment := false, session := 0, seq := 0, fleet := 0,
    any := true, body := List.replicate 129 1 }

/-- An authenticated session of an Engineer, with a note to be acknowledged. -/
def ses : Session :=
  { id := 1, ip := 9, switched := false, fleet := 0, authed := true, role := 2, slot := 256, idle := 60, replied := 0, lastMsg := 0,
    notes := [{ id := 3, body := [], last := 0 }, { id := 4, body := [], resent := 5, last := 0 }] }

/-- A handshake under way. -/
def hand : Handshake :=
  { id := 2, ip := 9, switched := false, vlan := 0, fleet := 0, assigned := false, idle := 60, clientPub := [], clientNonce := [] }

/-- Usable identity, session root and session keys, one session and one handshake. -/
def wheel : State := { (up.wr Reg.bnc_MEAS_COUNT 0 5).wr Reg.bnc_JSEL 0 0 with
  bnc := { up.bnc with slots := [(1, { state := 1, kind := 1, usage := 0x20, key := [1] }), (4, { state := 1, kind := 4, usage := 1, key := [4] }),
    (256, { state := 1, kind := 7, usage := 4, key := [2] })] },
  wh := { up.wh with sessions := [ses], handshakes := [hand] } }

/-- The same with the session not yet authenticated. -/
def fresh : State := { wheel with wh := { wheel.wh with sessions := [{ ses with authed := false }] } }

/-- A message of the session. -/
def note1 : Msg := { hi with session := 1, seq := 1, any := false }

/-- Operands that meet the hypotheses of each clause of HandshakeBeginsAndIsAnswered. -/
theorem witness_HandshakeBeginsAndIsAnswered :
    ((up.advance hi.t).reaches hi none = true ∧ msgFits hi = true ∧ ({ up with wh := { up.wh with blocked := [(9, 1)] } } : State).isBlocked 9 = true
      ∧ (up.advance hi.t).isBlocked hi.ip = false ∧ (up.advance hi.t).isAddressed hi = true ∧ hi.body.length = 129) ∧
    ((up.advance hi.t).wh.maxSessions ≤ ({ up with wh := { up.wh with sessions := List.replicate 16 ses } } : State).wh.sessions.length) ∧
    (({ up with wh := { up.wh with handshakes := List.replicate 8 hand } } : State).wh.handshakes.length = 8 ∧ 0 + 8 < up.wh.maxSessions) ∧
    (wheel.wh.handshakes.find? (fun h => h.id = 2) = some hand ∧ wheel.wheelRuns = true ∧ wheel.keyFor 4 0 = .ok [4] ∧ wheel.keyFor 1 useSign = .ok
      [1] ∧ wheel.poolSlot = some 257 ∧ 257 ≠ 1) ∧
    (({ up with wh := { up.wh with blocked := [(9, 1)] } } : State).wh.blocked.find? (fun e => e.1 = 9) = some (9, 1)) := ⟨
  by decide +kernel,
  by decide +kernel,
  by decide +kernel,
  ⟨by decide +kernel, by decide +kernel, of_ok (by decide +kernel), of_ok (by decide +kernel), by decide +kernel, by decide +kernel⟩,
  by decide +kernel⟩

/-- Operands that meet the hypotheses of each clause of SessionMessagesOpenAndTimeOut. -/
theorem witness_SessionMessagesOpenAndTimeOut :
    ((fresh.advance note1.t).opens note1 false { ses with authed := false } [2] ∧ ({ ses with authed := false } : Session).authed = false) ∧
    ((wheel.advance note1.t).opens note1 true ses [2]) ∧
    ((wheel.advance note1.t).opens note1 false ses [2]) ∧
    (fresh.session 1 = some { ses with authed := false } ∧ fresh.wheelRuns = true ∧ wheel.session 1 = some ses ∧ ses.authed = true ∧ wheel.wheelRuns =
      true ∧ ses.id = 1) := ⟨
  ⟨⟨by decide +kernel, by decide +kernel, by decide +kernel, by decide +kernel, by decide +kernel, by decide +kernel, of_ok (by decide +kernel)⟩, by decide +kernel⟩,
  ⟨by decide +kernel, by decide +kernel, by decide +kernel, by decide +kernel, by decide +kernel, by decide +kernel, of_ok (by decide +kernel)⟩,
  ⟨by decide +kernel, by decide +kernel, by decide +kernel, by decide +kernel, by decide +kernel, by decide +kernel, of_ok (by decide +kernel)⟩,
  by decide +kernel⟩

/-- READ, WRITE, BLOCK_READ and BLOCK_WRITE of an Engineer at host A's mailbox: RATE_MAX, the permanent Logbook, the snapshot
lists. -/
def bodyRead : Bytes := [0, 0xE0, 4, 0]
def bodyWrite : Bytes := [0, 0xE0, 4, 0, 8, 0, 4, 0, 0, 0, 9]
def bodyBlockRead : Bytes := [4, 0x0D, 0x10, 0, 0, 0x1F, 0xFF, 0xFF, 5, 68]
def bodyBlockWrite : Bytes := [4, 0x0D, 0x01, 0, 0, 0, 0x17, 0xFC, 0, 4, 0, 0, 0, 0]
def bodyImportWrite : Bytes := [4, 9, 2, 0, 0, 0, 0, 184, 0, 4, 0, 0, 0, 0]

/-- Operands that meet the hypotheses of each clause of ReadWriteAndBlockTransfers. -/
theorem witness_ReadWriteAndBlockTransfers :
    (up.wheelRuns = true ∧ up.canAsk (.manager 0) = true ∧ bodyRead.length = 4 ∧ (up.touchTxn (.manager 0)).right ((up.touchTxn (.manager 0)).request
      (.manager 0) 1 1 bodyRead) (be 0 3 bodyRead) (be 3 1 bodyRead) .r = true ∧ (up.touchTxn (.manager 0)).findObj (be 0 3 bodyRead) (be 3 1
      bodyRead) = .ok (.reg 0x780010) ∧ (up.touchTxn (.manager 0)).objType (.reg 0x780010) ≠ tyDOMAIN) ∧
    (7 ≤ bodyWrite.length ∧ (bodyWrite.drop 7).length = be 5 2 bodyWrite ∧ (up.touchTxn (.manager 0)).writeCheck ((up.touchTxn (.manager 0)).request
      (.manager 0) 2 1 bodyWrite) (be 0 3 bodyWrite) (be 3 1 bodyWrite) (be 4 1 bodyWrite) (bodyWrite.drop 7) = .ok (.reg 0x780010) ∧ (up.touchTxn
      (.manager 0)).wh.txns.find? (fun x => x.owner = .manager 0 && x.covers (be 0 3 bodyWrite)) = none) ∧
    (bodyBlockRead.length = 10 ∧ be 8 2 bodyBlockRead ≤ 1348 ∧ (up.touchTxn (.manager 0)).blockObj ((up.touchTxn (.manager 0)).request (.manager 0) 3
      1 bodyBlockRead) .r = .ok (true, 0) ∧ be 4 4 bodyBlockRead < (up.touchTxn (.manager 0)).domainLen (be 0 3 bodyBlockRead)) ∧
    (10 ≤ bodyBlockWrite.length ∧ be 8 2 bodyBlockWrite ≤ 1348 ∧ (bodyBlockWrite.drop 10).length = be 8 2 bodyBlockWrite ∧ (up.touchTxn (.manager
      0)).blockObj ((up.touchTxn (.manager 0)).request (.manager 0) 4 1 bodyBlockWrite) .w = .ok (false, 6144) ∧ be 0 3 bodyBlockWrite ≠ 0x040A00 ∧ be
      0 3 bodyBlockWrite ≠ 0x040400 ∧ (up.touchTxn (.manager 0)).domainLocked (be 0 3 bodyBlockWrite) = false ∧ ((up.touchTxn (.manager 0)).domain (be
      0 3 bodyBlockWrite) 0).owner = none ∧ be 4 4 bodyBlockWrite + be 8 2 bodyBlockWrite = 6144 ∧ bodyBlockWrite.drop 10 ≠ []) ∧
    (10 ≤ bodyImportWrite.length ∧ be 8 2 bodyImportWrite ≤ 1348 ∧ (bodyImportWrite.drop 10).length = be 8 2 bodyImportWrite ∧ (up.touchTxn (.manager
      0)).blockObj ((up.touchTxn (.manager 0)).request (.manager 0) 4 1 bodyImportWrite) .w = .ok (false, 188) ∧ be 0 3 bodyImportWrite ≠ 0x040A00 ∧
      be 0 3 bodyImportWrite ≠ 0x040400 ∧ (up.touchTxn (.manager 0)).domainLocked (be 0 3 bodyImportWrite) = false ∧ ((up.touchTxn (.manager
      0)).domain (be 0 3 bodyImportWrite) 0).owner = none ∧ be 4 4 bodyImportWrite + be 8 2 bodyImportWrite ≤ 188 ∧ storedDomain (be 0 3
      bodyImportWrite) = false) := ⟨
  ⟨by decide +kernel, by decide +kernel, by decide +kernel, by decide +kernel, of_ok (by decide +kernel), by decide +kernel⟩,
  ⟨by decide +kernel, by decide +kernel, of_ok (by decide +kernel), by decide +kernel⟩,
  ⟨by decide +kernel, by decide +kernel, of_ok (by decide +kernel), by decide +kernel⟩,
  ⟨by decide +kernel, by decide +kernel, by decide +kernel, of_ok (by decide +kernel), by decide +kernel, by decide +kernel, by decide +kernel, by decide +kernel, by decide +kernel, by decide +kernel⟩,
  ⟨by decide +kernel, by decide +kernel, by decide +kernel, of_ok (by decide +kernel), by decide +kernel, by decide +kernel, by decide +kernel, by decide +kernel, by decide +kernel, by decide +kernel⟩⟩

/-- A transaction of module scope of host A's manager, with 1,023 writes staged, and with 1,024. -/
def txn (n : Nat) : Txn := { owner := .manager 0, scope := none, writes := List.replicate n { index := 0xE004, sub := 0, value := [0, 0, 0, 1] }, lastMsg := 0 }
def inTxn (n : Nat) : State := { up with wh := { up.wh with txns := [txn n] } }

/-- Operands that meet the hypotheses of each clause of TransactionLimits. -/
theorem witness_TransactionLimits :
    ((inTxn 1024).wheelRuns = true ∧ (inTxn 1024).canAsk (.manager 0) = true ∧ 7 ≤ bodyWrite.length ∧ (bodyWrite.drop 7).length = be 5 2 bodyWrite ∧
      ((inTxn 1024).touchTxn (.manager 0)).writeCheck (((inTxn 1024).touchTxn (.manager 0)).request (.manager 0) 2 1 bodyWrite) (be 0 3 bodyWrite) (be
      3 1 bodyWrite) (be 4 1 bodyWrite) (bodyWrite.drop 7) = .ok (.reg 0x780010) ∧ ((inTxn 1024).touchTxn (.manager 0)).wh.txns.find? (fun x =>
      x.owner = .manager 0 && x.covers (be 0 3 bodyWrite)) = some (txn 1024) ∧ 1024 < (txn 1024).writes.length + 1) ∧
    (((inTxn 1023).touchTxn (.manager 0)).writeCheck (((inTxn 1023).touchTxn (.manager 0)).request (.manager 0) 2 1 bodyWrite) (be 0 3 bodyWrite) (be
      3 1 bodyWrite) (be 4 1 bodyWrite) (bodyWrite.drop 7) = .ok (.reg 0x780010) ∧ ((inTxn 1023).touchTxn (.manager 0)).wh.txns.find? (fun x =>
      x.owner = .manager 0 && x.covers (be 0 3 bodyWrite)) = some (txn 1023) ∧ ¬(1024 < (txn 1023).writes.length + 1 ∨ 65536 < ((txn 1023).writes.map
      fun e => e.value.length).sum + (bodyWrite.drop 7).length)) := ⟨
  ⟨by decide +kernel, by decide +kernel, by decide +kernel, by decide +kernel, of_ok (by decide +kernel), by decide +kernel, by decide +kernel⟩,
  ⟨of_ok (by decide +kernel), by decide +kernel, by decide +kernel⟩⟩

/-- Operands that meet the hypotheses of each clause of TransactionsAndCommands. -/
theorem witness_TransactionsAndCommands :
    (up.wheelRuns = true ∧ up.canAsk (.manager 0) = true ∧ 0 < 2 ∧ ((0 = 1) ↔ (((up.touchTxn (.manager 0)).roleOf ((up.touchTxn (.manager 0)).request
      (.manager 0) 6 1 (beBytes 1 0))).1 = 5)) ∧ (up.touchTxn (.manager 0)).wh.txns.all (fun x => decide (x.owner ≠ .manager 0 ∧ x.scope ≠ none)) =
      true) ∧
    ((inTxn 1).wheelRuns = true ∧ (inTxn 1).canAsk (.manager 0) = true ∧ ((inTxn 1).touchTxn (.manager 0)).wh.txns.find? (fun x => x.owner = .manager
      0) = some (txn 1)) ∧
    ((inTxn 1).wh.txns.find? (fun x => x.owner = .manager 0) = some (txn 1)) ∧
    (((up.touchTxn (.manager 0)).opExecute ((up.touchTxn (.manager 0)).request (.manager 0) 5 1 [3, 0x10, 1, 0, 0, 0])).toOption.isSome = true) ∧
    ((up.touchTxn (.manager 0)).opExecute ((up.touchTxn (.manager 0)).request (.manager 0) 5 1 [3, 0x10, 1, 0, 0, 1]) = .error stBAD_LENGTH) := ⟨
  by decide +kernel,
  by decide +kernel,
  by decide +kernel,
  by decide +kernel,
  of_error (by decide +kernel)⟩

/-- A request of host A's manager in the queue, and a response of its mailbox. -/
def req1 : Request := up.request (.manager 0) 1 1 bodyRead
def asked : State := { up with wh := { up.wh with queue := [req1] } }
def answer1 : Response := { src := .manager 1, status := 255, bytes := [1, 2], gen := 2 }

/-- Operands that meet the hypotheses of each clause of QueueMailboxesAndNotices. -/
theorem witness_QueueMailboxesAndNotices :
    (asked.wh.queue = req1 :: [] ∧ asked.wheelRuns = true) ∧
    (up.linkUp 1 = true ∧ (up.wr Reg.mmbx_REQLEN 1 1362).raw Reg.mmbx_BUSY 1 = 0 ∧ 4 ≤ (up.wr Reg.mmbx_REQLEN 1 1362).raw Reg.mmbx_REQLEN 1 ∧ (up.wr
      Reg.mmbx_REQLEN 1 1362).raw Reg.mmbx_REQLEN 1 = 1362 ∧ (up.wr Reg.mmbx_REQLEN 1 1362).wh.queue.length < 64) ∧
    ((up.wr Reg.mmbx_BUSY 1 1).linkUp 1 = true ∧ (up.wr Reg.mmbx_BUSY 1 1).raw Reg.mmbx_BUSY 1 = 1) ∧
    (asked.linkUp 0 = true ∧ asked.wh.queue.any (fun r => r.src = .manager 0) = true) ∧
    (({ up with wh := { up.wh with responses := [answer1] } } : State).wh.responses = answer1 :: [] ∧ answer1.src = .manager 1 ∧ 1 < 2 ∧
      answer1.status < 256) ∧
    (wheel.wheelRuns = true ∧ wheel.canAsk (.session 1) = true ∧ (List.replicate 17 (0 : Byte)).length = 17 ∧ 2 ^ 32 - 1 < 2 ^ 32) ∧
    (wheel.session 1 = some ses ∧ ses.notes.find? (fun n => n.id = 3) = some { id := 3, body := [], last := 0 } ∧ ses.notes.find? (fun n => n.id = 4)
      = some { id := 4, body := [], resent := 5, last := 0 }) := ⟨
  by decide +kernel,
  by decide +kernel,
  by decide +kernel,
  by decide +kernel,
  by decide +kernel,
  by decide +kernel,
  by decide +kernel⟩

/-! ### Time (chapter 04) -/

/-- The clock in a state of R135. -/
def stx (st : Nat) : State := up.wr Reg.stx_STATE 0 st

/-- Its registers beside it replaced. -/
def onStx (s : State) (f : Sextant → Sextant) : State := { s with stx := f s.stx }

/-- Operands that meet the hypotheses of each clause of SetTimeStepsInFreerunAndPps. -/
theorem witness_SetTimeStepsInFreerunAndPps :
    ((stx 0).raw Reg.stx_STATE = 0) ∧
    ((stx 5).raw Reg.stx_STATE = 5) ∧
    ((stx 4).raw Reg.stx_STATE ≠ 0 ∧ (stx 4).raw Reg.stx_STATE ≠ 5) := ⟨
  by decide +kernel,
  by decide +kernel,
  by decide +kernel⟩

/-- A step is due at the second hyperperiod boundary. -/
def stepDue : State := onStx { up with mono := unitsHyper } fun x => { x with step := some (-5), lastHyper := 1 }

/-- An edge of PPS_IN with three good ones before it. -/
def edges : State := onStx (up.wr Reg.stx_PPS_IN_EN 0 1) fun x => { x with ppsGood := 3 }

/-- Operands that meet the hypotheses of each clause of SextantStepsSlewsAndPulses. -/
theorem witness_SextantStepsSlewsAndPulses :
    (up.linkUp 1 = true ∧ (Access.mk 1 0 0x280010 4).sizeOk = true ∧ up.reach (Access.mk 1 0 0x280010 4).addr = true) ∧
    ((up.wr Reg.stx_JUMP_PEND 0 1).flag Reg.stx_JUMP_PEND = true ∧ up.flag Reg.stx_JUMP_PEND = false) ∧
    (stepDue.stx.step = some (-5) ∧ stepDue.tai = stepDue.stx.lastHyper * unitsHyper ∧ stepDue.flag Reg.stx_JUMP_PEND = false) ∧
    ((up.wr Reg.stx_SLEWING 0 1).flag Reg.stx_SLEWING = true) ∧
    (((up.wr Reg.stx_LEAP61 0 1).wr Reg.stx_STX_UTC_OFFSET 0 65534).flag Reg.stx_LEAP61 = true ∧ ((up.wr Reg.stx_LEAP61 0 1).wr Reg.stx_STX_UTC_OFFSET
      0 65534).raw Reg.stx_STX_UTC_OFFSET = 65534) ∧
    (((up.wr Reg.stx_LEAP59 0 1).wr Reg.stx_STX_UTC_OFFSET 0 1).flag Reg.stx_LEAP61 = false ∧ ((up.wr Reg.stx_LEAP59 0 1).wr Reg.stx_STX_UTC_OFFSET 0
      1).flag Reg.stx_LEAP59 = true ∧ 0 < ((up.wr Reg.stx_LEAP59 0 1).wr Reg.stx_STX_UTC_OFFSET 0 1).raw Reg.stx_STX_UTC_OFFSET) ∧
    ((stx 3).raw Reg.stx_STATE = 3) ∧
    (edges.flag Reg.stx_PPS_IN_EN = true ∧ edges.stx.master = none ∧ (edges.advance 900000).edgeOffset.natAbs = 100000 ∧ 3 ≤ edges.stx.ppsGood ∧
      (edges.advance 900009).edgeOffset.natAbs = 100001) ∧
    (((stx 5).wr Reg.stx_PPS_OK 0 1).flag Reg.stx_PPS_OK = true ∧ ((stx 5).wr Reg.stx_PPS_OK 0 1).raw Reg.stx_STATE = 5) ∧
    ((onStx up fun x => { x with ppsOut := true }).stx.ppsOut = true ∧ (stx 3).stx.ppsOut = false ∧ ppsRuns ((stx 3).raw Reg.stx_STATE) = true) := ⟨
  by decide +kernel,
  by decide +kernel,
  by decide +kernel,
  by decide +kernel,
  by decide +kernel,
  by decide +kernel,
  by decide +kernel,
  by decide +kernel,
  by decide +kernel,
  by decide +kernel⟩

/-- Fifteen good offsets while ACQUIRING, and offsets being refused while LOCKED. -/
def nearLock : State := onStx (stx 1) fun x => { x with firstDone := true, good := 15 }
def jumped (n : Nat) : State := onStx (stx 2) fun x => { x with firstDone := true, jump := List.replicate n 2000 }

/-- Operands that meet the hypotheses of each clause of ServoLocksAndRefusesJumps. -/
theorem witness_ServoLocksAndRefusesJumps :
    (nearLock.stx.firstDone = true ∧ nearLock.stx.step = none ∧ (-100 : Int).natAbs ≤ nearLock.rd Reg.stx_STX_JUMP_THR ∧ (-100 : Int).natAbs ≤ 100 ∧
      nearLock.raw Reg.stx_STATE = 1 ∧ 15 ≤ nearLock.stx.good) ∧
    ((jumped 6).stx.firstDone = true ∧ (jumped 6).stx.step = none ∧ (jumped 6).rd Reg.stx_STX_JUMP_THR < (1001 : Int).natAbs ∧ (jumped 6).flag
      Reg.stx_SLEWING = false ∧ (jumped 6).stx.jump.length + 1 < (jumped 6).rd Reg.stx_STX_JUMP_PERSIST) := ⟨
  by decide +kernel,
  by decide +kernel⟩

/-- Ports 3 and 31 forward at full duplex with a known link delay; port 3's clock with base MAC address 5 is the master. -/
def other : State := { up with ident := { up.ident with baseMac := 5 } }
def ptp : State := [3, 31].foldl (fun s p => ((s.wr Reg.prt_FWD p 1).wr Reg.prt_FULL p 1).wr Reg.stxp_STX_LINK_DELAY p 100)
  (onStx up fun x => { x with master := some (3, other.portIdentity 0) })
def sync : Bytes := other.ptpFrame ptpMainDst 0 0 0 0 7 0 0 (beBytes 10 0)
def followUp : Bytes := other.ptpFrame ptpMainDst 8 0 0 0 7 0 2 (beBytes 10 0)
def announce : Bytes := other.ptpFrame ptpMainDst 11 0 0 1 7 0 5 (beBytes 30 0)
def response : Bytes := other.ptpFrame ptpPeerDst 3 0 0 0 7 0 5 (beBytes 10 0 ++ beBytes 10 (ptp.portIdentity 31))
def record : SyncRec := { source := other.portIdentity 0, seq := 7, domain := 0, port := 3, arrived := 0, correction := 0 }
def recorded : State := onStx ptp fun x => { x with syncRecs := [record] }
def asking : State := onStx ptp fun x => { x with pdelay := [(31, { asked := some (7, 0), missed := 2 })] }
def backup : State := onStx (((ptp.wr Reg.stx_BACKUP_EN 0 1)).wr Reg.stx_STATE 0 3) fun x => { x with master := none }

/-- The states in which a Follow_Up and an Announce meet the servo and the selection. -/
def followed : State :=
  let u := recorded.advance 9
  let v := u.updSync { kind := 2, base := 0, arrived := 9, source := record.source, seq := record.seq, domain := record.domain }
    fun r => { r with matched := true }
  v.forwardPtp 3 (v.stampIn 3 9) followUp
    (some { kind := 2, base := 0, arrived := 9, source := record.source, seq := record.seq, domain := record.domain })
def heard : State := (ptp.advance 9).forwardPtp 3 ((ptp.advance 9).stampIn 3 9) announce none

/-- Operands that meet the hypotheses of each clause of PtpMessagesTakeTheirEffect. -/
theorem witness_PtpMessagesTakeTheirEffect :
    ((ptp.advance 9).ptpIn 3 = true ∧ (ptp.advance 9).raw Reg.stxp_STX_LINK_DELAY 3 ≠ 0xFFFFFFFF ∧ ptpTwoStep sync = false ∧ (((ptp.advance
      9).syncSeen 3 sync).forwardPtp 3 ((ptp.advance 9).stampIn 3 9) sync (some { kind := 0, base := (ptp.advance 9).pathOf 3, arrived := (ptp.advance 9).stampIn 3 9, source := ptpSource sync, seq := ptpSeq sync, domain := ptpDomain sync })).fromMaster
      3 sync = true) ∧
    ((recorded.advance 9).ptpIn 3 = true ∧ (recorded.advance 9).stx.syncRecs.find? (fun r => r.source = ptpSource followUp && r.seq = ptpSeq followUp
      && r.domain = ptpDomain followUp) = some record ∧ followed.fromMaster 3 followUp = true ∧ record.port = 3) ∧
    ((ptp.advance 9).ptpIn 3 = true ∧ heard.flag Reg.stx_PTP_EN = true ∧ ptpDomain announce = heard.raw Reg.stx_DOMAIN ∧ ptpSource announce / 65536 ≠
      heard.clockId ∧ heard.stx.master ≠ some (3, ptpSource announce)) ∧
    ((ptp.advance 9).ptpIn 31 = true) ∧
    ((Tbl.look ({} : Pdelay) asking.stx.pdelay 31).asked = some (7, 0) ∧ (asking.advance 9).ptpIn 31 = true ∧ ptpSeq response = 7 ∧ be (ptpAt response
      + 44) 10 response = (asking.advance 9).portIdentity 31 ∧ ptpTwoStep response = false) ∧
    ((ptp.advance 9).ptpIn 31 = true ∧ (Tbl.look ({} : Pdelay) ptp.stx.pdelay 31).asked = none ∧ (asking.advance 9).ptpIn 31 = true ∧ (Tbl.look ({} :
      Pdelay) asking.stx.pdelay 31).asked ≠ none ∧ (Tbl.look ({} : Pdelay) asking.stx.pdelay 31).missed = 2) ∧
    (recorded.stx.syncRecs = record :: []) ∧
    ((onStx ptp fun x => { x with foreign := [{ other.ownClock with port := 3 }] }).masterRec = some { other.ownClock with port := 3 }) ∧
    ((backup.advance 0).flag Reg.stx_PTP_EN = true ∧ (backup.advance 0).flag Reg.stx_BACKUP_EN = true ∧ (backup.advance 0).raw Reg.stx_STATE = 3 ∧
      (backup.advance 0).stx.master = none ∧ (backup.advance 0).flag Reg.stx_MASTER = false ∧ (backup.advance 0).mono < (backup.advance
      0).stx.backupSince + 3 * unitsSec ∧ (((List.range 32).filter fun p => (backup.advance 0).ptpIn p).foldl (fun (v : State) p => v.queuePtp 35
      v.mono (v.announceFrame p) [p] none) (backup.advance 0)).flag Reg.stx_MASTER = false) := ⟨
  by decide +kernel,
  by decide +kernel,
  by decide +kernel,
  by decide +kernel,
  by decide +kernel,
  by decide +kernel,
  by decide +kernel,
  by decide +kernel,
  by decide +kernel⟩

/-! ### Network (chapters 05–07) -/

/-- A frame of IPv4 without FCS; a PAUSE; an ARP and a tagged frame for port M. -/
def eth (len : Nat) : Bytes := beBytes 6 2 ++ beBytes 6 4 ++ beBytes 2 0x0800 ++ List.replicate (len - 14) 0
def pauseFrame (quanta : Nat) : Bytes := beBytes 6 0x0180C2000001 ++ beBytes 6 4 ++ beBytes 2 0x8808 ++ beBytes 2 1 ++ beBytes 2 quanta
def arp : Bytes := beBytes 6 2 ++ beBytes 6 4 ++ beBytes 2 0x0806 ++ List.replicate 46 0

/-- Port 31 linked and forwarding at full duplex. -/
def port31 : State := ((up.wr Reg.prt_LINK 31 1).wr Reg.prt_FWD 31 1).wr Reg.prt_FULL 31 1

/-- A buffered frame for port 31, and one on its wire. -/
def fr : SwFrame :=
  { id := 1, bytes := eth 60, ingress := 3, arrived := 5, enq := 5, cls := 0, owner := 128, ports := [31], epoch := 0, cells := 1 }
def onWire : Tx := { frame := fr, bytes := eth 60, start := 0, stop := 100 }
def onNet (s : State) (f : Net → Net) : State := { s with net := f s.net }
def onPx (s : State) (p : Nat) (f : PortX → PortX) : State := onNet s fun n => { n with px := Tbl.ins (f {}) n.px p }
def wired (s : State) : State := onNet s fun n => { n with tx := [(31, some onWire)] }
def buffered (s : State) : State := onNet s fun n => { n with frames := [fr] }

/-- Operands that meet the hypotheses of each clause of PortsReceiveAndPause. -/
theorem witness_PortsReceiveAndPause :
    (31 < 32 ∧ port31.flag Reg.prt_LINK 31 = true ∧ (eth 59).length = 59 ∧ (eth 60).length = 60 ∧ (eth (port31.rxMaxFrame 31 - 4)).length + 4 =
      port31.rxMaxFrame 31 ∧ (headersOf (eth 60)).etype ≠ 0x8808 ∧ port31.flag Reg.prt_FWD 31 = true) ∧
    ((up.wr Reg.prt_LINK 0 1).flag Reg.prt_LINK 0 = true ∧ (up.wr Reg.prt_LINK 0 1).flag Reg.prt_FWD 0 = false) ∧
    (port31.flag Reg.prt_FULL 31 = true ∧ be 14 2 (pauseFrame 65535) = 1 ∧ be 16 2 (pauseFrame 65535) ≠ 0 ∧ (port31.wr Reg.prt_RX_PAUSE_EN 31 1).rxRaw
      Reg.prt_RX_PAUSE_EN 31 ≠ 0 ∧ Tbl.look none port31.net.tx 31 = none ∧ Tbl.look none (wired port31).net.tx 31 = some onWire) ∧
    ((port31.wr Reg.prt_PAUSED 31 1).flag Reg.prt_PAUSED 31 = true) ∧
    (((port31.wr Reg.swp_XOFF_ACT 31 1).wr Reg.prt_TX_PAUSE_EN 31 1).flag Reg.swp_XOFF_ACT 31 = true ∧ ((port31.wr Reg.swp_XOFF_ACT 31 1).wr
      Reg.prt_TX_PAUSE_EN 31 1).flag Reg.prt_TX_PAUSE_EN 31 = true ∧ ((port31.wr Reg.swp_XOFF_ACT 31 1).wr Reg.prt_TX_PAUSE_EN 31 1).flag Reg.prt_FULL
      31 = true) := ⟨
  by decide +kernel,
  by decide +kernel,
  by decide +kernel,
  by decide +kernel,
  by decide +kernel⟩

/-- A half-duplex port with a frame on its wire, in its fifteenth attempt. -/
def colliding : State := wired (onPx (up.wr Reg.prt_LINK 31 1) 31 fun x => { x with attempts := 14, backoff := some 9 })

/-- Operands that meet the hypotheses of each clause of LinksComeUpForwardAndGo. -/
theorem witness_LinksComeUpForwardAndGo :
    ((up.wr Reg.prt_LANE_MODE 3 1).raw Reg.prt_LANE_MODE 3 = 1 ∧ (up.wr Reg.prt_LANE_MODE 3 1).flag Reg.prt_LP 3 = false ∧ (up.wr Reg.prt_LANE_MODE 3
      1).flag Reg.prt_LINK 3 = false) ∧
    (20 ≤ 27 ∧ 27 < 28 ∧ ((up.wr Reg.prt_LANE_MODE 27 2).wr Reg.prt_AN_EN 27 1).raw Reg.prt_LANE_MODE 27 = 2 ∧ ((up.wr Reg.prt_LANE_MODE 27 2).wr
      Reg.prt_AN_EN 27 1).flag Reg.prt_AN_EN 27 = true ∧ ((up.wr Reg.prt_LANE_MODE 27 2).wr Reg.prt_AN_EN 27 1).flag Reg.prt_LP 27 = false ∧ ((up.wr
      Reg.prt_LANE_MODE 27 2).wr Reg.prt_AN_EN 27 1).flag Reg.prt_LINK 27 = false ∧ 1 < 2) ∧
    ((up.wr Reg.prt_LINK 31 1).flag Reg.prt_LINK 31 = true ∧ (up.wr Reg.prt_LINK 31 1).flag Reg.prt_SUPPRESSED 31 = false ∧ (up.wr Reg.prt_LINK 31
      1).flag Reg.prt_QUARANTINE 31 = false ∧ (up.wr Reg.prt_LINK 31 1).flag Reg.prt_LP 31 = false ∧ (up.wr Reg.prt_LINK 31 1).flag Reg.prt_FWD 31 =
      false) ∧
    ((up.wr Reg.prt_SUPPRESSED 31 1).flag Reg.prt_SUPPRESSED 31 = true ∧ (up.wr Reg.prt_QUARANTINE 31 1).flag Reg.prt_QUARANTINE 31 = true) ∧
    ((buffered up).flag Reg.prt_FWD 31 = false ∧ (buffered up).queuedFor 31 = [fr]) ∧
    (Tbl.look none colliding.net.tx 31 = some onWire ∧ colliding.flag Reg.prt_FULL 31 = false ∧ max colliding.mono 9 ≤ onWire.start +
      ((colliding.advance 9).count Reg.prt_PRT_COLL 31).bitTime 31 512 ∧ (colliding.px 31).attempts < 15) ∧
    ((colliding.px 31).backoff = some 9) := ⟨
  by decide +kernel,
  by decide +kernel,
  by decide +kernel,
  by decide +kernel,
  by decide +kernel,
  by decide +kernel,
  by decide +kernel⟩

/-- Admitted traffic of classes 6 and 7 leaves by port 3. -/
def admitEntry (cls egress : Nat) : Bytes :=
  List.replicate 9 0 ++ [0x80] ++ List.replicate 7 0 ++ leBytes 1 cls ++ leBytes 5 egress ++ List.replicate 9 0
def admitted : State := onNet up fun n => { n with epochs := [{ num := 0, cls := [(0, admitEntry 6 8), (1, admitEntry 7 8)] }] }

/-- Every port of group 3 in low power, as it is asked to be. -/
def asleep : State := ((List.range 8).foldl (fun s k => (s.wr Reg.prt_LP_REQ (24 + k) 1).wr Reg.prt_LP (24 + k) 1) up).wr Reg.prt_WAKE_EN 31 1

/-- A super-frame for port 31 within the limits, and one whose header is too short. -/
def sup (hdr : Nat) : SwFrame := { fr with bytes := eth 300, tso := some (hdr, 64, 0, 0) }
def supNet (hdr : Nat) : State := onNet port31 fun n => { n with frames := [sup hdr] }

/-- Port M with its link. -/
def mPort : State := (up.wr Reg.prtg_M_EN 0 1).wr Reg.prtg_M_LINK 0 1

/-- Operands that meet the hypotheses of each clause of PortSettingsAndLowPower. -/
theorem witness_PortSettingsAndLowPower :
    (admitted.admOn 3 = true ∧ admitted.admOn 4 = false) ∧
    (admitted.admEgress 4 (· = 6) = false ∧ admitted.admEgress 4 (· = 7) = false ∧ 255 < 256 ∧ admitted.admEgress 3 (· = 6) = true ∧
      admitted.admEgress 3 (· = 7) = true ∧ 0x3F % 256 ||| 0xC0 ≠ 0x3F % 256) ∧
    (1 ≠ admitted.lastWritten Reg.prt_LANE_MODE 3 ∧ laneAllowed 4 4 = true ∧ laneAllowed 4 5 = false ∧ laneAllowed 31 6 = true) ∧
    (admitted.admEgress 4 (fun _ => true) = false) ∧
    (3 < 4 ∧ (groupMembers 3).all (fun p => asleep.flag Reg.prt_LP_REQ p || asleep.raw Reg.prt_LANE_MODE p = 0) = true ∧ bit 3 (asleep.raw
      Reg.prtg_GRP_LP) = false) ∧
    (asleep.flag Reg.prt_WAKE_EN 31 = true ∧ asleep.flag Reg.prt_LP 31 = true) ∧
    (bit 3 ((asleep.wr Reg.prtg_GRP_WAKING 0 8).raw Reg.prtg_GRP_WAKING) = true) ∧
    (((supNet 13).queuedFor 31).find? (fun f => f.tso.isSome) = some (sup 13) ∧ (sup 13).tso = some (13, 64, 0, 0) ∧ (supNet 13).tsoOk 31 (sup 13).cls
      13 64 0 (sup 13).bytes = false) ∧
    (((supNet 14).queuedFor 31).find? (fun f => f.tso.isSome) = some (sup 14) ∧ (sup 14).tso = some (14, 64, 0, 0) ∧ (supNet 14).tsoOk 31 (sup 14).cls
      14 64 0 (sup 14).bytes = true ∧ 31 < 36 ∧ (supNet 14).txBusy 31 = false ∧ ((supNet 14).px 31).pauseOut = [] ∧ ((supNet 14).choose 31).1 = some
      (sup 14)) ∧
    (mPort.flag Reg.prtg_M_EN = true ∧ mPort.flag Reg.prtg_M_LINK = true ∧ portMAccepts arp = true ∧ portMAccepts (eth 60) = false) ∧
    (3 < 4) := ⟨
  by decide +kernel,
  by decide +kernel,
  by decide +kernel,
  by decide +kernel,
  by decide +kernel,
  by decide +kernel,
  by decide +kernel,
  by decide +kernel,
  by decide +kernel,
  by decide +kernel,
  by decide +kernel⟩

/-- A Sync, Follow_Up or Pdelay_Resp whose correctionField is one step below its largest value; its record. -/
def full (type : Nat) : Bytes := other.ptpFrame ptpMainDst type 0 0x7FFFFFFFFFFFFFFF 0 7 0 0 (beBytes 10 0)
def mark (kind : Nat) : PtpMark := { kind := kind, base := 9, arrived := 0, source := record.source, seq := 7, domain := 0 }
def marked (kind : Nat) : SwFrame := { fr with ptp := some (mark kind) }
def summed : State := onStx up fun x => { x with syncRecs := [{ record with sums := [(31, 9)] }] }

/-- Operands that meet the hypotheses of each clause of CorrectionFieldSaturates. -/
theorem witness_CorrectionFieldSaturates :
    (31 < 32 ∧ (marked 0).ptp = some (mark 0) ∧ (mark 0).kind = 0 ∧ (0x7FFFFFFFFFFFFFFF : Int) < toSigned 64 (be ((headersOf (full 0)).payload + 8) 8
      (full 0)) + ((mark 0).base + ((summed.stampOut 31 : Int) - (mark 0).arrived)) * 65536 / 9) ∧
    ((marked 2).ptp = some (mark 2) ∧ summed.stx.syncRecs.find? (fun r => r.source = (mark 2).source ∧ r.seq = (mark 2).seq ∧ r.domain = (mark
      2).domain) = some { record with sums := [(31, 9)] } ∧ ({ record with sums := [(31, 9)] } : SyncRec).sums.find? (fun x => x.1 = 31) = some (31,
      9) ∧ (0x7FFFFFFFFFFFFFFF : Int) < toSigned 64 (be ((headersOf (full 8)).payload + 8) 8 (full 8)) + 9 * 65536 / 9) ∧
    ((marked 4).ptp = some (mark 4) ∧ (0x7FFFFFFFFFFFFFFF : Int) < toSigned 64 (be ((headersOf (full 3)).payload + 8) 8 (full 3)) + ((mark 4).base +
      ((summed.stampOut 31 : Int) - (mark 4).arrived)) * 65536 / 9) := ⟨
  by decide +kernel,
  by decide +kernel,
  by decide +kernel⟩

/-- A frame that port 3 has passed on, in a switch core with empty tables. -/
def arrived : Arrival := { port := 3, t := 5, bytes := eth 60 }
def arriving : State := onNet port31 fun n => { n with arrivals := [arrived] }

/-- The module's pool is full. -/
def poolFull : State := up.wr Reg.own_OCC 128 (up.poolSize 128)

/-- A frame whose tag is being checked, and a PAUSE waiting. -/
def checking : State := onNet up fun n => { n with frames := [{ fr with verdict := 1, tagMode := 3 }] }
def pausing : State := onPx port31 31 fun x => { x with pauseOut := [7] }

/-- Operands that meet the hypotheses of each clause of FramesPassTheSwitchCore. -/
theorem witness_FramesPassTheSwitchCore :
    (arriving.net.arrivals.find? (fun a => a.port = 3) = some arrived ∧ arriving.groupOf arrived.port = none ∧ arrived.desc = none ∧ (headersOf
      arrived.bytes).etype ≠ 0x88F7 ∧ arrived.bad = false) ∧
    (4 < 5 ∧ arrived.tso = none ∧ (port31.expand 3 4 (wireLen (eth 60)) [31] none).1 = some ([31], []) ∧ (port31.expand 3 4 (wireLen (eth 60)) [31]
      none).2.fits 0 128 (cellsOf (wireLen (eth 60))) = true) ∧
    (poolFull.fits 0 128 (cellsOf (wireLen (eth 60))) = false ∧ poolFull.fits 0 127 (cellsOf (wireLen (eth 60))) = false ∧ 127 < 128 ∧ arrived.send =
      none) ∧
    (checking.net.frames.find? (fun f => f.verdict = 1) = some { fr with verdict := 1, tagMode := 3 }) ∧
    (31 < 36 ∧ pausing.txBusy 31 = false ∧ (pausing.px 31).pauseOut = 7 :: [] ∧ pausing.flag Reg.prt_LINK 31 = true) ∧
    ((buffered port31).txBusy 31 = false ∧ ((buffered port31).px 31).pauseOut = [] ∧ ((buffered port31).choose 31).1 = some fr) ∧
    (31 < 32 ∧ Tbl.look none (wired port31).net.tx 31 = some onWire ∧ ((wired port31).px 31).backoff = none ∧ (wired port31).net.frames.all (fun f =>
      !(f.id = onWire.frame.id && f.ports.contains 31)) = true ∧ ((wired port31).px 31).pauseNext = none ∧ (onPx (wired port31) 31 fun x => { x with pauseNext := some 65535 }).net.tx
      = (wired port31).net.tx ∧ ((onPx (wired port31) 31 fun x => { x with pauseNext := some 65535 }).px 31).pauseNext = some 65535) ∧
    (3 < 4 ∧ (onNet port31 fun n => { n with frames := [{ fr with cls := 3 }] }).net.frames.find? (fun f => f.cls = 3 && f.ports.contains 31) = some { fr with cls := 3 }) ∧
    (fr ∈ (buffered up).net.frames ∧ fr.ports ≠ [] ∧ (buffered up).net.frames.all (fun g => g.ports.isEmpty || decide (g = fr) || decide (fr.arrived <
      g.arrived)) = true) ∧
    ((onNet up fun n => { n with fdb := [(fdbKey 5 4095, { port := 3, last := 0 })] }).net.fdb.find? (fun e => e.1 = fdbKey 5 4095) = some (fdbKey 5
      4095, { port := 3, last := 0 })) := ⟨
  by decide +kernel,
  by decide +kernel,
  by decide +kernel,
  by decide +kernel,
  by decide +kernel,
  by decide +kernel,
  by decide +kernel,
  by decide +kernel,
  by decide +kernel,
  by decide +kernel⟩

/-- A loading version behind the current one; a retiring version before it, with and without a change that waits. -/
def loading : State := onNet up fun n => { n with epochs := [{ num := 0 }, { num := 1 }] }
def retiring (cs : List TableChange) : State := onNet (up.wr Reg.swc_CLS_EPOCH 0 1) fun n =>
  { n with epochs := [{ num := 0 }, { num := 1 }], changes := cs }

/-- Operands that meet the hypotheses of each clause of TableEpochsAndAudit. -/
theorem witness_TableEpochsAndAudit :
    ((loading.net.epochs.dropWhile fun e => e.num ≠ loading.raw Reg.swc_CLS_EPOCH).drop 1 = { num := 1 } :: []) ∧
    ((retiring []).net.epochs = { num := 0 } :: [{ num := 1 }] ∧ 0 ≠ (retiring []).raw Reg.swc_CLS_EPOCH ∧ (retiring []).epochRefs 0 = 0 ∧ (retiring
      []).net.changes = [] ∧ (retiring [{}]).net.changes = {} :: []) ∧
    (up.flag Reg.swc_AUDIT_EN = true) := ⟨
  by decide +kernel,
  by decide +kernel,
  by decide +kernel⟩

/-- Pair 7 alone works on ports 1 and 2; ring 3's supervision frame is on its way; a node is proxied. -/
def pair7 : State := (((up.wr Reg.pair_EN 7 1).wr Reg.pair_PORT_A 7 1).wr Reg.pair_PORT_B 7 2).wr Reg.pair_A_OK 7 1
def onRed (s : State) (f : Redund → Redund) : State := { s with red := f s.red }
def silent : State := onRed pair7 fun r => { r with groups := [(7, { lastA := 4, lastB := 5 })] }
def ring3 : State := onRed (up.wr Reg.ring_RING_OK 3 1) fun r => { r with groups := [(11, { supSent := some 5 })] }
def proxied : State := onRed up fun r => { r with nodes := [{ mac := 6, seq := 0, last := 0 }] }

/-- Operands that meet the hypotheses of each clause of RedundantPathsAreSupervised. -/
theorem witness_RedundantPathsAreSupervised :
    ((List.range 12).filter (fun g => pair7.groupEn g && !pair7.groupBad g) = [7] ∧ 7 < 8 ∧ pair7.red.nodes = []) ∧
    (silent.groupEn 7 = true ∧ silent.groupBad 7 = false ∧ (silent.grp 7).lastA < (silent.grp 7).lastB ∧ silent.flag Reg.pair_A_OK 7 = true) ∧
    ((ring3.grp (8 + 3)).supSent = some 5 ∧ ring3.flag Reg.ring_RING_OK 3 = true) ∧
    (proxied.red.nodes.find? (fun n => n.mac = 6) = some { mac := 6, seq := 0, last := 0 } ∧ proxied.red.nodes.length ≤ 1024) := ⟨
  by decide +kernel,
  by decide +kernel,
  by decide +kernel,
  by decide +kernel⟩

/-- A module of a unit pair in a state of R221, its partner seen. -/
def unit (st : Nat) : State := onRed ((up.wr Reg.unit_UNIT_STATE 0 st).wr Reg.unit_PARTNER_SEEN 0 1) fun r =>
  { r with stored := 0xFFFFFE, partnerState := 3 }

/-- Operands that meet the hypotheses of each clause of UnitPairTakesOverAndYields. -/
theorem witness_UnitPairTakesOverAndYields :
    ((unit 0).unitState = 0 ∧ (unit 1).unitState ≠ 0 ∧ (unit 4).unitState ≠ 0) ∧
    ((State.receivePair (unit 0) (eth 60)).1 = none) ∧
    (0xFFFFFF = max (unit 3).red.stored (unit 3).red.highSeen + 1 ∧ 0xFFFFFF ≤ 0xFFFFFF ∧ (unit 3).red.writing = none ∧ (unit 3).red.claimNext = none
      ∧ (unit 3).unitState = 3 ∧ (unit 3).flag Reg.unit_PARTNER_SEEN = true) ∧
    ((unit 2).unitState ≠ 3 ∧ 0xFFFFFF = max (unit 1).red.stored (unit 1).red.highSeen + 1 ∧ (unit 1).unitState = 1 ∧ (unit 1).red.lastHb = 0) ∧
    ((onRed (unit 3) fun r => { r with writing := some 9 }).red.writing = some 9) ∧
    ((onRed (unit 3) fun r => { r with claimNext := some 0xFFFFFF }).red.claimNext = some 0xFFFFFF ∧ (onRed (unit 3) fun r => { r with claimNext := some 0xFFFFFF }).unitState
      ≠ 0 ∧ 0xFFFFFF ≤ 0xFFFFFF) ∧
    ((unit 4).unitState = 4 ∧ (unit 4).red.partnerState % 8 = 3 ∧ (unit 4).flag Reg.unit_PARTNER_SEEN = true ∧ (unit 3).unitState ≠ 4) ∧
    ((unit 4).unitState ≠ 5 ∧ (unit 5).unitState = 5) := ⟨
  by decide +kernel,
  by decide +kernel,
  by decide +kernel,
  by decide +kernel,
  by decide +kernel,
  by decide +kernel,
  by decide +kernel,
  by decide +kernel⟩

/-- A frame of the pair to a module whose key slot 5 is usable: length 0, sequence number 1, a tag of zeros. -/
def pairFrame (type claim : Nat) : Bytes := beBytes 6 2 ++ beBytes 6 4 ++ beBytes 2 0x88B5 ++ beBytes 1 1 ++ beBytes 1 type ++ beBytes 2 0
  ++ beBytes 4 1 ++ beBytes 4 claim ++ List.replicate 20 0 ++ List.replicate 16 0

/-- The ACTIVE module with a usable key in slot 5. -/
def keyed (st : Nat) : State := { ((unit st).wr Reg.bnc_MEAS_COUNT 0 5).wr Reg.bnc_JSEL 0 0 with
  bnc := { (unit st).bnc with slots := [(5, { state := 1, kind := 5, usage := 0x10, key := [5] })] } }

/-- Where the tag of such a frame is good, which the opaque GMAC of Config decides, the frame is accepted with its type and
claim: the premise of the clauses of UnitPairTakesOverAndYields and MirrorComparesAndResyncRestores about an accepted
frame. -/
theorem witness_accepted_pair_frame (h : Config.gmac (Config.hkdf [5] [] infoPair 32) (pairIv (((pairFrame 1 0xFFFFFFFF).drop 14).take 32))
    ((pairFrame 1 0xFFFFFFFF).take 12 ++ ((pairFrame 1 0xFFFFFFFF).drop 14).take 32 ++ []) = List.replicate 16 0) :
    ∃ p v, State.receivePair (keyed 4) (pairFrame 1 0xFFFFFFFF) = (some p, v) ∧ p.type = 1 ∧ v.unitState = 4 ∧
      v.flag Reg.unit_PARTNER_SEEN = true ∧ v.raw Reg.unit_RED_CLAIM_OWN < p.claim := by
  have h0 : (keyed 4).net.toHost.find? (fun x => x.bytes.take (pairFrame 1 0xFFFFFFFF).length = pairFrame 1 0xFFFFFFFF) = none := by
    decide +kernel
  have h1 : (keyed 4).unitState = 4 := by decide +kernel
  have h2 : ((pairFrame 1 0xFFFFFFFF).drop (headersOf (pairFrame 1 0xFFFFFFFF)).payload) = (pairFrame 1 0xFFFFFFFF).drop 14 := by
    decide +kernel
  have h3 : be 2 2 ((pairFrame 1 0xFFFFFFFF).drop 14) = 0 := by decide +kernel
  have h4 : slice 32 0 ((pairFrame 1 0xFFFFFFFF).drop 14) = [] := by decide +kernel
  have h5 : slice 32 16 ((pairFrame 1 0xFFFFFFFF).drop 14) = List.replicate 16 0 := by decide +kernel
  have h6 : (be 4 4 ((pairFrame 1 0xFFFFFFFF).drop 14) ≤ (keyed 4).red.rxSeq) = False := by
    have : ¬ be 4 4 ((pairFrame 1 0xFFFFFFFF).drop 14) ≤ (keyed 4).red.rxSeq := by decide +kernel
    exact eq_false this
  have h7 : be 1 1 ((pairFrame 1 0xFFFFFFFF).drop 14) = 1 := by decide +kernel
  have h9 : (keyed 4).keyFor 5 useTagChk = .ok [5] := of_ok (by decide +kernel)
  have h10 : State.pairTagOk (keyed 4) 5 ((pairFrame 1 0xFFFFFFFF).take 12) (((pairFrame 1 0xFFFFFFFF).drop 14).take 32) []
      (List.replicate 16 0) = (some [5], keyed 4) := by
    simp only [State.pairTagOk, State.useKey, h9, h, if_true]
  simp only [State.receivePair, h0, h1, h2, h3, h4, h5, h6, h10]
  refine ⟨_, _, rfl, h7, ?_⟩
  decide +kernel

/-- Records of the mirror of instance 511 of slice 127. -/
def mir (crc : Nat) : MirrorRec := { slice := 127, inst := 511, eval := 3, flags := 0, crc := crc, t := 0 }
def mism (n : Nat) : State := onRed (unit 3) fun r => { r with mism := [(127 * 512 + 511, n)] }
def partner : State := onRed (unit 3) fun r => { r with partner := [mir 1] }
/-- A stream entry of 4,800 samples/s with one channel and a window of 100 µs, and the first 128 samples of stream 0. -/
def ent : Bytes := leBytes 2 0 ++ leBytes 2 0x11 ++ leBytes 4 0 ++ leBytes 2 100 ++ List.replicate 22 0
def onSv (s : State) (f : Ingest → Ingest) : State := { s with sv := f s.sv }
def stored (s : State) : State := onSv s fun v => { v with
  streams := [(0, { entry := ent, newest := some 127, next := 128, front := 128 })],
  store := (List.range 128).map fun a => (a, { a := a, record := 1, vals := [0], quals := [0] }) }
def resync : State := onRed (stored (unit 2)) fun r => { r with resync := [(5, 1)] }

/-- Operands that meet the hypotheses of each clause of MirrorComparesAndResyncRestores. -/
theorem witness_MirrorComparesAndResyncRestores :
    ((mism 1).unitState = 3 ∧ (mir 1).flags % 4 = 0 ∧ (mir 1).crc ≠ (mir 2).crc ∧ Tbl.look 0 (mism 1).red.mism (127 * 512 + 511) + 1 < (mism 1).rd
      Reg.unit_MISMATCH_LIMIT ∧ (mism 2).rd Reg.unit_MISMATCH_LIMIT ≤ Tbl.look 0 (mism 2).red.mism (127 * 512 + 511) + 1) ∧
    ((State.receivePair (unit 0) (eth 60)).1 = none) ∧
    (partner.compareMirror.red.partner = mir 1 :: []) ∧
    (resync.unitState = 2 ∧ resync.red.resync.filter (fun e => e.2 = 1 && resync.storeReady (resync.inst e.1)) = [(5, 1)]) ∧
    (((unit 2).advance 0).unitState = 2 ∧ (unit 2).red.resync = []) := ⟨
  by decide +kernel,
  by decide +kernel,
  by decide +kernel,
  by decide +kernel,
  by decide +kernel⟩

/-! ### Samples, filters and programs (chapters 08–11) -/

/-- Stream k alone, with a horizon of one period. -/
def entH : Bytes := leBytes 2 0 ++ leBytes 2 0x2011 ++ leBytes 4 0 ++ leBytes 2 100 ++ List.replicate 22 0
def flow (k : Nat) : State := onSv up fun v => { v with streams := [(k, { entry := entH })] }

/-- Distance of a message from its nominal time, its absolute number, the window and the horizon, as the statement has them. -/
def dOf (s : State) (k smpCnt time : Nat) : Int :=
  ((time % unitsSec / unitsNs * unitsNs : Nat) : Int) - (smpCnt * entPeriod (s.strm k).entry : Nat)
def aOf (s : State) (k smpCnt time : Nat) : Nat := time / unitsSec * entRate (s.strm k).entry + smpCnt
def wOf (s : State) (k a : Nat) : Int := entWindow (s.entryAt k a) * unitsUs
def hOf (s : State) (k a : Nat) : Int := wOf s k a + (entHorizon (s.entryAt k a) * entPeriod (s.entryAt k a) : Nat)
def earlyOf (s : State) : Int := -((min 1000 (s.rd Reg.svi_EARLY_TOL) * unitsUs : Nat) : Int)

/-- Sample 0 of stream 511 stored as a real one. -/
def real511 : State := onSv (flow 511) fun v => { v with store := [(511 * 2 ^ 18, { a := 0, record := 2 ^ 27, vals := [0], quals := [0] })] }

/-- A frame for the ingest engine with an empty savPdu of SV, and one that is no savPdu. -/
def svFrame (b : Bytes) : SwFrame := { fr with bytes := beBytes 6 2 ++ beBytes 6 4 ++ beBytes 2 0x88BA ++ List.replicate 8 0 ++ b }

/-- Operands that meet the hypotheses of each clause of SamplesAreClassedByTheirArrival. -/
theorem witness_SamplesAreClassedByTheirArrival :
    (-4500000000 ≤ dOf (flow 511) 511 2400 0 ∧ dOf (flow 511) 511 2400 0 = -4500000000 ∧ (flow 511).sampleOf 511 (aOf (flow 511) 511 2400 0) = none ∧
      dOf (flow 511) 511 2400 0 < earlyOf (flow 511)) ∧
    (dOf (flow 511) 511 3 (5625000 - 20 * 9000) = earlyOf (flow 511) ∧ (flow 511).sampleOf 511 (aOf (flow 511) 511 3 (5625000 - 20 * 9000)) = none ∧
      (flow 511).raw Reg.str_STATE 511 ≠ 3 ∧ 511 < 512 ∧ dOf (flow 511) 511 3 (5625000 - 20 * 9000) ≤ hOf (flow 511) 511 3) ∧
    (dOf (flow 511) 511 3 (5625000 + 900000) = wOf (flow 511) 511 3 ∧ wOf (flow 511) 511 3 < dOf (flow 511) 511 3 (5625000 + 900009) ∧ dOf (flow 511)
      511 3 (5625000 + 900009) ≤ hOf (flow 511) 511 3) ∧
    (hOf (flow 511) 511 3 < dOf (flow 511) 511 3 (5625000 + 2775006) ∧ dOf (flow 511) 511 3 (5625000 + 2775006) < 4500000000 ∧ earlyOf (flow 511) ≤
      dOf (flow 511) 511 3 (5625000 + 2775006)) ∧
    (real511.sampleOf 511 (aOf real511 511 0 0) = some { a := 0, record := 2 ^ 27, vals := [0], quals := [0] } ∧ recReal (2 ^ 27) = true ∧ -4500000000
      ≤ dOf real511 511 0 0 ∧ dOf real511 511 0 0 < 4500000000) ∧
    ((onNet up fun n => { n with toIngest := [svFrame [0]] }).net.toIngest = svFrame [0] :: [] ∧ (headersOf (svFrame [0]).bytes).etype = 0x88BA ∧
      asdusOf ((svFrame [0]).bytes.drop ((headersOf (svFrame [0]).bytes).payload + 8)) = none) := ⟨
  by decide +kernel,
  by decide +kernel,
  by decide +kernel,
  by decide +kernel,
  by decide +kernel,
  by decide +kernel⟩

/-- A sample open at its horizon; an aperture of slice 127 that shows stream 511. -/
def opened0 : State := onSv up fun v => { v with streams := [(511, { entry := entH, opens := [{ a := 0, declare := 9, mag := [] }] })] }
def shown : State := { ((((flow 511).wr Reg.slc_STATE 127 1).wr Reg.apt_APT_EN (127 * 8 + 7) 1).wr Reg.apt_APT_STREAM (127 * 8 + 7) 511) with
  slices := [(127, { grants := [(0, { kind := 1, first := 511, count := 1, rights := 1 })] })] }

/-- Operands that meet the hypotheses of each clause of StreamsReckonDeclareAndEnd. -/
theorem witness_StreamsReckonDeclareAndEnd :
    ((flow 511).live 511 = true) ∧
    ((opened0.strm 511).opens = { a := 0, declare := 9, mag := [] } :: []) ∧
    (511 < 512 ∧ (flow 511).raw Reg.str_STATE 511 ≠ 3) ∧
    ((flow 511).sampleOf 511 0 = none ∧ real511.sampleOf 511 0 = some { a := 0, record := 2 ^ 27, vals := [0], quals := [0] }) ∧
    (shown.linkUp 0 = true ∧ (127 * 0x80000 + 7 * 0x10000 + 0xFFFC) % 4 = 0 ∧ (shown.bound 127 && shown.sliceLink 127 = 0 && shown.flag Reg.apt_APT_EN
      (127 * 8 + 7) && shown.granted 127 1 (shown.raw Reg.apt_APT_STREAM (127 * 8 + 7)) 0 && shown.live 511 && decide (shown.raw Reg.apt_APT_PAGE (127
      * 8 + 7) * 65536 + 0xFFFC + 4 ≤ ringSize (shown.strm 511).entry)) = true) ∧
    (up.bound 127 = false) := ⟨
  by decide +kernel,
  by decide +kernel,
  by decide +kernel,
  by decide +kernel,
  by decide +kernel,
  by decide +kernel⟩

/-- A tile that executes evaluation 0 of instance 0 with a context; the program is one word, with an input of each kind and
one output. -/
def inst0 (w : Nat) : Inst :=
  { prog := { code := leBytes 4 w, stepMax := 100,
              ins := [{ kind := 1, vtype := 0, hist := 2, maxAge := 0 }, { kind := 4, vtype := 0, hist := 2, maxAge := 5 },
                { kind := 2, vtype := 0, hist := 1, maxAge := 0 }, { kind := 3, vtype := 7, hist := 0, maxAge := 0 }],
              outs := [{ kind := 3, vtype := 0, trip := false, safe := 0 }] },
    inB := [0, 0, 0, 0], dataLen := 32, blocks := [0], next := 1, lastFinal := none }
def onTor (s : State) (f : Torchon → Torchon) : State := { s with tor := f s.tor }
def onTile (x : Inst) (t : Tile) : State :=
  onTor (((stored up).wr Reg.tile_STATE 0 1).wr Reg.tile_LTILE 0 0) fun v => { v with insts := [(0, x)], tiles := [(0, t)], phys := [(0, 1)] }
def ev (c : Ctx) : Eval := { inst := 0, n := 0, a := 0, ctx := c }
def run (w : Nat) (c : Ctx) : State := onTile (inst0 w) { evals := [ev c], cur := some (0, 0) }

/-- Scan unit 127 + 64 with the same word, a block of type 0 and one output. -/
def scanAt (w : Nat) (c : Ctx) : State :=
  let p : ScanProg := { code := leBytes 4 w, wc := 100, dataLen := 32, sfbs := [{ id := 1, type := 1, off := 0 }], outs := [(3, 1, 0)] }
  { up with scan := [(127, { prog := p, cycle := some { ctx := c } })] }

/-- Operands that meet the hypotheses of each clause of IntegerInstructionsWrap. -/
theorem witness_IntegerInstructionsWrap :
    (∀ w ∈ [encR 0x01 63 63 63 0, encR 0x02 63 63 63 0, encR 0x03 63 63 63 0, encR 0x04 63 63 63 0, encR 0x05 63 63 63 0, encR 0x06 63 63 63 0, encR
      0x07 63 63 63 0, encR 0x08 63 63 63 0, encR 0x09 63 63 63 0, encR 0x0A 63 63 63 0, encI 0x0B 63 63 0x3FFF, encI 0x0C 63 63 0x3FFF, encL 0x0D 63
      0xFFFFF], State.atWord (run w {}) 0 w 1 {} (run w {})) ∧
    (State.atWord (scanAt (encR 0x01 0 1 2 0) {}) 191 (encR 0x01 0 1 2 0) 1 {} (scanAt (encR 0x01 0 1 2 0) {}) ∧ (2 ^ 14 - 1 : Nat) < 2 ^ 14) := ⟨
  by unfold State.atWord; decide +kernel,
  by unfold State.atWord; decide +kernel⟩

/-- Operands that meet the hypotheses of each clause of FloatInstructionsWriteResultAndFlags. -/
theorem witness_FloatInstructionsWriteResultAndFlags :
    (∀ p ∈ [(encR 0x10 63 63 63 1, 2), (encR 0x11 63 63 63 1, 2), (encR 0x12 63 63 63 1, 2), (encR 0x13 63 63 63 1, 16), (encR 0x1A 63 63 63 1, 32),
      (encR 0x14 63 63 63 1, 2), (encR 0x15 63 63 0 1, 16), (encR 0x16 63 63 63 3, 2), (encR 0x17 63 63 63 5, 2), (encR 0x18 63 63 63 7, 2), (encR
      0x19 63 63 0 1, 1), (encR 0x19 63 63 0 5, 2), (encR 0x1B 62 63 0 1, 32)], State.atWord (run p.1 {}) 0 p.1 p.2 {} (run p.1 {})) ∧
    (∀ p ∈ [(encR 0x10 63 63 63 0, 1), (encR 0x13 63 63 63 0, 8), (encR 0x1A 63 63 63 0, 16), (encR 0x16 63 63 63 0, 1), (encR 0x17 63 63 63 0, 1),
      (encR 0x18 63 63 63 0, 1), (encR 0x1B 1 63 0 0, 16)], State.atWord (run p.1 {}) 0 p.1 p.2 {} (run p.1 {})) := ⟨
  by unfold State.atWord; decide +kernel,
  by unfold State.atWord; decide +kernel⟩

/-- Operands that meet the hypotheses of each clause of VectorInstructionsWorkPerLane. -/
theorem witness_VectorInstructionsWorkPerLane :
    (∀ p ∈ [(encV 0x20 15 15 15 0 1, 2), (encV 0x21 15 15 15 0 1, 2), (encV 0x22 15 15 15 0 1, 2), (encV 0x23 15 15 15 0 1, 2), (encV 0x24 15 15 15 0
      1, 4), (encV 0x25 0 15 0 63 1, 2), (encV 0x26 15 0 0 63 1, 1), (encV 0x27 0 15 0 63 3, 1), (encV 0x20 15 15 15 0 0, 1), (encV 0x24 15 15 15 0 0,
      2), (encV 0x25 0 15 0 63 0, 2), (encV 0x27 0 15 0 63 6, 1)], State.atWord (run p.1 {}) 0 p.1 p.2 {} (run p.1 {})) ∧
    ((3 : Nat) < 4 ∧ (1 : Nat) < 2) := ⟨
  by unfold State.atWord; decide +kernel,
  by decide +kernel⟩

/-- Register 1 of the context. -/
def r1 (v : Nat) : Ctx := { sreg := [(1, v)] }

/-- Operands that meet the hypotheses of each clause of InstanceDataAccesses. -/
theorem witness_InstanceDataAccesses :
    (∀ w ∈ [encI 0x30 63 1 0, encI 0x30 63 1 1, encI 0x30 63 1 2, encI 0x30 63 1 3, encI 0x31 63 1 0, encI 0x30 63 1 (4 * 4095), encV 0x28 15 0 0 1 1,
      encV 0x29 15 0 0 1 1], ∀ v ∈ [0, 28, 27, 29], State.atWord (run w (r1 v)) 0 w 1 (r1 v) (run w (r1 v))) ∧
    (((run 0 {}).unitData 0).1 = 32 ∧ (0 : Int) ≤ ((28 : Nat) : Int) + 4 * (BitVec.ofNat 12 (0 / 4)).toInt ∧ ((28 : Nat) : Int) + 4 * (BitVec.ofNat 12
      (0 / 4)).toInt + 4 ≤ 32 ∧ (28 : Int) % 4 = 0 ∧ (27 : Int) % 4 ≠ 0 ∧ ¬ ((29 : Int) + 4 ≤ 32) ∧ ¬ ((0 : Int) ≤ 0 + 4 * (BitVec.ofNat 12 (4 * 4095
      / 4)).toInt)) ∧
    ((0 + 16 * 1 + 16 : Nat) ≤ 32 ∧ (0 + 16 * 1) % 16 = 0 ∧ (27 + 16 * 0) % 16 ≠ 0 ∧ 32 < 27 + 16 * 1 + 16) := ⟨
  by unfold State.atWord; decide +kernel,
  by decide +kernel,
  by decide +kernel⟩

/-- A boundary of stream 511 and the chain clause with its slot owned by it. -/
def read0 : State := onTor (stored up) fun v => { v with insts := [(5, inst0 0)] }

/-- Operands that meet the hypotheses of each clause of FilterChainsChangeAtSamples. -/
theorem witness_FilterChainsChangeAtSamples :
    (read0.slotRead 0 = true ∧ read0.slotRead 8191 = false ∧ (7 : Nat) < 8) ∧
    ((flow 511).live 511 = true) ∧
    ((8191 : Nat) < 8192) := ⟨
  by decide +kernel,
  by decide +kernel,
  by decide +kernel⟩

/-- The evaluation waits for the data of input 1; a filter slot with one output. -/
def waiting1 : State := onTile (inst0 0) { evals := [{ ev {} with wait := some (63, 1, 5) }] }
def filtered0 (w : Nat) : State := onSv (run w {}) fun v => { v with filters := [(0, { outs := [{ a := 0, val := 7, qual := 0, flags := 8 }] })] }

/-- Operands that meet the hypotheses of each clause of InputsAreReadAtTheirAge. -/
theorem witness_InputsAreReadAtTheirAge :
    (∀ imm ∈ [0, 1, 64, 128], State.atWord (run (encI 0x32 63 0 imm) {}) 0 (encI 0x32 63 0 imm) 1 {} (run (encI 0x32 63 0 imm) {})) ∧
    (∀ w ∈ [encI 0x32 63 0 0], (run w {}).inputOf 0 1 1 = none ∧ (run w {}).inputOf 0 0 1 = some (ev {}, { kind := 1, vtype := 0, hist := 2, maxAge := 0 },
      0) ∧ (2 : Nat) ≤ 128 / 64 ∧ (64 / 64 : Nat) < 2) ∧
    (∀ imm ∈ [0, 1 + 64 * 5], State.atWord (run (encI 0x33 63 0 imm) {}) 0 (encI 0x33 63 0 imm) 4 {} (run (encI 0x33 63 0 imm) {})) ∧
    (∀ w ∈ [encI 0x33 63 0 1], (run w {}).inputOf 0 0 4 = none ∧ (run w {}).inputOf 0 1 4 = some (ev {}, { kind := 4, vtype := 0, hist := 2, maxAge := 5 },
      0) ∧ (1 + 64 * 5) / 64 ≤ 5 ∧ Tbl.look 0 (ev {}).reads 1 < 2) ∧
    ((waiting1.tile 0).eval? 0 0 = some { ev {} with wait := some (63, 1, 5) } ∧ (0 : Nat) < 64) ∧
    (∀ imm ∈ [0, 2, 66], State.atWord (run (encI 0x34 63 0 imm) {}) 0 (encI 0x34 63 0 imm) 1 {} (run (encI 0x34 63 0 imm) {})) ∧
    (∀ w ∈ [encI 0x34 63 0 2], (run w {}).inputOf 0 0 2 = none ∧ (run w {}).inputOf 0 2 2 = some (ev {}, { kind := 2, vtype := 0, hist := 1, maxAge := 0 },
      0) ∧ (1 : Nat) ≤ 66 / 64 ∧ (2 / 64 : Nat) < 1) ∧
    (State.atWord (filtered0 (encI 0x34 63 0 2)) 0 (encI 0x34 63 0 2) 1 {} (filtered0 (encI 0x34 63 0 2))) ∧
    (((filtered0 (encI 0x34 63 0 2)).filtered (0 % 2 ^ 13) 0)[0]? = some { a := 0, val := 7, qual := 0, flags := 8 }) ∧
    (∀ imm ∈ [0, 3, 67], State.atWord (run (encI 0x35 63 0 imm) {}) 0 (encI 0x35 63 0 imm) 2 {} (run (encI 0x35 63 0 imm) {})) ∧
    (∀ w ∈ [encI 0x35 63 0 3], (run w {}).inputOf 0 0 3 = none ∧ (run w {}).inputOf 0 3 3 = some (ev {}, { kind := 3, vtype := 7, hist := 0, maxAge := 0 },
      0)) := ⟨
  by unfold State.atWord; decide +kernel,
  by decide +kernel,
  by unfold State.atWord; decide +kernel,
  by decide +kernel,
  by decide +kernel,
  by unfold State.atWord; decide +kernel,
  by decide +kernel,
  by unfold State.atWord; decide +kernel,
  by decide +kernel,
  by unfold State.atWord; decide +kernel,
  by decide +kernel⟩

/-- A tile that is free at the start of slot 0 with the next evaluation of its instance ready. -/
def free0 : State := onTile { inst0 0 with next := 0 } {}

/-- Operands that meet the hypotheses of each clause of ControlOutputsAndTheEnd. -/
theorem witness_ControlOutputsAndTheEnd :
    (∀ w ∈ [encI 0x38 63 63 0x3FFF, encI 0x39 63 63 0x3FFF, encI 0x3A 63 63 0x3FFF, encI 0x3B 63 63 0x3FFF, encL 0x3C 63 0xFFFFF, encI 0x3D 63 63
      0x3FFF, encR 0x36 0 1 2 0, encR 0x36 63 1 2 31, encR 0x37 63 0 0 5, 0x3F * 2 ^ 26], State.atWord (run w {}) 0 w 1 {} (run w {})) ∧
    ((run (encR 0x36 0 1 2 0) {}).stage 0 (0 * 32 + 0) 5 6 = some ((run (encR 0x36 0 1 2 0) {}).putEval 0 { ev {} with outs := [(0, (5, 6))] }) ∧ (run
      (encR 0x36 63 1 2 31) {}).stage 0 (63 * 32 + 31) 5 6 = none) ∧
    (State.atWord (scanAt (encI 0x2A 63 1 0) {}) 191 (encI 0x2A 63 1 0) 4 {} (scanAt (encI 0x2A 63 1 0) {})) ∧
    (((scanAt (encI 0x2A 63 1 0) {}).scanOf (191 - 64)).prog.sfbs[0]? = some { id := 1, type := 1, off := 0 } ∧ ((scanAt (encI 0x2A 63 1 0) {}).scanOf
      (191 - 64)).cycle = some { ctx := {} }) ∧
    (State.atWord (scanAt (0x3F * 2 ^ 26) {}) 191 (0x3F * 2 ^ 26) 1 {} (scanAt (0x3F * 2 ^ 26) {}) ∧ 64 ≤ 191) ∧
    ((State.setCtx (run (0x3F * 2 ^ 26) {}) 0 { cycles := 1 }).curEval 0 = some (ev { cycles := 1 })) ∧
    ((run 0 {}).unitCtx 0 = some {} ∧ wordAt ((run 0 {}).unitCode 0) 0 = some 0 ∧ legalWord (decide (64 ≤ 0)) 0 = false ∧ wordAt ((run 0 {}).unitCode
      0) 4 = none) ∧
    ((free0.advance 0).raw Reg.tile_STATE 0 = 1 ∧ ((free0.advance 0).tile 0).loading = false ∧ ((free0.advance 0).tile 0).cur = none ∧ (free0.advance
      0).tai % unitsFrame / 9000 < 69 ∧ ((free0.advance 0).instsOn ((free0.advance 0).raw Reg.tile_LTILE 0)).find? (fun e => e.2.blocks.contains
      (free0.advance 0).slotNow) = some (0, { inst0 0 with next := 0 }) ∧ (free0.advance 0).readiness 0 0 = some false) := ⟨
  by unfold State.atWord; decide +kernel,
  by decide +kernel,
  by unfold State.atWord; decide +kernel,
  by decide +kernel,
  by unfold State.atWord; decide +kernel,
  by decide +kernel,
  by decide +kernel,
  by decide +kernel⟩

/-- Operands that meet the hypotheses of each clause of StepLimitFaults. -/
theorem witness_StepLimitFaults :
    (∀ k ∈ [99, 100], ∀ w ∈ [encR 0x01 63 63 63 0, encR 0x13 63 63 63 1, 0x3F * 2 ^ 26], (run w { cycles := k }).curEval 0 = some (ev { cycles := k })
      ∧ (ev { cycles := k }).wait = none ∧ wordAt ((run w { cycles := k }).inst 0).prog.code 0 = some w ∧ ((run w { cycles := k }).inst
      0).prog.stepMax = 100) ∧
    ((100 : Nat) < 100 + 1 ∧ 99 + 1 ≤ 100 ∧ (100 : Nat) < 99 + 16) ∧
    (((run (0x3F * 2 ^ 26) { cycles := 99 }).putEval 0 { ev { cycles := 99 } with ctx := { cycles := 100 } }).curEval 0 = some (ev { cycles := 100 })) := ⟨
  by decide +kernel,
  by decide +kernel,
  by decide +kernel⟩

/-- Tile 0 with instance 0 on logical tile 0: a verdict in its queue, an evaluation to replay, an evaluation that has ended
or is final. -/
def verdict (k : Nat) : State := onTile (inst0 0) { verdicts := [{ stream := 0, a := 0, kind := k }], evals := [{ ev {} with phase := 1 }] }
def toReplay (ov : List Nat) : State :=
  onTile { inst0 0 with journalOver := ov } { replay := [{ inst := 0, n := 0, rebuild := false }] }
def endedEval (f : Bool) : State := onTile (inst0 0) { evals := [{ ev {} with phase := 1, final := f }] }
def hitsOf (s : State) (tl : Nat) (v : SampleVerdict) (i : Nat) : List Eval :=
  (s.tile tl).evals.filter fun e => e.inst = i && !e.final && !e.rebuild && e.phase ≠ 4 && s.dependsOn (s.inst i) e.n v.stream v.a
def taken (k : Nat) : State := (verdict k).setTile 0 { (verdict k).tile 0 with verdicts := [] }
def published : State := onTor up fun v => { v with pubs := [(1023, { sqNum := 2 ^ 32 - 1, interval := 2, next := some 5 })] }

/-- Operands that meet the hypotheses of each clause of EvaluationsCommitReplayAndAreLost. -/
theorem witness_EvaluationsCommitReplayAndAreLost :
    (((verdict 1).tile 0).verdicts = { stream := 0, a := 0, kind := 1 } :: [] ∧ ((verdict 2).tile 0).verdicts = { stream := 0, a := 0, kind := 2 } ::
      []) ∧
    ((taken 2).instsOn ((taken 2).raw Reg.tile_LTILE 0) = [(0, inst0 0)] ∧ ((taken 2).instStreams (inst0 0)).any (fun ks => ks.2 = 0) = true ∧ ∃ e, e
      ∈ hitsOf (taken 2) 0 { stream := 0, a := 0, kind := 2 } 0 ∧ e.n = 0) ∧
    (∀ e, e ∈ hitsOf (taken 2) 0 { stream := 0, a := 0, kind := 2 } 0 → 0 ≤ e.n) ∧
    (∀ o ∈ [[], [0]], ((toReplay o).tile 0).replay = [{ inst := 0, n := 0, rebuild := false }] ∧ ((toReplay o).tile 0).loading = false ∧ ((toReplay
      o).tile 0).cur = none ∧ ((toReplay o).tile 0).evals.any (fun e => e.inst = 0 && e.phase = 0) = false) ∧
    (((toReplay []).acrossOverflow ((toReplay []).inst 0) 0 || (toReplay []).readsStruck ((toReplay []).inst 0) 0) = false ∧ ((toReplay
      [0]).acrossOverflow ((toReplay [0]).inst 0) 0 || (toReplay [0]).readsStruck ((toReplay [0]).inst 0) 0) = true) ∧
    (∀ f ∈ [true, false], (endedEval f).commitHead 0 = some (0, 0) ∧ ((endedEval f).tile 0).eval? 0 0 = some { ev {} with phase := 1, final := f } ∧
      (ev {}).rebuild = false) ∧
    (∀ f ∈ [true, false], (endedEval f).instTile 0 = some 0 ∧ (endedEval f).headOf 0 0 = some (0, 0) ∧ (endedEval f).inputsStored ((endedEval f).inst
      0) 0 = true ∧ (endedEval f).inputsUnsettled 0 ((endedEval f).inst 0) 0 = false) ∧
    ((published.pub 1023).next = some 5) := ⟨
  by decide +kernel,
  by decide +kernel,
  by decide +kernel,
  by decide +kernel,
  by decide +kernel,
  by decide +kernel,
  by decide +kernel,
  by decide +kernel⟩

/-- A far fix being written; a tile in each state; a spare that loads. -/
def fixing : State := onTor up fun v => { v with insts := [(5, { farNew := some { last := 3, frame := 9, disabled := false, data := [] } })] }
def tileSt (k : Nat) : State := up.wr Reg.tile_STATE 63 k
def spare (xs : Tbl Inst) : State := onTor up fun v => { v with insts := xs, tiles := [(5, { loading := true })] }
def restored : Inst := { ltile := 63, far := [{ last := 3, frame := 9, disabled := false, data := [] }] }

/-- Operands that meet the hypotheses of each clause of FixesAndSparesBringInstancesBack. -/
theorem witness_FixesAndSparesBringInstancesBack :
    ((fixing.inst 5).farNew = some { last := 3, frame := 9, disabled := false, data := [] }) ∧
    ((tileSt 4).raw Reg.tile_STATE 63 = 4 ∧ (tileSt 2).raw Reg.tile_STATE 63 ≠ 4 ∧ (tileSt 2).raw Reg.tile_STATE 63 ≠ 1 ∧ (tileSt 1).raw
      Reg.tile_STATE 63 = 1 ∧ (tileSt 1).pwr.down = none) ∧
    (3 = min 63 3) ∧
    (((spare []).tile 5).loading = true ∧ (spare []).instsOn ((spare []).raw Reg.tile_LTILE 5) = [] ∧ ((spare [(7, restored)]).tile 5).loading = true
      ∧ (spare [(7, restored)]).instsOn ((spare [(7, restored)]).raw Reg.tile_LTILE 5) = [(7, restored)] ∧ ((spare [(7, restored)]).inst 7).far = { last := 3, frame := 9, disabled := false, data := [] }
      :: []) ∧
    ((up.tile 5).loading = false) := ⟨
  by decide +kernel,
  by decide +kernel,
  by decide +kernel,
  by decide +kernel,
  by decide +kernel⟩

/-- Bytes with their CRC-32C at an offset. -/
def sealed (off : Nat) (b : Bytes) : Bytes := b.take off ++ leBytes 4 (crc32c b) ++ b.drop (off + 4)

/-- A program image of type 7 that ends at once (R321, R322), and the image of a set of one instance of it (R362). -/
def progImg : Bytes := sealed 60 ([0x46, 0x42, 0x50, 0x31] ++ leBytes 2 1 ++ leBytes 2 1 ++ leBytes 4 7 ++ leBytes 4 1 ++ leBytes 4 4
  ++ leBytes 4 0 ++ leBytes 4 100 ++ leBytes 4 0 ++ [0, 1] ++ List.replicate 30 0
  ++ [1, 1, 0, 0, 0, 0, 0, 0] ++ List.replicate 56 0 ++ leBytes 4 0xFC000000)
def setImg (i slot : Nat) : Bytes := sealed 12 ([0x46, 0x42, 0x49, 0x31] ++ leBytes 2 1 ++ leBytes 2 1 ++ leBytes 4 72 ++ List.replicate 20 0
  ++ leBytes 2 i ++ [0, 0] ++ leBytes 2 0 ++ leBytes 2 1 ++ leBytes 4 0 ++ leBytes 2 1000 ++ [0, 1] ++ leBytes 4 7 ++ leBytes 4 40
  ++ List.replicate 8 0 ++ leBytes 4 slot ++ leBytes 4 0)

/-- Slice 127 holds the image and two sets of it, grants for what they use, and a share; set 0 may have been admitted. -/
def site (xs : Tbl Inst) : State :=
  let s := { (up.wr Reg.slc_TOR_SHARE 127 850).wr Reg.prt_LANE_MODE 3 1 with
    net := { up.net with epochs := [{ num := 0, streams := [(0, ent)] }] }
    slices := [(127, { grants := [(0, { kind := 1, first := 0, count := 1, rights := 1 }), (1, { kind := 2, first := 0, count := 9, rights := 3 })] })]
    tor := { up.tor with insts := xs } }
  ((s.fillDomain (sliceDom 127 0) progImg).fillDomain (sliceDom 127 32) (setImg 511 5)).fillDomain (sliceDom 127 33) (setImg 510 6)

/-- The state after a handle was given. -/
def after (s : State) : State := (s.newHandle (.manager 0)).2

/-- A result is there. -/
def isOk {ε α : Type} (x : Except ε α) : Bool := match x with
  | .ok _ => true
  | .error _ => false

theorem ok_of {ε α : Type} {x : Except ε α} (h : isOk x = true) : ∃ y, x = .ok y := by
  cases x with
  | ok z => exact ⟨z, rfl⟩
  | error z => simp [isOk] at h
theorem error_of {ε α : Type} {x : Except ε α} (h : isOk x = false) : ∃ y, x = .error y := by
  cases x with
  | ok z => simp [isOk] at h
  | error z => exact ⟨z, rfl⟩

/-- An instance at evaluation 7, stopped at one or not, and exchanges. -/
def at7 (st : Option Nat) : State := onTor up fun v => { v with insts := [(65535, { next := 7, stopAt := st })] }
def exch0 : Exchange := { slice := 127, oldSet := 3, newSet := 4, map := none, at_ := 0, handle := 1, news := [], waiting := [65535] }
def exching : State := onTor up fun v => { v with exchanges := [exch0] }
def aheadOf (s : State) (E : Nat) : Nat := (E + 2 ^ 32 - (s.inst 65535).next % 2 ^ 32) % 2 ^ 32

/-- Operands that meet the hypotheses of each clause of InstancesStopRestartAndAreExchanged. -/
theorem witness_InstancesStopRestartAndAreExchanged :
    ((at7 none).hasInst 65535 = true ∧ ((at7 none).inst 65535).stopAt = none ∧ 0xFFFFFFFF < 2 ^ 32) ∧
    (7 + 2 ^ 31 - 1 ≠ 0xFFFFFFFF ∧ aheadOf (at7 none) (7 + 2 ^ 31 - 1) < 2 ^ 31 ∧ 7 + 2 ^ 31 ≠ 0xFFFFFFFF ∧ 2 ^ 31 ≤ aheadOf (at7 none) (7 + 2 ^ 31) ∧
      7 + 2 ^ 31 < 2 ^ 32) ∧
    (((at7 (some 8)).inst 65535).stopAt = some 8 ∧ ((at7 (some 8)).inst 65535).next < 8 ∧ ((at7 (some 7)).inst 65535).stopAt = some 7 ∧ 7 ≤ ((at7
      (some 7)).inst 65535).next ∧ ((at7 (some 7)).inst 65535).leaving = false) ∧
    (exching.tor.exchanges.any (fun e => e.slice = 127 && (e.oldSet = 4 || e.newSet = 4 || e.newSet = 9)) = true ∧ exching.tor.exchanges.any (fun e =>
      e.slice = 127 && (e.oldSet = 31 || e.newSet = 31 || e.newSet = 31)) = false) ∧
    (exching.tor.exchanges.find? (fun e => e.slice = 65535 / 512 && e.waiting.contains 65535) = some exch0 ∧ exching.exchangeReady 65535 = true ∧
      (onTor exching fun v => { v with insts := (at7 none).tor.insts, phys := [(0, 1)] }).exchangeReady 65535 = true) := ⟨
  by decide +kernel,
  by decide +kernel,
  by decide +kernel,
  by decide +kernel,
  by decide +kernel⟩

/-- An exchange of set 0 of slice 127 for set 1 is admitted; of a set without instances it is refused. -/
theorem witness_FbExchange_refused : ∃ r, (after up).computeExchange 127 0 1 0xFF = .error r := error_of (by decide +kernel)

set_option maxRecDepth 1000000 in
theorem witness_FbExchange_admitted :
    ∃ e, (after (site [(127 * 512 + 511, { inst0 0 with set := 0 })])).computeExchange 127 0 1 0xFF = .ok e := ok_of (by decide +kernel)

/-- A tile mode waits. -/
def mode : State := onTor up fun v => { v with tiles := [(63, { modeNext := some (true, 0, 9) })], phys := [(63, 64)] }
def mode0 : State := onTor up fun v => { v with phys := [(63, 64)] }
def gotOf (s : State) (l : Nat) (deep : Bool) : Except AdmRefusal AdmResult :=
  let h := (s.newHandle (.manager 0)).1
  let u := after s
  let v := u.admView
  (u.admReplace v { v with tiles := Tbl.ins ({ deep := deep } : AdmTile) v.tiles l }
    { req := { kind := 16, slice := l, obj := b2n deep, check := false, deep := deep, src := .manager 0, handle := h }, at_ := u.hyperAfter } [l]).bind
      fun x => (x.view.bounds u []).map fun _ => x
def clocked (t : Nat) : State := up.wr Reg.tile_STATE 63 t

/-- Operands that meet the hypotheses of each clause of ModesClocksAndCrossingsChange. -/
theorem witness_ModesClocksAndCrossingsChange :
    (mode.tileOf 63 = some 63 ∧ (mode.tile 63).modeNext = some (true, 0, 9) ∧ mode0.tileOf 63 = some 63 ∧ (mode0.tile 63).modeNext = none ∧ (63 : Nat)
      < 64) ∧
    ((clocked 2).quadUsed 15 = false ∧ (clocked 1).quadUsed 15 = true ∧ min (min 12 (11 % 16)) ((clocked 1).raw Reg.pwr_QCLK_CEIL) ≠ (clocked
      1).lastWritten Reg.quad_QCLK 15 ∧ min (min 12 ((clocked 1).lastWritten Reg.quad_QCLK 15 % 16)) ((clocked 1).raw Reg.pwr_QCLK_CEIL) = (clocked
      1).lastWritten Reg.quad_QCLK 15) ∧
    ((up.buffer Reg.quad_QCLK 15 2 0).hif.shadow.any (fun b => decide (b.key = Reg.quad_QCLK.key 15)) = true ∧ (up.buffer Reg.quad_QCLK 15 2 0).held
      Reg.quad_QCLK.blk = false ∧ (up.buffer Reg.quad_QCLK 15 2 0).quadUsed 15 = false) ∧
    (up.islandRuns 20 = true ∧ (up.wr Reg.pwr_DOM_ON 0 0xFDF).islandRuns 16 = false ∧ (up.wr Reg.pwr_DOM_ON 0 0xFDF).islandRuns 20 = true) := ⟨
  by decide +kernel,
  by decide +kernel,
  by decide +kernel,
  by decide +kernel⟩

/-- The mode of a tile without instances changes freely. -/
theorem witness_TileMode_accepted : ∃ x, gotOf mode0 63 true = .ok x := ok_of (by decide +kernel)

/-- That of a tile whose instance takes longer than its period is refused. -/
theorem witness_TileMode_refused :
    ∃ r, gotOf (onTor mode0 fun v => { v with insts := [(3, { inst0 0 with ltile := 63, prog := { (inst0 0).prog with stepMax := 10 ^ 9 } })] }) 63 true
      = .error r := error_of (by decide +kernel)

/-- A module whose switch core is fenced; n requests in the queue. -/
def fencedCore : State := { up with pwr := { up.pwr with fenced := [.switchCore] } }
def req (kind obj : Nat) (check : Bool) : AdmReq :=
  { kind := kind, slice := 127, obj := obj, check := check, deep := false, src := .manager 0, handle := 1 }
def queued (n : Nat) : State := onTor up fun v => { v with queue := List.replicate n (req 1 0 false) }

/-- Operands that meet the hypotheses of each clause of AdmitRequestsQueueInOrder. -/
theorem witness_AdmitRequestsQueueInOrder :
    (fencedCore.degraded = true ∧ (queued 17).degraded = false ∧ 17 ≤ (queued 17).tor.queue.length ∧ (queued 16).tor.queue.length ≤ 16 ∧ (queued
      16).degraded = false) ∧
    (Instr.admitInstanceSet (.manager 0) 127 31 true false = .admitInstanceSet (.manager 0) 127 31 true false) := ⟨
  by decide +kernel,
  by decide +kernel⟩

/-- A module with one request that holds an open handle, and the state in which it is computed. -/
def asked0 (s : State) (r : AdmReq) : State := { s with
  tor := { s.tor with queue := [r] }, wh := { s.wh with handles := [{ handle := 1, src := .manager 0, slice := none }] } }
def computing (s : State) (r : AdmReq) : State :=
  let a := (asked0 s r).advance 0
  State.syncQueue { a with tor := { a.tor with queue := [] } }
def plan (kind : Nat) (check : Bool) (xs : List (Nat × Inst)) : AdmPlan := { req := req kind 0 check, at_ := 0, insts := xs }
def planned (p : AdmPlan) : State := onTor up fun v => { v with plans := [p] }
def applying (p : AdmPlan) : State :=
  let a := (planned p).advance ((planned p).monoOf p.at_)
  { a with tor := { a.tor with plans := (planned p).tor.plans.erase p } }

/-- Operands that meet the hypotheses of each clause of AdmissionComputesThenApplies. -/
theorem witness_AdmissionComputesThenApplies :
    (∀ r ∈ [req 2 0 false, req 2 0 true, req 17 0 false], (asked0 up r).pwr.down = none ∧ (asked0 up r).tor.queue = r :: [] ∧ (asked0 up
      r).wh.handles.any (fun o => o.handle = r.handle) = true) ∧
    (∀ c ∈ [true, false], ∀ k ∈ [8, 17], (planned (plan k c [])).pwr.down = none ∧ (planned (plan k c [])).tor.plans.find? (fun p => decide
      (p.req.kind ≤ 8) || decide (p.req.kind = 17)) = some (plan k c [])) ∧
    ((applying (plan 8 false [])).planLost (plan 8 false []) = none ∧ (plan 2 false [(5, {})]).req.check = false ∧ (applying (plan 2 false [(5,
      {})])).planLost (plan 2 false [(5, {})]) = some 5 ∧ (plan 2 false [(5, {})]).req.kind ≠ 17) := ⟨
  by decide +kernel,
  by decide +kernel,
  by decide +kernel⟩

/-- An instance set that is not staged is refused, one that is staged is admitted, and so is an empty table of streams. -/
theorem witness_compute_refused : ∃ x, (computing up (req 2 0 false)).compute (req 2 0 false) (computing up (req 2 0 false)).admInstant = .error x :=
  error_of (by decide +kernel)
theorem witness_compute_streams : ∃ x, (computing up (req 1 0 true)).compute (req 1 0 true) (computing up (req 1 0 true)).admInstant = .ok x :=
  ok_of (by decide +kernel)

set_option maxRecDepth 1000000 in
theorem witness_compute_set :
    ∃ x, (computing (site []) (req 2 0 false)).compute (req 2 0 false) (computing (site []) (req 2 0 false)).admInstant = .ok x :=
  ok_of (by decide +kernel)

/-- Slice 127 in a state. -/
def slc (st : Nat) : State := up.wr Reg.slc_STATE 127 st
def sliceIn (st : Nat) (x : Slice) : State := { slc st with slices := [(127, x)] }

/-- A blob whose KEY_ID is 9 and a wrapping key with it for the slice. -/
def blob : Bytes := slb1 ++ leBytes 2 1 ++ leBytes 2 0 ++ leBytes 4 80 ++ List.replicate 44 0 ++ leBytes 4 9 ++ List.replicate 20 0
def mig (st : Nat) : State := { ((slc st).wr Reg.bnc_MEAS_COUNT 0 5).wr Reg.bnc_JSEL 0 0 with
  bnc := { up.bnc with slots := [(0x100, { state := 1, kind := 5, usage := 0x7F, owner := 127, keyId := 9, key := [7] })] } }
def restoring : State := (mig 1).fillDomain (sliceDom 127 0x7F) blob

/-- Operands that meet the hypotheses of each clause of SliceCommandsAreAcceptedOrRefused. -/
theorem witness_SliceCommandsAreAcceptedOrRefused :
    ((1, Instr.bind (.block 1) 128) = (1, .bind (.block 1) 128) ∧ 127 < 128 ∧ slBadSlice ≠ 0 ∧ (State.cmdFields up (.block 1) 2 127 false).sliceReason
      2 127 ≠ 0) ∧
    ((127 : Nat) < 128 ∧ ((slc 0).cmdFields (.manager 0) 1 127 false).sliceReason 1 127 = 0 ∧ ((slc 1).cmdFields (.manager 0) 2 127 false).sliceReason
      2 127 = 0 ∧ ((slc 1).cmdFields (.manager 0) 3 127 true).sliceReason 3 127 = 0 ∧ ((slc 1).cmdFields (.manager 0) 4 127 false).sliceReason 4 127 =
      0 ∧ ((slc 4).cmdFields (.manager 0) 5 127 false).sliceReason 5 127 = 0 ∧ ((slc 4).cmdFields (.manager 0) 8 127 false).sliceReason 8 127 = 0 ∧
      ((slc 4).cmdFields (.manager 0) 6 127 false).sliceReason 6 127 = 0 ∧ ((slc 1).cmdFields (.manager 0) 7 127 false).sliceReason 7 127 = 0) ∧
    (((slc 4).sliceAccept (.manager 0)).2.migrationSlot 127 = none ∧ ((mig 4).cmdFields (.manager 0) 6 127 false).sliceReason 6 127 = 0 ∧ ((mig
      4).sliceAccept (.manager 0)).2.migrationSlot 127 = some 0x100 ∧ ((mig 4).sliceAccept (.manager 0)).2.useKey 0x100 useWrap 4 = (some [7], ((mig
      4).sliceAccept (.manager 0)).2)) ∧
    ((((slc 1).sliceAccept (.manager 0)).2.openBlob (((slc 1).sliceAccept (.manager 0)).2.image (sliceDom 127 0x7F))).1 = .error slBlobFormat) ∧
    ((restoring.cmdFields (.manager 0) 7 127 false).sliceReason 7 127 = 0 ∧ (restoring.sliceAccept (.manager 0)).2.tor.queue.length ≤ 16) := ⟨
  by decide +kernel,
  by decide +kernel,
  by decide +kernel,
  of_error (by decide +kernel),
  by decide +kernel⟩

/-- Where the opaque GCM of Config opens the blob, RESTORE goes on to its admission: the premise of the last clause. -/
theorem witness_Restore_opens (p : Bytes)
    (h : Config.gcmOpen (Config.hkdf [7] (slice 44 12 blob) slb1 32) (slice 44 12 blob) (blob.take 64) (slice 64 (le 8 4 blob - 64) blob) = some p) :
    (restoring.sliceAccept (.manager 0)).2.openBlob ((restoring.sliceAccept (.manager 0)).2.image (sliceDom 127 0x7F)) =
      (.ok p, (restoring.sliceAccept (.manager 0)).2) := by
  have hi : (restoring.sliceAccept (.manager 0)).2.image (sliceDom 127 0x7F) = blob := by decide +kernel
  have hc : (blob.length < 80 || blob.take 4 ≠ slb1 || le 4 2 blob ≠ 1 || le 8 4 blob < 80 || blob.length < le 8 4 blob) = false := by decide +kernel
  have hk : (restoring.sliceAccept (.manager 0)).2.keyIdSlot (le 56 4 blob) = some 0x100 := by decide +kernel
  have hu : (restoring.sliceAccept (.manager 0)).2.keyFor 0x100 useWrap = .ok [7] := of_ok (by decide +kernel)
  rw [hi]
  simp only [State.openBlob, hc, hk, State.useKey, hu, h, Bool.false_eq_true, if_false]

/-- A command of slice 127 in progress. -/
def draining (op : Nat) (ds : List Desc) : State := sliceIn 1 { cmd := some { op := op, src := .manager 0, handle := 1 }, descs := ds }

/-- Operands that meet the hypotheses of each clause of SliceDrainsComplete. -/
theorem witness_SliceDrainsComplete :
    (((slc 1).sli 127).cmd = none) ∧
    (∀ op ∈ [2, 3, 4], ((draining op []).sli 127).cmd = some { op := op, src := .manager 0, handle := 1 }) ∧
    ((draining 3 []).withdrawn 1 = true ∧ (onTor (draining 3 []) fun v => { v with plans := [{ req := { req 5 0 false with handle := withdrawKey 1 }, at_ := 0 }] }).withdrawn
      1 = false) ∧
    (((draining 4 [{ bobbin := 31, index := 0 }]).sli 127).descs ≠ [] ∧ ((draining 4 []).sli 127).descs = []) := ⟨
  by decide +kernel,
  by decide +kernel,
  by decide +kernel,
  by decide +kernel⟩

/-- Bobbin 31 of slice 127 with queues of 64 entries. -/
def bob (kind en : Nat) : State :=
  let i := bobIx 127 31
  (((((slc 1).wr Reg.bob_KIND i kind).wr Reg.bob_EN i en).wr Reg.bob_BSTATE i 1).wr Reg.bob_SQ_LOG2 i 6).wr Reg.bob_CQ_LOG2 i 16
def bobAt (tail : Nat) : State := { bob 1 1 with slices := [(127, { sqTail := [(31, tail)] })] }

/-- Operands that meet the hypotheses of each clause of BobbinsMoveTheirIndices. -/
theorem witness_BobbinsMoveTheirIndices :
    ((slc 0).bound 127 = false ∧ (bob 3 1).bound 127 = true ∧ (bob 3 1).raw Reg.bob_KIND (bobIx 127 31) = 3 ∧ (bob 1 1).raw Reg.bob_KIND (bobIx 127
      31) ≠ 3 ∧ (bob 1 1).bobbinUp 127 31 = true) ∧
    (2 ^ (bob 1 1).raw Reg.bob_SQ_LOG2 (bobIx 127 31) < ixDiff 65 (Tbl.look 0 ((bob 1 1).sli 127).sqTail 31) ∧ ¬ (2 ^ (bob 1 1).raw Reg.bob_SQ_LOG2
      (bobIx 127 31) < ixDiff 64 (Tbl.look 0 ((bob 1 1).sli 127).sqTail 31)) ∧ ¬ (2 ^ (bob 1 1).raw Reg.bob_SQ_LOG2 (bobIx 127 31) < ixDiff 64 ((bob 1
      1).raw Reg.bob_SQ_HEAD (bobIx 127 31)))) ∧
    (2 ^ (bob 1 1).raw Reg.bob_CQ_LOG2 (bobIx 127 31) < ixDiff ((bob 1 1).raw Reg.bob_CQ_TAIL (bobIx 127 31)) 1 ∧ ¬ (2 ^ (bob 1 1).raw Reg.bob_CQ_LOG2
      (bobIx 127 31) < ixDiff 0 (Tbl.look 0 ((bob 1 1).sli 127).cqHead 31)) ∧ ¬ (2 ^ (bob 1 1).raw Reg.bob_CQ_LOG2 (bobIx 127 31) < ixDiff ((bob 1
      1).raw Reg.bob_CQ_TAIL (bobIx 127 31)) 0)) ∧
    ((bob 1 1).flag Reg.bob_EN (bobIx 127 31) = true ∧ (bob 1 0).flag Reg.bob_EN (bobIx 127 31) = false ∧ 31 < ((bob 1 0).wr Reg.slc_BOB_COUNT 127
      32).rd Reg.slc_BOB_COUNT 127 ∧ (bob 1 0).rd Reg.slc_BOB_COUNT 127 ≤ 31 ∧ ((bob 1 0).wr Reg.bob_SQ_LOG2 (bobIx 127 31) 5).raw Reg.bob_SQ_LOG2
      (bobIx 127 31) < 6) ∧
    (∀ k ∈ [1, 2, 4], ((bob k 1).raw Reg.bob_KIND (bobIx 127 31) = 1 ∨ (bob k 1).raw Reg.bob_KIND (bobIx 127 31) = 2 ∨ (bob k 1).raw Reg.bob_KIND
      (bobIx 127 31) = 4)) ∧
    ((bobAt 1).raw Reg.slc_STATE 127 = 1 ∧ (bobAt 1).flag Reg.bob_EN (bobIx 127 31) = true ∧ (bobAt 1).raw Reg.bob_BSTATE (bobIx 127 31) = 1 ∧ (bobAt
      1).raw Reg.bob_SQ_HEAD (bobIx 127 31) ≠ Tbl.look 0 ((bobAt 1).sli 127).sqTail 31 ∧ (bobAt 1).cqUsed 127 31 + (((bobAt 1).sli 127).descs.filter
      fun d => d.bobbin = 31).length < 2 ^ (bobAt 1).raw Reg.bob_CQ_LOG2 (bobIx 127 31) ∧ (List.replicate 32 (0 : Byte)).length = 32) := ⟨
  by decide +kernel,
  by decide +kernel,
  by decide +kernel,
  by decide +kernel,
  by decide +kernel,
  by decide +kernel⟩

/-- A descriptor of bobbin 31 in a phase; the EtherType of a frame as its data. -/
def desc (ph : Nat) (tso : Byte) : Desc := { bobbin := 31, index := 5, bytes := List.replicate 8 0 ++ leBytes 3 64 ++ List.replicate 7 0 ++ [tso] ++ List.replicate 13 0, phase := ph }
def fetched (ph : Nat) : State := sliceIn 1 { descs := [desc ph 0] }
def typed (t : Nat) : Bytes := padTo 60 (padTo (descLen (desc 1 0).bytes) ((beBytes 6 2 ++ beBytes 6 4 ++ beBytes 2 t ++ List.replicate 50 0).take (descLen (desc 1 0).bytes)))
def sent : State := onNet (fetched 2) fun n => { n with sendDone := [(127, 31, 5)] }
def sentFull : State := onNet (fetched 2) fun n => { n with sendFull := [(127, 31, 5)] }
def forHost : State := onNet up fun n => { n with toHost := [fr] }

/-- Operands that meet the hypotheses of each clause of DescriptorsCompleteSharesWait. -/
theorem witness_DescriptorsCompleteSharesWait :
    (0xFFFF ≠ (fetched 1).raw Reg.slc_GEN 127 ∧ (fetched 1).raw Reg.slc_STATE 127 ≠ 0 ∧ (fetched 1).raw Reg.slc_STATE 127 ≠ 2 ∧ (fetched 1).descOf 127
      31 5 = some (desc 1 0) ∧ (desc 1 0).phase = 1) ∧
    (filteredType (headersOf (typed 0x88F7)).etype = true ∧ filteredType (headersOf (typed 0x88B8)).etype = false ∧ descTso (desc 1 0).bytes = false) ∧
    ((fetched 2).descOf 127 31 5 = some (desc 2 0) ∧ (desc 2 0).phase ≠ 3) ∧
    (sentFull.net.sendFull.contains (127, 31, 5) = true ∧ sent.net.sendFull.contains (127, 31, 5) = false ∧ sent.net.sendDone.contains (127, 31, 5) =
      true ∧ sent.descOf 127 31 5 = some (desc 2 0)) ∧
    (forHost.net.toHost.find? (fun f => (headersOf f.bytes).etype ≠ 0x88B5 && !forHost.frozenFor f) = some fr) ∧
    ((5 : Nat) < 6) := ⟨
  by decide +kernel,
  by decide +kernel,
  by decide +kernel,
  by decide +kernel,
  by decide +kernel,
  by decide +kernel⟩

/-- Slice 127 with a scan program: its state of R432, a cycle, an exchange. -/
def onScan (st : Nat) (x : Scan) : State := { up.wr Reg.prog_STATE 127 st with scan := [(127, x)] }
def cyc (late : Bool) : Cycle := { late := late }
def xch : ScanExch := { at_ := 0, prog := {}, map := [], handle := 1, done := true }

/-- The image of a scan program that ends at once, with one output, in domain 0x50 of slice 127, which has a share. -/
def scanImg : Bytes := sealed 60 ([0x53, 0x43, 0x50, 0x31] ++ leBytes 2 1 ++ leBytes 2 1 ++ leBytes 4 3 ++ leBytes 4 1 ++ leBytes 4 4
  ++ leBytes 4 0 ++ leBytes 4 100 ++ leBytes 4 8 ++ leBytes 2 0 ++ leBytes 2 1 ++ leBytes 2 0 ++ [0, 0] ++ leBytes 4 1000 ++ leBytes 4 0
  ++ List.replicate 16 0 ++ [1, 1, 0, 0, 7, 0, 0, 0] ++ List.replicate 56 0 ++ leBytes 4 0xFC000000 ++ List.replicate 8 0)
def scanSite : State :=
  { (up.wr Reg.slc_SCAN_SHARE 127 500).fillDomain (sliceDom 127 0x50) scanImg with
    scan := [(127, {})]
    slices := [(127, { grants := [(0, { kind := 2, first := 0, count := 9, rights := 3 })] })] }

/-- Operands that meet the hypotheses of each clause of ScanCyclesLatchOverrunAndEnd. -/
theorem witness_ScanCyclesLatchOverrunAndEnd :
    ((onScan 1 {}).raw Reg.prog_STATE 127 = 1 ∧ ((onScan 1 {}).scanOf 127).exch = none ∧ ((onScan 1 {}).scanOf 127).cycle = none ∧ ((onScan 1
      {}).scanOf 127).leaving = false ∧ ((onScan 1 {}).scanOf 127).prog.period = 0 ∧ (127 : Nat) < 128) ∧
    (∀ l ∈ [true, false], ((onScan 1 { cycle := some (cyc l), prog := { period := 125 } }).scanOf 127).cycle = some (cyc l) ∧ (cyc l).late = l) ∧
    (((onScan 1 { cycle := some (cyc false), prog := { period := 125 } }).scanOf 127).prog.period ≠ 0) ∧
    ((onScan 0 {}).raw Reg.prog_STATE 127 = 0 ∧ (onScan 3 {}).raw Reg.prog_STATE 127 ≠ 0 ∧ ((onScan 3 {}).scanOf 127).leaving = false ∧ ((onScan 3 { exch := some xch }).scanOf
      127).exch ≠ none) ∧
    ((onScan 2 { exch := some xch }).raw Reg.prog_STATE 127 ≠ 3 ∧ ((onScan 2 { exch := some xch }).scanOf 127).exch = some xch ∧ ((onScan 2 { exch := some xch }).scanOf
      127).cycle = none ∧ xch.done = true) ∧
    ((onScan 2 {}).raw Reg.prog_STATE 127 = 2 ∧ (onScan 2 {}).raw Reg.prog_STATE 127 ≠ 1 ∧ ((onScan 1 { exch := some xch }).scanOf 127).exch ≠ none ∧
      (onScan 3 {}).raw Reg.prog_STATE 127 ≠ 2) ∧
    ((forceClamp (up.signal 262143).vtype (1 % 2 ^ (8 * vtSize (up.signal 262143).vtype))).2 = 0 ∧ (forceClamp (up.signal 262143).vtype (2 % 2 ^ (8 *
      vtSize (up.signal 262143).vtype))).2 ≠ 0) ∧
    ((up.signal 262143).forceEn = false ∧ (up.wh.signals.filter fun e => e.2.forceEn).length < 4096) := ⟨
  by decide +kernel,
  by decide +kernel,
  by decide +kernel,
  by decide +kernel,
  by decide +kernel,
  by decide +kernel,
  by decide +kernel,
  by decide +kernel⟩

/-- SCAN_EXCHANGE of a staged image is admitted, of one that is not staged refused. -/
theorem witness_ScanExchange_refused : ∃ r, (after up).admScan (after up).admView 127 0x50 true = .error r := error_of (by decide +kernel)

set_option maxRecDepth 1000000 in
theorem witness_ScanExchange_admitted : ∃ p, (after scanSite).admScan (after scanSite).admView 127 0x50 true = .ok p ∧
    (after scanSite).scanMap 127 0xFF {} p.1 = .ok [] := by
  obtain ⟨p, h⟩ := ok_of (x := (after scanSite).admScan (after scanSite).admView 127 0x50 true) (by decide +kernel)
  exact ⟨p, h, rfl⟩

/-- All 4,096 forces are in use. -/
def forces : State := { up with wh := { up.wh with signals := (List.range 4096).map fun n => (n, { forceEn := true }) } }

theorem witness_forces : (forces.signal 4096).forceEn = false ∧ 4096 ≤ (forces.wh.signals.filter fun e => e.2.forceEn).length := by
  decide +kernel

/-- A capture set entry of slice 127: base stream 0, one member, the staging given in MiB; the module with set 63 in force. -/
def capEnt (stage : Nat) : Bytes := [127, 1, 0, 0, 0, 0, 0, 0] ++ leBytes 4 0 ++ leBytes 2 stage ++ List.replicate 50 0
def capSt (x : CapSet) : State :=
  let s := stored up
  { s.wr Reg.cset_DIV_ACT 63 2 with cap := { s.cap with sets := [(63, x)] } }
def capOn (stage : Nat) : CapSet := { entry := capEnt stage, members := [2 * 2 ^ 18] }

/-- n such entries staged, with a signal the slice is granted or not. -/
def stagedSets (stage n rights : Nat) : State :=
  { ((stored up).fillDomain 0x040800 ((List.range n).flatMap fun _ => capEnt stage)).fillDomain 0x040801 (leBytes 4 (2 * 2 ^ 18)) with
    slices := [(127, { grants := [(0, { kind := rights, first := 0, count := 1, rights := 3 })] })] }
def liveOf (s : State) : List (Bytes × List Nat) := (s.newHandle (.manager 0)).2.stagedSets.1.filter fun x => !x.1.isEmpty
def checkedIn (s : State) : State := (((s.newHandle (.manager 0)).2).releaseDomain 0x040800).releaseDomain 0x040801
def refusalOf (s : State) : Option Nat := (liveOf s).findSome? fun x => (checkedIn s).setRefusal x.1 x.2

/-- The state in which set 63 takes tick a. -/
def ticking (s : State) (a : Nat) : State :=
  let x := s.cset 63
  s.advance (s.monoOf (a * entPeriod (s.strm (setBase x.entry)).entry + s.capDelay x))
def gooseFrame (b : Bytes) : SwFrame := { fr with bytes := beBytes 6 2 ++ beBytes 6 4 ++ beBytes 2 0x88B8 ++ List.replicate 8 0 ++ b }

/-- Operands that meet the hypotheses of each clause of CaptureAppliesTriggersAndRecords. -/
theorem witness_CaptureAppliesTriggersAndRecords :
    (refusalOf (stagedSets 1024 1 0) = some adNoGrant) ∧
    (refusalOf (stagedSets 1024 7 2) = none ∧ 6144 * 2 ^ 20 < ((liveOf (stagedSets 1024 7 2)).map fun x => setStage x.1).sum) ∧
    (refusalOf (stagedSets 1024 6 2) = none ∧ ((liveOf (stagedSets 1024 6 2)).map fun x => setStage x.1).sum ≤ 6144 * 2 ^ 20 ∧ (checkedIn (stagedSets
      1024 6 2)).admView.dram + ((liveOf (stagedSets 1024 6 2)).map fun x => (checkedIn (stagedSets 1024 6 2)).setTraffic x.1).sum ≤ 38400000000 * 95
      / 100) ∧
    (({ up with cap := { up.cap with plans := [{ at_ := 0, handle := 1, clamped := false, sets := [] }] } } : State).cap.plans = { at_ := 0, handle := 1, clamped := false, sets := [] }
      :: []) ∧
    (((capSt (capOn 16)).cset 63).on = true ∧ ((capSt (capOn 16)).cset 62).on = false ∧ (63 : Nat) < 64) ∧
    ((3 : Nat) < 4 ∧ ({ up with cap := { up.cap with drive := [(3, 5)] } } : State).cap.drive.any (fun d => d.1 = 3) = true ∧ up.cap.drive.any (fun d
      => d.1 = 3) = false ∧ ({ up with cap := { up.cap with drive := [(3, 5)] } } : State).cap.drive.find? (fun d => d.1 = 3) = some (3, 5)) ∧
    (∀ m ∈ [0, 16], ((capSt (capOn m)).cset 63).on = true ∧ (capSt (capOn m)).live (setBase ((capSt (capOn m)).cset 63).entry) = true ∧ (ticking
      (capSt (capOn m)) 6).wantDown 63 = false ∧ ((capSt (capOn m)).cset 63).step = none ∧ 6 % (capSt (capOn m)).raw Reg.cset_DIV_ACT 63 = 0) ∧
    (((capSt (capOn 16)).cset 63).rowFits (((ticking (capSt (capOn 16)) 6).capRow ((capSt (capOn 16)).cset 63) 6).length + 16) = true ∧ ((capSt (capOn
      0)).cset 63).rowFits (((ticking (capSt (capOn 0)) 6).capRow ((capSt (capOn 0)).cset 63) 6).length + 16) = false) ∧
    (((capSt { capOn 16 with buf := some { index := 0, len := 4096, gen := 0, at_ := 0, div := 1 } }).cset 63).buf = some { index := 0, len := 4096, gen := 0, at_ := 0, div := 1 }) ∧
    (((capSt { capOn 16 with lowSince := some 0 }).cset 63).lowSince = some 0 ∧ 1 < (capSt { capOn 16 with lowSince := some 0 }).raw Reg.cset_DIV_ACT
      63 ∧ ((capSt { capOn 16 with holdEnd := some 0 }).cset 63).holdEnd = some 0) ∧
    ((onNet up fun n => { n with toCapture := [fr] }).net.toCapture = fr :: [] ∧ gooseOf (gooseFrame [0x61, 6, 0x80, 1, 65, 0x85, 1, 7]).bytes
      (headersOf (gooseFrame [0x61, 6, 0x80, 1, 65, 0x85, 1, 7]).bytes) = some ([65], 7) ∧ gooseOf (gooseFrame []).bytes (headersOf (gooseFrame
      []).bytes) = none) := ⟨
  by decide +kernel,
  by decide +kernel,
  by decide +kernel,
  by decide +kernel,
  by decide +kernel,
  by decide +kernel,
  by decide +kernel,
  by decide +kernel,
  by decide +kernel,
  by decide +kernel,
  by decide +kernel⟩

/-- The converter in operation; request 7 with a source. -/
def onAdc (s : State) (f : Adc → Adc) : State := { s with adc := f s.adc }
def awake : State := up.wr Reg.adc_AWAKE 0 1
def src7 (k d : Nat) : State := ((awake.wr Reg.adcrq_SRC 7 k).wr Reg.adcrq_PERIOD 7 1000).wr Reg.adcrq_DELAY 7 d
def armed7 : State := onAdc (src7 5 0) fun a => { a with armed := [(7, 15, 9)] }
def waiting7 (c : Option AdcConv) : State := onAdc awake fun a => { a with
  waiting := [{ req := 7, chan := 15, due := 0, wake := false }, { req := 0, chan := 1, due := 0, wake := false }], conv := c }
def testing (k : Nat) : State := onAdc awake fun a => { a with test := some k }
def powered : State := (awake.wr Reg.adc_AUTO_PD 0 1)

/-- Operands that meet the hypotheses of each clause of ConversionsFollowTheirRequests. -/
theorem witness_ConversionsFollowTheirRequests :
    ((src7 1 0).adcSrc 7 = 1 ∧ (src7 1 0).timerTick 7 ((src7 1 0).taiOf (9000 * 1000 * 1000 - (src7 1 0).adcDelay 7)) = true ∧ (src7 1 0).adcDelay 7 ≤
      9000 * 1000 * 1000 ∧ (src7 1 0).mono ≤ 9000 * 1000 * 1000) ∧
    (armed7.adcSrc 7 ≠ 1 ∧ armed7.adc.armed.find? (fun a => a.1 = 7) = some (7, 15, 9)) ∧
    ((src7 6 0).adcSrc 7 = 6 ∧ (src7 6 0).adcDelay 7 = 0 ∧ (src7 6 65535).adcSrc 7 = 6 ∧ (src7 6 65535).adcDelay 7 ≠ 0 ∧ (src7 7 0).adcSrc 7 ≠ 6 ∧ (7
      : Nat) < 8) ∧
    ({ req := 0, chan := 1, due := 0, wake := false } ∈ (waiting7 none).adc.waiting ∧ (waiting7 none).adc.conv = none ∧ (waiting7 none).flag
      Reg.adc_AWAKE = true ∧ ∀ x, x ∈ (waiting7 none).adc.waiting → 0 < x.req ∨ x = { req := 0, chan := 1, due := 0, wake := false }) ∧
    ((waiting7 (some { req := 7, chan := 15, sampled := 0, late := true, wake := true })).adc.conv = some { req := 7, chan := 15, sampled := 0, late := true, wake := true }
      ∧ (7 : Nat) < 8 ∧ (15 : Nat) < 16 ∧ 65535 < 2 ^ 16) ∧
    (powered.flag Reg.adc_AUTO_PD = true ∧ powered.flag Reg.adc_AWAKE = true ∧ powered.adc.conv = none ∧ powered.adc.waiting = [] ∧ powered.adc.test =
      none ∧ (onAdc up fun a => { a with wakeAt := some 5 }).adc.wakeAt = some 5) ∧
    (2 ≤ 25 ∧ 25 < 26 ∧ (testing 25).adc.test = some 25 ∧ -64 ≤ toSigned 16 25664 - (((25 - 2) % 3 : Nat) * 25600 - 25600) ∧ toSigned 16 25664 - (((25
      - 2) % 3 : Nat) * 25600 - 25600) ≤ 64) ∧
    (awake.adc.armed.any (fun a => a.2.2 ≤ awake.mono + 3 * unitsUs) = false ∧ ∀ r, r < 8 → (awake.wr Reg.adcrq_SRC 0 2).adcSrc r ≠ 1) ∧
    (awake.flag Reg.pwr_DIE_HOT = false ∧ awake.pwr.safe = false ∧ (awake.wr Reg.pwr_FAN1_DUTY 0 0).rd Reg.pwr_FAN1_DUTY = 0 ∧ 0 < (awake.wr
      Reg.pwr_FAN1_DUTY 0 999).rd Reg.pwr_FAN1_DUTY ∧ (awake.wr Reg.pwr_FAN1_DUTY 0 999).rd Reg.pwr_FAN1_DUTY < 1000) := ⟨
  by decide +kernel,
  by decide +kernel,
  by decide +kernel,
  by decide +kernel,
  by decide +kernel,
  by decide +kernel,
  by decide +kernel,
  by decide +kernel,
  by decide +kernel⟩

/-- The Binnacle unlocked, with an ACTIVE key in a slot. -/
def keys (n : Nat) (k : KeySlot) : State := { (up.wr Reg.bnc_MEAS_COUNT 0 5).wr Reg.bnc_JSEL 0 0 with bnc := { up.bnc with slots := [(n, k)] } }
def active (kind usage : Nat) : KeySlot := { state := 1, kind := kind, usage := usage, key := [7] }

/-- HSS key 2 with leaves, used up, or none reserved; a reservation under way. -/
def hss (leaf next : Nat) (cs : List Commit) : State := { keys 2 (active 6 0x20) with
  bnc := { (keys 2 (active 6 0x20)).bnc with leaf := leaf, lmsNext := next, commits := cs } }

/-- Operands that meet the hypotheses of each clause of KeyOperationsAnswerOnlyWhatTheyMay. -/
theorem witness_KeyOperationsAnswerOnlyWhatTheyMay :
    ((([(.tagGen, .tagGen 7 0xFFF 0 16 [] []), (.tagChk, .tagChk 7 0xFFF 0 16 [] [] []), (.sign, .sign 7 0xFFF []), (.verify, .verify 7 0xFFF [] []),
      (.sealing, .sealOp 7 0xFFF [] [] []), (.opening, .openOp 7 0xFFF [] [] []), (.agree, .agree 7 0xFFF [] [] [])] : List (KeyOp × Instr)).find? fun
      p => p.1 = .agree) = some (.agree, .agree 7 0xFFF [] [] [])) ∧
    (up.permitted 7 .agree 0xFFF = false ∧ up.permitted 3 .tagGen 6 = true) ∧
    (up.keyFor 6 (KeyOp.usage .tagGen 3) = .error rsLocked) ∧
    ((keys 6 (active 3 0x18)).permitted 3 .tagGen 6 = true ∧ (keys 6 (active 3 0x18)).permitted 3 .tagChk 6 = true ∧ (keys 6 (active 3 0x18)).keyFor 6
      (KeyOp.usage .tagGen 3) = .ok [7] ∧ (keys 6 (active 3 0x18)).keyFor 6 (KeyOp.usage .tagChk 3) = .ok [7]) ∧
    ((keys 6 (active 3 0x18)).permitted 3 .sealing 6 = true ∧ (keys 6 (active 3 0x18)).keyFor 6 (KeyOp.usage .sealing 3) = .ok [7] ∧ (keys 6 (active 3
      0x18)).permitted 3 .opening 6 = true ∧ (keys 6 (active 3 0x18)).keyFor 6 (KeyOp.usage .opening 3) = .ok [7]) ∧
    ((keys 5 (active 3 0x18)).permitted 5 .verify 0x88 = true ∧ (keys 5 (active 3 0x18)).permitted 5 .verify 0x89 = true) ∧
    ((keys 4 (active 1 1)).permitted 2 .agree 4 = true ∧ (keys 4 (active 1 1)).keyFor 4 (KeyOp.usage .agree 2) = .ok [7] ∧ (keys 1 (active 4
      0x20)).permitted 2 .sign 1 = true ∧ (keys 1 (active 4 0x20)).keyFor 1 (KeyOp.usage .sign 2) = .ok [7]) ∧
    ((hss 3 4 []).permitted 6 .sign 2 = true ∧ (hss 3 4 []).keyFor 2 (KeyOp.usage .sign 6) = .ok [7] ∧ (hss 3 4 []).leafBar = false ∧ (hss 3 4
      []).bnc.leaf < (hss 3 4 []).bnc.lmsNext ∧ (hss 3 4 []).bnc.commits.any (fun c => c.what = 5) = false) ∧
    ((hss lmsLeaves (2 ^ 30) []).leafBar = true ∧ (hss 3 3 []).leafBar = false ∧ (hss 3 3 []).bnc.lmsNext ≤ (hss 3 3 []).bnc.leaf ∧ (hss 3 4 [{ what := 5 }]).bnc.commits.any
      (fun c => c.what = 5) = true) := ⟨
  by decide +kernel,
  by decide +kernel,
  of_error (by decide +kernel),
  ⟨by decide +kernel, by decide +kernel, of_ok (by decide +kernel), of_ok (by decide +kernel)⟩,
  ⟨by decide +kernel, of_ok (by decide +kernel), by decide +kernel, of_ok (by decide +kernel)⟩,
  by decide +kernel,
  ⟨by decide +kernel, of_ok (by decide +kernel), by decide +kernel, of_ok (by decide +kernel)⟩,
  ⟨by decide +kernel, of_ok (by decide +kernel), by decide +kernel, by decide +kernel, by decide +kernel⟩,
  by decide +kernel⟩

/-- The anchors verify. -/
theorem witness_anchor : (keys 5 (active 3 0x18)).keyFor 0x89 (KeyOp.usage .verify 5) = .ok Config.anchorHss := by
  simp [State.keyFor, State.slot, KeyOp.usage, useVerify, bit]
  decide

/-- The Binnacle unlocked with some slots and commits. -/
def bncOf (slots : Tbl KeySlot) (cs : List Commit) : State :=
  { keys 5 {} with bnc := { up.bnc with slots := slots, commits := cs, lmsNext := 4 } }
def changed (s : State) : State := (s.newHandle (.manager 0)).2
def genesisDone : State := (bncOf [] []).wr Reg.bnc_LS_STATE 0 1
def measured (n : Nat) : State := up.wr Reg.bnc_MEAS_COUNT 0 n

/-- An import record for slot 6 under parent 0. -/
def record6 : Bytes := kim1 ++ leBytes 2 1 ++ leBytes 2 6 ++ [2, 0, 0, 0, 0, 0, 0xFF, 0] ++ List.replicate 116 0 ++ leBytes 2 32 ++ List.replicate 54 0
def importing : State := (bncOf [(0, active 1 3), (3, active 5 0x80)] []).fillDomain 0x040902 record6
def importAsk : State := (changed importing).releaseDomain 0x040902

/-- Operands that meet the hypotheses of each clause of KeysAreMadeChangedAndLost. -/
theorem witness_KeysAreMadeChangedAndLost :
    ((changed up).keyChangeBar = some rsLocked ∧ (changed (bncOf [] [])).keyChangeBar = none ∧ (changed genesisDone).keyChangeBar = none ∧
      genesisDone.raw Reg.bnc_LS_STATE = 1 ∧ (bncOf [] []).raw Reg.bnc_LS_STATE ≠ 1 ∧ (bncOf [] []).bnc.commits.any (fun c => c.what = 4) = false) ∧
    (((changed up).releaseDomain 0x040902).importCheck ((changed up).domBytes 0x040902 0 188) = .error rsLocked) ∧
    ((changed up).changeBar = some rsLocked ∧ (changed (bncOf [] [])).changeBar = none) ∧
    (((bncOf [(4, active 1 1)] []).slot 4).state = 1 ∧ ((bncOf [(0xCF, active 8 0)] []).slot 0xCF).state = 1 ∧ 0xCF < 0xD0 ∧ ((bncOf [] []).slot
      0x87).state ≠ 2 ∧ (bncOf [] []).journalOpen = true) ∧
    ((changed (bncOf [(6, active 3 8)] [])).keyFor 6 useTagGen = .ok [7] ∧ (changed up).keyFor 6 useTagGen = .error rsLocked ∧ (changed up).keyFor 1
      useSign = .error rsLocked) ∧
    ((changed (bncOf [(1, active 4 0x20), (2, active 6 0x20)] [])).keyFor 1 useSign = .ok [7] ∧ (changed (bncOf [(1, active 4 0x20), (2, active 6
      0x20)] [])).keyFor 2 useSign = .ok [7] ∧ (changed (bncOf [(1, active 4 0x20), (2, active 6 0x20)] [])).leafBar = false ∧ (changed (bncOf [(1,
      active 4 0x20), (2, active 6 0x20)] [])).bnc.leaf < (changed (bncOf [(1, active 4 0x20), (2, active 6 0x20)] [])).bnc.lmsNext ∧ (changed (bncOf
      [(1, active 4 0x20), (2, active 6 0x20)] [])).bnc.commits.any (fun c => c.what = 5) = false) ∧
    (({ bncOf [] [{ what := 3 }] with bnc := { (bncOf [] [{ what := 3 }]).bnc with writing := true } } : State).bnc.commits = { what := 3 } :: [] ∧ ({ bncOf [] [{ what := 3 }] with bnc := { (bncOf [] [{ what := 3 }]).bnc with writing := true } }
      : State).bnc.writing = true) ∧
    ((up.wr Reg.bnc_TAMP_LOOP_EN 0 1).flag Reg.bnc_TAMP_LOOP_EN = true ∧ (measured 3).raw Reg.bnc_MEAS_COUNT < 4 ∧ (measured 4).raw Reg.bnc_MEAS_COUNT
      = 4 ∧ 5 ≤ (measured 5).raw Reg.bnc_MEAS_COUNT) := ⟨
  by decide +kernel,
  of_error (by decide +kernel),
  by decide +kernel,
  by decide +kernel,
  ⟨of_ok (by decide +kernel), of_error (by decide +kernel), of_error (by decide +kernel)⟩,
  ⟨of_ok (by decide +kernel), of_ok (by decide +kernel), by decide +kernel, by decide +kernel, by decide +kernel⟩,
  by decide +kernel,
  by decide +kernel⟩

/-- Where the opaque GCM of Config unwraps the key, an import is accepted: the premise of the clause of
KeysAreMadeChangedAndLost about it. -/
theorem witness_import (k : Bytes) (h : importKey [7] importAsk.ident.serial record6 = some k) :
    (changed importing).domBytes 0x040902 0 188 = record6 ∧ importAsk.importCheck record6 = .ok k := by
  refine ⟨by decide +kernel, ?_⟩
  have h0 : importAsk.changeBar = none := by decide +kernel
  have h1 : importFormOk record6 = true := by decide +kernel
  have h2 : ((importAsk.slot (le 6 2 record6)).state = 1 || importAsk.bnc.commits.any (fun c => c.what = 1 && c.slot = le 6 2 record6)) = false := by
    decide +kernel
  have h3 : importAsk.keyFor (le 12 2 record6) useWrap = .ok [7] := of_ok (by decide +kernel)
  have h4 : importAsk.keyFor 3 useAgree = .ok [7] := of_ok (by decide +kernel)
  simp only [State.importCheck, h0, h1, h2, h3, h4, h, Bool.not_true, Bool.false_eq_true, if_false]

/-- The module's power in a condition. -/
def onPwr (s : State) (f : Power → Power) : State := { s with pwr := f s.pwr }
def off : State := onPwr up fun p => { p with valid := false }
def holding : State := onPwr up fun p => { p with holdAt := some 5 }
def rising (d g : Nat) : State := onPwr up fun p => { p with good := 0xFFF - 2 ^ d, groups := g }
def downNow (late : Bytes) : State := { onPwr up fun p => { p with down := some 2 } with bnc := { up.bnc with digests := if late = [] then [] else [late] } }
def trialBoot : State := { up with upd := { up.upd with rec0 := some { trial := true, left := 2 } } }
def served (b : Bool) : State := onPwr up fun p => { p with settled := b }

/-- Operands that meet the hypotheses of each clause of SupplyResetsAndHoldup. -/
theorem witness_SupplyResetsAndHoldup :
    (off.pwr.valid = false ∧ off.pwr.thermal = none ∧ up.pwr.valid = true ∧ (onPwr off fun p => { p with thermal := some 9 }).pwr.thermal = some 9 ∧
      up.pwr.holdAt = none) ∧
    ((up.wr Reg.pwr_HOLD_OK 0 0).flag Reg.pwr_HOLD_OK = false ∧ (up.wr Reg.pwr_HOLD_OK 0 1).flag Reg.pwr_HOLD_OK = true ∧ (up.wr Reg.pwr_HOLD_OK 0
      1).pwr.holdAt = none ∧ holding.pwr.holdAt = some 5) ∧
    (∀ d ∈ [5, 8, 10, 11], (rising d 15).pwr.valid = true ∧ (rising d 15).domainOn d = true ∧ bit d (rising d 15).pwr.good = false ∧ (rising d
      15).pwr.safe = false) ∧
    (bit (8 - 5) (rising 8 15).pwr.groups = true ∧ 10 ≤ 11) ∧
    ((served false).wheelRuns = true ∧ (served false).pwr.settled = false ∧ trialBoot.wheelRuns = true ∧ trialBoot.pwr.settled = false ∧
      (trialBoot.fwRec.trial && trialBoot.fwRec.left = 2) = true ∧ (served true).pwr.settled = true ∧ (served true).pwr.started = false ∧ (served
      true).pwr.boot = none ∧ (served true).wheelRuns = true) ∧
    ((downNow [5]).pwr.down = some 2 ∧ ((downNow [5]).advance 0).imagesMatch = false ∧ ((downNow []).advance 0).imagesMatch = true ∧ (downNow
      []).pwr.lateTiles = [] ∧ (downNow []).upd.installing = none) ∧
    (bit 3 up.pwr.good = true ∧ up.isFenced .hostIf = false ∧ (up.wr Reg.hif_SPLIT 0 1).flag Reg.hif_SPLIT = true) ∧
    ((3 : Nat) < 4 ∧ up.isFenced (.portGroup 3) = false ∧ up.domainOn (5 + 3) = true ∧ bit 3 up.pwr.groups = false) ∧
    (up.flag Reg.pwr_DIE_HOT ≠ true ∧ up.flag Reg.pwr_VBAT_LOW ≠ true ∧ up.domainOn 1 = true) := ⟨
  by decide +kernel,
  by decide +kernel,
  by decide +kernel,
  by decide +kernel,
  by decide +kernel,
  by decide +kernel,
  by decide +kernel,
  by decide +kernel,
  by decide +kernel⟩

/-- The update in a condition: stage, record. -/
def onUpd (s : State) (f : Update → Update) : State := { s with upd := f s.upd }
def stage (n : Nat) (r : SlotRec) : State := onUpd (up.wr Reg.upd_STAGE 0 n) fun u => { u with rec0 := some r }
def trialing : State := stage 0 { trial := true, left := 1 }

/-- A package of one component, the Pilot, with an image of one byte. -/
def entry1 : Bytes := [1, 0, 0, 0] ++ leBytes 4 0 ++ leBytes 4 0 ++ leBytes 4 6144 ++ leBytes 4 1 ++ List.replicate 108 0
def head1 : Bytes := upm1 ++ leBytes 2 1 ++ leBytes 2 1 ++ leBytes 4 6145 ++ leBytes 4 6004 ++ leBytes 8 0 ++ leBytes 2 0x4201 ++ [0xFF, 0xFF]
  ++ List.replicate 36 0 ++ entry1
def pack1 : Bytes := head1 ++ List.replicate 5953 0
def packed : State :=
  let s := onUpd (stage 2 {}) fun u => { u with granules := (List.range 7).map fun k => (k, true) }
  s.setDomain 0x040A00 0 { bytes := ((List.range 192).zip head1).filter fun c => c.2 ≠ 0, len := 6145 }
def settingsImg : Bytes := sealed 24 ([0x53, 0x54, 0x47, 0x31] ++ leBytes 2 1 ++ leBytes 2 0 ++ leBytes 8 0 ++ leBytes 4 64 ++ leBytes 4 0 ++ List.replicate 40 0)
def settingsIn : State := up.fillDomain 0x040B00 settingsImg
def safeMode : State := onPwr up fun p => { p with safe := true }

/-- Operands that meet the hypotheses of each clause of UpdatesInstallActivateAndSettle. -/
theorem witness_UpdatesInstallActivateAndSettle :
    (trialing.inTrial = true ∧ trialing.pwr.holdAt = none ∧ (onPwr trialing fun p => { p with holdAt := some 5 }).pwr.holdAt ≠ none ∧ (stage 1
      {}).inTrial = false ∧ (stage 1 {}).raw Reg.upd_STAGE ≠ 2 ∧ (stage 2 {}).raw Reg.upd_STAGE = 2) ∧
    ((changed (stage 2 {})).checkPackage = .error (upPkgFormat, 0)) ∧
    ((stage 4 {}).raw Reg.upd_STAGE = 4 ∧ (stage 4 {}).fwRec.trial = false ∧ ¬ ((stage 4 {}).raw Reg.unit_UNIT_STATE = 4 ∧ (stage 4 {}).flag
      Reg.unit_PARTNER_SEEN = true) ∧ (stage 4 {}).pwr.holdAt = none ∧ (stage 3 {}).raw Reg.upd_STAGE ≠ 4) ∧
    ((stage 0 {}).inTrial = false ∧ (stage 0 {}).upd.installing = none ∧ (stage 0 {}).raw Reg.upd_STAGE = 0) ∧
    (readSettings ((changed up).image 0x040B00) = none ∧ readSettings ((changed settingsIn).image 0x040B00) = some (0, []) ∧ ((changed
      settingsIn).releaseDomain 0x040B00).readsFormat 0 = true) ∧
    ((onUpd up fun u => { u with installing := some 9 }).upd.installing = some 9 ∧ (onUpd up fun u => { u with installing := some 9 }).wheelRuns =
      true ∧ (onUpd up fun u => { u with installing := some 9 }).pwr.holdAt = none ∧ up.raw Reg.bnc_LS_STATE = 0) ∧
    (manEntries (changed packed).stagedMan = [entry1] ∧ entComp entry1 ≠ 0 ∧ entComp entry1 ≠ 2 ∧ trialing.fwRec.named 1 < 2) ∧
    ((stage 1 {}).raw Reg.upd_STAGE ≠ 0 ∧ (stage 1 {}).upd.installing = none ∧ (stage 1 {}).wheelRuns = true ∧ (onUpd up fun u => { u with dirty := some 0 }).upd.dirty
      ≠ none) ∧
    ((onPwr (trialing.wr Reg.pwr_MOD_STATE 0 1) fun p => { p with runSince := some 5 }).pwr.runSince = some 5 ∧ (trialing.wr Reg.upd_AUTO_CONFIRM_S 0
      60).raw Reg.upd_AUTO_CONFIRM_S ≠ 0 ∧ trialing.wheelRuns = true ∧ (trialing.wr Reg.pwr_MOD_STATE 0 1).raw Reg.pwr_MOD_STATE = 1 ∧ trialing.raw
      Reg.pwr_DOM_FENCED = 0) ∧
    (safeMode.pwr.safe = true ∧ manEntries (([] : Bytes).take (manLen [])) = [] ∧ manEntries (pack1.take (manLen pack1)) = [entry1] ∧ manFormOk
      (pack1.take (manLen pack1)) pack1.length = true ∧ entComp entry1 = 1) := ⟨
  by decide +kernel,
  of_error (by decide +kernel),
  by decide +kernel,
  by decide +kernel,
  by decide +kernel,
  by decide +kernel,
  by decide +kernel,
  by decide +kernel,
  by decide +kernel,
  by decide +kernel⟩

/-- Where the opaque signatures and digest of Config are good, the package passes its checks and verifies in a slot: the
premises of the two clauses of UpdatesInstallActivateAndSettle about them. -/
theorem witness_package (h1 : sigEcOk (changed packed).stagedMan = true) (h2 : sigHssOk (changed packed).stagedMan = true)
    (h3 : Config.sha384 [0#8] = entDigest entry1) :
    (changed packed).checkPackage = .ok (changed packed).stagedMan := by
  have b : manFormOk (changed packed).stagedMan (changed packed).stagedLen = true := by decide +kernel
  have c : le 24 2 (changed packed).stagedMan = 0x4201 := by decide +kernel
  have d : bit (changed packed).ident.variant (le 26 2 (changed packed).stagedMan) = true := by decide +kernel
  have e : manEntries (changed packed).stagedMan = [entry1] := by decide +kernel
  have f : (changed packed).domBytes 0x040A00 (entImgOff entry1) (entImgLen entry1) = [0#8] := by decide +kernel
  have i : decide (entSecVer entry1 < (changed packed).fwRec.min (entComp entry1)) = false := by decide +kernel
  have j : compatClash (changed packed).stagedMan [3, 4, 5, 2, 1] (changed packed).activeSet = none := by decide +kernel
  simp [State.checkPackage, b, c, d, e, f, i, j, h1, h2, h3]

/-- The same for a package sent to the recovery port, and the slot it goes to. -/
theorem witness_recovery (h1 : sigEcOk (pack1.take (manLen pack1)) = true) (h2 : sigHssOk (pack1.take (manLen pack1)) = true)
    (h3 : Config.sha384 [0#8] = entDigest entry1) :
    slotOk { man := pack1.take (manLen pack1), image := slice (entImgOff entry1) (entImgLen entry1) pack1 } 1 (safeMode.fwRec.min 1) = true := by
  have l : slice (entImgOff entry1) (entImgLen entry1) pack1 = [0#8] := by decide +kernel
  have m : (pack1.take (manLen pack1)).isEmpty = false := by decide +kernel
  have e : manEntries (pack1.take (manLen pack1)) = [entry1] := by decide +kernel
  have n : decide (entComp entry1 = 1) = true := by decide +kernel
  have o : decide (safeMode.fwRec.min 1 ≤ entSecVer entry1) = true := by decide +kernel
  simp [slotOk, manEntry, l, m, e, n, h1, h2, h3, o]

/-- Runtime Sounding; the Logbook in a condition. -/
def sounding : State := (up.wr Reg.snd_PHASE 0 1).wr Reg.snd_RT_EN 0 1
def onLog (s : State) (f : Logbook → Logbook) : State := { s with log := f s.log }
def rec0 : LogRec := { type := 1, source := 1, code := 1, stxState := 0, info := 0, opSec := 0, opMs := 0, pcyc := 0, tai := 0 }
def clear0 : LogClear := { scope := 1, firstSeq := 0, lastSeq := 0, count := 0, user := 0, handle := 1 }

/-- Operands that meet the hypotheses of each clause of SelfTestsAndTheLogbook. -/
theorem witness_SelfTestsAndTheLogbook :
    (sounding.soundingOn = true ∧ sounding.testable (.scanCore 7) = true ∧ Blk.scanCore 7 ≠ .tile 7 ∧ Blk.scanCore 7 ≠ .ocxo) ∧
    (sounding.testable (.tile 63) = true ∧ sounding.testable .ocxo = true) ∧
    (holding.pwr.holdAt ≠ none ∧ up.pwr.holdAt = none ∧ (onLog up fun l => { l with clear := some clear0 }).log.clear = some clear0 ∧ (onLog up fun l
      => { l with clear := some clear0 }).log.clear ≠ none ∧ up.log.clear = none) ∧
    ((onLog up fun l => { l with queue := [rec0] }).log.queue = rec0 :: [] ∧ (onLog up fun l => { l with queue := [rec0] }).logReady = true) ∧
    ((up.wr Reg.snd_SCRUB_EN 0 0).flag Reg.snd_SCRUB_EN = false ∧ (up.wr Reg.snd_SCRUB_EN 0 1).flag Reg.snd_SCRUB_EN = true) := ⟨
  by decide +kernel,
  by decide +kernel,
  by decide +kernel,
  by decide +kernel,
  by decide +kernel⟩

/-- One write waits, for the boundary of a predicate or for none. -/
def one : State := up.buffer Reg.log_RATE_MAX 0 7 0
def theWrite : Buffered := one.hif.shadow.headD { blk := 0, addr := 0, key := 0, wid := 0, reset := 0, bnd := .atOnce, owner := 0, val := 0, txn := none }

/-- Operands that meet the hypotheses of each clause of BoundariesApplyWhatWaits. -/
theorem witness_BoundariesApplyWhatWaits :
    (one.hif.shadow = [theWrite] ∧ theWrite.bnd ≠ .cfgRef ∧ one.held theWrite.blk = false ∧ theWrite.txn = none ∧ theWrite.key = Reg.log_RATE_MAX.key
      0 ∧ theWrite.key ≠ Reg.evt_PEND.key 0 ∧ theWrite.reset = Reg.log_RATE_MAX.reset ∧ theWrite.wid = Reg.log_RATE_MAX.wid ∧ Reg.log_RATE_MAX.wid ≤
      32 ∧ theWrite.val < 2 ^ Reg.log_RATE_MAX.wid) := by decide +kernel

/-- Operands at the ends of their ranges, in both kinds of unit; the words are those of the tables of R299, R305 and R434. -/
theorem witness_IsaWordsDecodeAndEncode :
    ((Instr.ldin 63 0x0A 0 2).wf = true ∧ isaWord (.ldin 63 0x0A 0 2) = some (63, 0xC8A00002) ∧ isaInstr 63 0xC8A00002 = some (.ldin 63 0x0A 0 2) ∧
      (191 : Nat) < 192 ∧ isaInstr 191 0xC8A00002 = none ∧ isaInstr 191 0xFC000000 = some (.endEval 191) ∧ isaInstr 0 0xFFFFFFFF = none) := by decide +kernel

/-- A state with 8 handshakes and 17 requests, and a command in front of it that would add a request. -/
theorem witness_EveryStepKeepsTheBounds :
    (State.Inv { queued 17 with wh := { up.wh with handshakes := List.replicate 8 { id := 1, ip := 0, switched := false, vlan := 0, fleet := 0, assigned := false, idle := 60, clientPub := [], clientNonce := [] } }, pending := [.admitStreams (.manager 0) false] }) := by unfold State.Inv; decide +kernel

/-! ### Well-formedness: a term that each check refuses, and terms at the ends of their ranges -/

/-- A message with all header fields in their widths. -/
def wfMsg : Msg :=
  { t := 0, ip := 0, switched := false, vlan := 0, cls := 0, size := 0, fragment := false, session := 0, seq := 0, fleet := 0,
    any := false, body := [] }

theorem test_wf_refuses_1 : ([
    .registerWrite { acc 0 with link := 2 } 0, .rcCounterRead { acc 0 with link := 2 }, .counter64Read { acc 0 with link := 2 },
    .xaccTimeout { acc 0 with link := 2 } false, .compatWrite { acc 0 with link := 2 } 0, .compatModeSwitch 2, .postedWriteLand 2,
    .cfgHoldWrite { acc 0 with link := 2 } 0, .cfgRefWrite { acc 0 with link := 2 } 0, .cfgCheckPass 19, .eventPendClear 128 none,
    .eventMaskWrite 128 false, .msixUnmask 2 0 none, .msixUnmask 0 3 none, .slcVecMaskWrite { acc 0 with link := 2 } 0,
    .slcVecPendClear { acc 0 with link := 2 } 0 0, .sampleBoundary 1024, .xingWaitExpiry 28 0, .xingWaitExpiry 0 28, .quadClockApply 16,
    .hello { wfMsg with cls := 8 }, .helloReply (2 ^ 32) 0, .auth { wfMsg with cls := 8 }, .authTimeout (2 ^ 32),
    .data { wfMsg with cls := 8 }, .close { wfMsg with cls := 8 }, .sessionIdleTimeout (2 ^ 32), .read .wheelhouse 0 [],
    .read (.manager 0) (2 ^ 16) [], .write .wheelhouse 0 [], .write (.manager 0) (2 ^ 16) [], .blockRead .wheelhouse 0 [],
    .blockWrite .wheelhouse 0 [], .execute .wheelhouse 0 [], .txnOpen .wheelhouse 0 [], .txnCommit .wheelhouse 0 [],
    .txnAbort .wheelhouse 0 [], .txnTimeout .wheelhouse, .subscribe (2 ^ 32) 0 [], .ack (2 ^ 32) 0, .ack 0 (2 ^ 32),
    .notifyResend (2 ^ 32) 0, .notifyResend 0 (2 ^ 32), .keepalive (2 ^ 32) 0 [], .mbxGo (.slice 128) false, .mbxGo (.session 0) false,
    .mbxAbort (.slice 128), .mbxAbort (.session 0), .timeLatchRead { acc 0 with link := 2 }, .syncRx 32 0 [], .followUpRx 32 0 [],
    .announceRx 32 0 [], .pdelayReqRx 32 0 [], .pdelayRespRx 32 0 [], .pdelayReqSend 32 0, .portFrameRx 32 0 [] false, .pauseRx 32 0 [],
    .pauseExpiry 32, .pauseRefresh 32, .sgmiiControlWord 32 false 0 false] : List Instr).all (fun i => !i.wf) = true := by decide +kernel

theorem test_wf_refuses_2 : ([
    .linkUp 32 0, .linkUp 0 4, .linkDown 32, .forwarding 32, .heldFrameExpiry 32, .flapHoldExpiry 32, .collision 32 0, .backoffExpiry 32,
    .quarantineExpiry 32, .lpReqWrite 32 false, .pauseImmuneWrite 32 0, .laneModeWrite 32 0 0, .laneModeWrite 0 8 0, .laneModeWrite 0 0 4,
    .maxFrameWrite 32 0, .groupPowerOff 4, .wakePattern 32 false, .groupPowerUp 4, .superFrameTx 36, .cagePresenceChange 4 false,
    .switchIngress 36, .egressSchedule 36 none, .txComplete 36, .starvePromote 36 0, .starvePromote 0 4, .proxyNodeAge (2 ^ 48),
    .lanSilentTimeout 8 false, .ringOpenTimeout 4, .reckonCheck 1024, .substituteDeclare 1024, .streamLostTimeout 1024,
    .sampleStoreEcc 1024 0 0, .sampleStoreEcc 0 0 (2 ^ 24), .apertureRead 2 0 0, .apertureRead 0 0x4000000 0, .filterChainWrite 8192 0 0,
    .filterChainWrite 0 16 0, .filterChainWrite 0 0 16, .evalStart 64 0, .add 192 0 0 0, .add 0 64 0 0, .add 0 0 64 0, .add 0 0 0 64,
    .sub 192 0 0 0, .sub 0 64 0 0, .sub 0 0 64 0, .sub 0 0 0 64, .mul 192 0 0 0, .and 192 0 0 0, .or 192 0 0 0, .xor 192 0 0 0,
    .shl 192 0 0 0, .shr 192 0 0 0, .sra 192 0 0 0, .slt 192 0 0 0, .addi 192 0 0 0, .addi 0 0 0 (2 ^ 14), .ori 192 0 0 0,
    .ori 0 0 0 (2 ^ 14), .lui 192 0 0] : List Instr).all (fun i => !i.wf) = true := by decide +kernel

theorem test_wf_refuses_3 : ([
    .lui 0 0 (2 ^ 20), .fadd 192 0 0 0 false, .fsub 192 0 0 0 false, .fmul 192 0 0 0 false, .fdiv 192 0 0 0 false, .fma 192 0 0 0 false,
    .fsqrt 192 0 0 false, .fminmax 192 0 0 0 false false, .fsgn 192 0 0 0 false 0, .fsgn 0 0 0 0 false 3, .fsgn 0 0 0 1 false 0,
    .fcmp 192 0 0 0 false 0, .fcmp 0 0 0 0 false 4, .fcvt 192 0 0 0, .fcvt 0 0 0 6, .fatan2 192 0 0 0 false, .fsincos 192 1 0 false,
    .fsincos 0 0 0 false, .fsincos 0 63 0 false, .vadd 192 0 0 0 false, .vadd 0 16 0 0 false, .vadd 0 0 16 0 false, .vadd 0 0 0 16 false,
    .vsub 192 0 0 0 false, .vsub 0 16 0 0 false, .vsub 0 0 16 0 false, .vsub 0 0 0 16 false, .vmul 192 0 0 0 false, .vfma 192 0 0 0 false,
    .vcmac 192 0 0 0 false, .vsum 192 0 0 false, .vsum 0 0 64 false, .vsplat 192 0 0 false, .vsplat 0 0 64 false, .vext 192 0 0 false 0,
    .vext 0 0 0 false 4, .vld 192 0 0 0, .vld 0 0 0 256, .vst 192 0 0 0, .vst 0 0 0 256, .ld 192 0 0 0 0 0, .ld 0 0 0 0 3 0,
    .ld 0 0 0 0 0 (2 ^ 24), .st 192 0 0 0, .ldin 64 0 0 0, .ldss 64 0 0 0, .ldssDataArrive 64 0 0, .ldssDataArrive 0 65536 0,
    .ldfl 64 0 0 0, .ldsg 192 0 0, .ldsg 0 0 (2 ^ 7), .out 192 0 0 0 0, .out 0 0 0 0 32, .out 0 1 0 0 0, .ldtm 192 0 0, .ldtm 0 0 6,
    .beq 192 0 0 0, .beq 0 0 0 (2 ^ 14), .bne 192 0 0 0, .bne 0 0 0 (2 ^ 14)] : List Instr).all (fun i => !i.wf) = true := by decide +kernel

theorem test_wf_refuses_4 : ([
    .blt 192 0 0 0, .bge 192 0 0 0, .jal 192 0 0, .jal 0 0 (2 ^ 20), .jalr 192 0 0 0, .endEval 192, .sfb 63 0 0 0, .sfb 64 0 0 (2 ^ 11),
    .illegal 192, .verdictReceive 64, .replay 64, .commitEvaluation 64, .gooseRepeat 4096, .evalLost 65536, .farFixComplete 65536,
    .farFixLate 65536, .tileFailure [64], .spareLoadDone 64, .fbDisable (.manager 0) 65536 0, .fbDisable (.manager 0) 0 (2 ^ 32),
    .fbEnable (.manager 0) 65536, .fbExchange (.manager 0) 256 0 0 0, .fbExchange (.manager 0) 0 256 0 0,
    .fbExchange (.manager 0) 0 0 256 0, .fbExchange (.manager 0) 0 0 0 256, .exchangeApply 65536, .tileMode (.manager 0) 64 false,
    .tileModeApply 64, .qclkWrite 16 0, .admitInstanceSet (.manager 0) 256 0 false false, .admitInstanceSet (.manager 0) 0 256 false false,
    .admitScanProgram (.manager 0) 256 0 false, .admitScanProgram (.manager 0) 0 256 false, .admitWithdrawSet (.manager 0) 256 0 false,
    .admitWithdrawSet (.manager 0) 0 256 false, .admitWithdrawScan (.manager 0) 256 false, .admitQuadClock (.manager 0) 256 0 false,
    .admitQuadClock (.manager 0) 0 256 false, .bind (.manager 0) 256, .unbind (.manager 0) 256, .reset (.manager 0) 256 false,
    .sliceResetDrained 128, .freeze (.manager 0) 256, .freezeDrained 128, .thaw (.manager 0) 256, .save (.manager 0) 256,
    .restore (.manager 0) 256, .rebind (.manager 0) 256, .sqTail 128 0 0, .sqTail 0 32 0, .sqTail 0 0 (2 ^ 17), .cqHead 128 0 0,
    .cqHead 0 32 0, .cqHead 0 0 (2 ^ 17), .descriptorFetch 128 0 (List.replicate 32 0), .descriptorFetch 0 0 [],
    .dmaReadCompletion 128 0 0 0 [], .dmaReadCompletion 0 0 (2 ^ 17) 0 [], .dmaReadCompletion 0 0 0 (2 ^ 16) [], .dmaError 128 0 0 0 1] : List Instr).all (fun i => !i.wf) = true := by decide +kernel

theorem test_wf_refuses_5 : ([
    .dmaError 0 0 (2 ^ 17) 0 1, .dmaError 0 0 0 (2 ^ 16) 1, .dmaError 0 0 0 0 3, .dmaTimeout 128 0 0 0, .sendComplete 128 0 0,
    .bobbinEnWrite 128 0 false, .shareWrite 6 0 0 0, .shareWrite 0 0 0 (2 ^ 32), .grantWrite 128 0 1 0 0, .grantWrite 0 256 1 0 0,
    .grantWrite 0 0 0 0 0, .grantWrite 0 0 5 0 0, .grantWrite 0 0 1 (2 ^ 32) 0, .grantWrite 0 0 1 0 (2 ^ 32), .scanLatch 128,
    .scanOverrun 128, .scanAbandon 128, .scanExchange (.manager 0) 128 0 0, .scanExchange (.manager 0) 0 256 0,
    .scanExchange (.manager 0) 0 0 256, .scanExchangeApply 128, .scanHold (.manager 0) 128, .scanRun (.manager 0) 128,
    .forceWrite (2 ^ 18) none 0 0, .forceWrite 0 none (2 ^ 64) 0, .capTrigger (.manager 0) 256, .captureTick 64 0, .triggerEdge 5 false 0,
    .xtrigPulseEnd 4, .captureFlushTimeout 64, .rateRestoreTimeout 64, .postTriggerHoldEnd 64, .adcRequestDue 8 0, .adcStart 8,
    .adcConversionDone 65536 0, .adcConversionDone 0 3, .adcResultRead { acc 0 with link := 2 }, .adcTestStep 26 none, .fanPeriodStart 2 0,
    .bncDelete (.manager 0) 65536, .bncInvalidate (.manager 0) 65536, .bncAttest (.manager 0) [], .tagGen 7 0 0 0 [] [],
    .tagChk 7 0 0 0 [] [] [], .sign 7 0 [], .verify 7 0 [] [], .sealOp 7 0 [] [] [], .openOp 7 0 [] [] [], .agree 7 0 [] [] [],
    .measurementExtend [], .tamper 0, .powerGood 0 0 [], .powerGood 12 0 [], .hostLinkTrained 2 0, .portGroupReset (.manager 0) 256,
    .hostLinkReset 2 0, .logClear (.manager 0) 256, .maxAmbientWrite 256, .programReloadComplete 64 0, .programReloadComplete 0 (2 ^ 32)] : List Instr).all (fun i => !i.wf) = true := by decide +kernel

theorem test_wf_refuses_6 : ([
    .firmwareRegionEccError (2 ^ 32)] : List Instr).all (fun i => !i.wf) = true := by decide +kernel

theorem test_wf_accepts_1 : ([
    .registerWrite (acc 0) 0, .rcCounterRead (acc 0), .counter64Read (acc 0), .xaccTimeout (acc 0) false, .compatWrite (acc 0) 0,
    .compatModeSwitch (2 - 1), .postedWriteLand (2 - 1), .cfgHoldWrite (acc 0) 0, .cfgRefWrite (acc 0) 0, .cfgCheckPass (19 - 1),
    .eventPendClear (128 - 1) none, .eventMaskWrite (128 - 1) false, .msixUnmask (2 - 1) (3 - 1) none, .slcVecMaskWrite (acc 0) 0,
    .slcVecPendClear (acc 0) 0 0, .sampleBoundary (1024 - 1), .xingWaitExpiry (28 - 1) (28 - 1), .quadClockApply (16 - 1), .hello wfMsg,
    .helloReply (2 ^ 32 - 1) 0, .auth wfMsg, .authTimeout (2 ^ 32 - 1), .data wfMsg, .close wfMsg, .sessionIdleTimeout (2 ^ 32 - 1),
    .read (.manager 0) (2 ^ 16 - 1) [], .write (.manager 0) (2 ^ 16 - 1) [], .blockRead (.manager 0) (2 ^ 16 - 1) [],
    .blockWrite (.manager 0) (2 ^ 16 - 1) [], .execute (.manager 0) (2 ^ 16 - 1) [], .txnOpen (.manager 0) (2 ^ 16 - 1) [],
    .txnCommit (.manager 0) (2 ^ 16 - 1) [], .txnAbort (.manager 0) (2 ^ 16 - 1) [], .txnTimeout (.manager 0),
    .subscribe (2 ^ 32 - 1) (2 ^ 16 - 1) [], .ack (2 ^ 32 - 1) (2 ^ 32 - 1), .notifyResend (2 ^ 32 - 1) (2 ^ 32 - 1),
    .keepalive (2 ^ 32 - 1) (2 ^ 16 - 1) [], .mbxGo (.manager 0) false, .mbxAbort (.manager 0), .timeLatchRead (acc 0),
    .syncRx (32 - 1) 0 [], .followUpRx (32 - 1) 0 [], .announceRx (32 - 1) 0 [], .pdelayReqRx (32 - 1) 0 [], .pdelayRespRx (32 - 1) 0 [],
    .pdelayReqSend (32 - 1) 0, .portFrameRx (32 - 1) 0 [] false, .pauseRx (32 - 1) 0 [], .pauseExpiry (32 - 1), .pauseRefresh (32 - 1),
    .sgmiiControlWord (32 - 1) false 0 false, .linkUp (32 - 1) (4 - 1), .linkDown (32 - 1), .forwarding (32 - 1),
    .heldFrameExpiry (32 - 1), .flapHoldExpiry (32 - 1), .collision (32 - 1) 0, .backoffExpiry (32 - 1), .quarantineExpiry (32 - 1)] : List Instr).all Instr.wf = true := by decide +kernel

theorem test_wf_accepts_2 : ([
    .lpReqWrite (32 - 1) false, .pauseImmuneWrite (32 - 1) 0, .laneModeWrite (32 - 1) (8 - 1) (4 - 1), .maxFrameWrite (32 - 1) 0,
    .groupPowerOff (4 - 1), .wakePattern (32 - 1) false, .groupPowerUp (4 - 1), .superFrameTx (36 - 1), .cagePresenceChange (4 - 1) false,
    .switchIngress (36 - 1), .egressSchedule (36 - 1) none, .txComplete (36 - 1), .starvePromote (36 - 1) (4 - 1),
    .proxyNodeAge (2 ^ 48 - 1), .lanSilentTimeout (8 - 1) false, .ringOpenTimeout (4 - 1), .reckonCheck (1024 - 1),
    .substituteDeclare (1024 - 1), .streamLostTimeout (1024 - 1), .sampleStoreEcc (1024 - 1) 0 (2 ^ 24 - 1),
    .apertureRead (2 - 1) (0x4000000 - 1) 0, .filterChainWrite (8192 - 1) (16 - 1) (16 - 1), .evalStart (64 - 1) 0,
    .add (192 - 1) (64 - 1) (64 - 1) (64 - 1), .sub (192 - 1) (64 - 1) (64 - 1) (64 - 1), .mul (192 - 1) (64 - 1) (64 - 1) (64 - 1),
    .and (192 - 1) (64 - 1) (64 - 1) (64 - 1), .or (192 - 1) (64 - 1) (64 - 1) (64 - 1), .xor (192 - 1) (64 - 1) (64 - 1) (64 - 1),
    .shl (192 - 1) (64 - 1) (64 - 1) (64 - 1), .shr (192 - 1) (64 - 1) (64 - 1) (64 - 1), .sra (192 - 1) (64 - 1) (64 - 1) (64 - 1),
    .slt (192 - 1) (64 - 1) (64 - 1) (64 - 1), .addi (192 - 1) (64 - 1) (64 - 1) (2 ^ 14 - 1),
    .ori (192 - 1) (64 - 1) (64 - 1) (2 ^ 14 - 1), .lui (192 - 1) (64 - 1) (2 ^ 20 - 1), .fadd (192 - 1) (64 - 1) (64 - 1) (64 - 1) false,
    .fsub (192 - 1) (64 - 1) (64 - 1) (64 - 1) false, .fmul (192 - 1) (64 - 1) (64 - 1) (64 - 1) false,
    .fdiv (192 - 1) (64 - 1) (64 - 1) (64 - 1) false, .fma (192 - 1) (64 - 1) (64 - 1) (64 - 1) false,
    .fsqrt (192 - 1) (64 - 1) (64 - 1) false, .fminmax (192 - 1) (64 - 1) (64 - 1) (64 - 1) false false,
    .fcmp (192 - 1) (64 - 1) (64 - 1) (64 - 1) false (4 - 1), .fcvt (192 - 1) (64 - 1) (64 - 1) (6 - 1),
    .fatan2 (192 - 1) (64 - 1) (64 - 1) (64 - 1) false, .fsincos (192 - 1) (63 - 1) (64 - 1) false,
    .vadd (192 - 1) (16 - 1) (16 - 1) (16 - 1) false, .vsub (192 - 1) (16 - 1) (16 - 1) (16 - 1) false,
    .vmul (192 - 1) (16 - 1) (16 - 1) (16 - 1) false, .vfma (192 - 1) (16 - 1) (16 - 1) (16 - 1) false,
    .vcmac (192 - 1) (16 - 1) (16 - 1) (16 - 1) false, .vsum (192 - 1) (16 - 1) (64 - 1) false, .vsplat (192 - 1) (16 - 1) (64 - 1) false,
    .vld (192 - 1) (16 - 1) (64 - 1) (256 - 1), .vst (192 - 1) (16 - 1) (64 - 1) (256 - 1),
    .ld (192 - 1) (64 - 1) (64 - 1) (2 ^ 14 - 1) (3 - 1) (2 ^ 24 - 1), .st (192 - 1) (64 - 1) (64 - 1) (2 ^ 14 - 1),
    .ldin (64 - 1) (64 - 1) (64 - 1) (2 ^ 14 - 1), .ldss (64 - 1) (64 - 1) (64 - 1) (2 ^ 14 - 1)] : List Instr).all Instr.wf = true := by decide +kernel

theorem test_wf_accepts_3 : ([
    .ldssDataArrive (64 - 1) (65536 - 1) 0, .ldfl (64 - 1) (64 - 1) (64 - 1) (2 ^ 14 - 1), .ldtm (192 - 1) (64 - 1) (6 - 1),
    .beq (192 - 1) (64 - 1) (64 - 1) (2 ^ 14 - 1), .bne (192 - 1) (64 - 1) (64 - 1) (2 ^ 14 - 1),
    .blt (192 - 1) (64 - 1) (64 - 1) (2 ^ 14 - 1), .bge (192 - 1) (64 - 1) (64 - 1) (2 ^ 14 - 1), .jal (192 - 1) (64 - 1) (2 ^ 20 - 1),
    .jalr (192 - 1) (64 - 1) (64 - 1) (2 ^ 14 - 1), .endEval (192 - 1), .sfb (192 - 1) (64 - 1) (64 - 1) (2 ^ 11 - 1), .illegal (192 - 1),
    .verdictReceive (64 - 1), .replay (64 - 1), .commitEvaluation (64 - 1), .gooseRepeat (4096 - 1), .evalLost (65536 - 1),
    .farFixComplete (65536 - 1), .farFixLate (65536 - 1), .tileFailure [], .spareLoadDone (64 - 1),
    .fbDisable (.manager 0) (65536 - 1) (2 ^ 32 - 1), .fbEnable (.manager 0) (65536 - 1),
    .fbExchange (.manager 0) (256 - 1) (256 - 1) (256 - 1) (256 - 1), .exchangeApply (65536 - 1), .tileMode (.manager 0) (64 - 1) false,
    .tileModeApply (64 - 1), .qclkWrite (16 - 1) 0, .admitInstanceSet (.manager 0) (256 - 1) (256 - 1) false false,
    .admitScanProgram (.manager 0) (256 - 1) (256 - 1) false, .admitWithdrawSet (.manager 0) (256 - 1) (256 - 1) false,
    .admitWithdrawScan (.manager 0) (256 - 1) false, .admitQuadClock (.manager 0) (256 - 1) (256 - 1) false, .bind (.manager 0) (256 - 1),
    .unbind (.manager 0) (256 - 1), .reset (.manager 0) (256 - 1) false, .sliceResetDrained (128 - 1), .freeze (.manager 0) (256 - 1),
    .freezeDrained (128 - 1), .thaw (.manager 0) (256 - 1), .save (.manager 0) (256 - 1), .restore (.manager 0) (256 - 1),
    .rebind (.manager 0) (256 - 1), .sqTail (128 - 1) (32 - 1) (2 ^ 17 - 1), .cqHead (128 - 1) (32 - 1) (2 ^ 17 - 1),
    .descriptorFetch (128 - 1) (32 - 1) (List.replicate 32 0), .dmaReadCompletion (128 - 1) (32 - 1) (2 ^ 17 - 1) (2 ^ 16 - 1) [],
    .dmaError (128 - 1) (32 - 1) (2 ^ 17 - 1) (2 ^ 16 - 1) 1, .dmaTimeout (128 - 1) (32 - 1) (2 ^ 17 - 1) (2 ^ 16 - 1),
    .sendComplete (128 - 1) (32 - 1) (2 ^ 17 - 1), .bobbinEnWrite (128 - 1) (32 - 1) false,
    .shareWrite (6 - 1) (128 - 1) (2 ^ 17 - 1) (2 ^ 32 - 1), .grantWrite (128 - 1) (256 - 1) (5 - 1) (2 ^ 32 - 1) (2 ^ 32 - 1),
    .scanLatch (128 - 1), .scanOverrun (128 - 1), .scanAbandon (128 - 1), .scanExchange (.manager 0) (128 - 1) (256 - 1) (256 - 1),
    .scanExchangeApply (128 - 1), .scanHold (.manager 0) (128 - 1), .scanRun (.manager 0) (128 - 1)] : List Instr).all Instr.wf = true := by decide +kernel

theorem test_wf_accepts_4 : ([
    .forceWrite (2 ^ 18 - 1) none (2 ^ 64 - 1) (2 ^ 32 - 1), .capTrigger (.manager 0) (256 - 1), .captureTick (64 - 1) 0,
    .triggerEdge (5 - 1) false 0, .xtrigPulseEnd (4 - 1), .captureFlushTimeout (64 - 1), .rateRestoreTimeout (64 - 1),
    .postTriggerHoldEnd (64 - 1), .adcRequestDue (8 - 1) 0, .adcStart (8 - 1), .adcConversionDone (65536 - 1) (3 - 1),
    .adcResultRead (acc 0), .adcTestStep (26 - 1) none, .fanPeriodStart (2 - 1) 0, .bncDelete (.manager 0) (65536 - 1),
    .bncInvalidate (.manager 0) (65536 - 1), .bncAttest (.manager 0) (List.replicate 32 0), .tagGen (7 - 1) (65536 - 1) 0 0 [] [],
    .tagChk (7 - 1) (65536 - 1) 0 0 [] [] [], .sign (7 - 1) (65536 - 1) [], .verify (7 - 1) (65536 - 1) [] [],
    .sealOp (7 - 1) (65536 - 1) [] [] [], .openOp (7 - 1) (65536 - 1) [] [] [], .agree (7 - 1) (65536 - 1) [] [] [],
    .measurementExtend (List.replicate 48 0), .tamper 1, .powerGood (12 - 1) 0 [], .hostLinkTrained (2 - 1) 0,
    .portGroupReset (.manager 0) (256 - 1), .hostLinkReset (2 - 1) 0, .logClear (.manager 0) (256 - 1), .maxAmbientWrite (256 - 1),
    .programReloadComplete (64 - 1) (2 ^ 32 - 1), .firmwareRegionEccError (2 ^ 32 - 1)] : List Instr).all Instr.wf = true := by decide +kernel

/-! ### The spec's worked examples -/

/-- The next state, or the state after reset. -/
def after1 (o : Host.Outcome State Fault Refusal) : State := match o with
  | .next s => s
  | _ => State.reset

/-- The words of the worked example of chapter 10 are read as its instructions. -/
def exampleWords : List (Option Instr) :=
  [isaInstr 24 0xC8A00002, isaInstr 24 0x64B28000, isaInstr 24 0x48C2C500, isaInstr 24 0x8C48C000, isaInstr 24 0xD8030D00,
    isaInstr 24 0xFC000000]

/-- 5,000 s written to the session idle timeout, as in the worked example of chapter 02. -/
def idleWrite : State := after1 (exec (.write (.session 1) 0x31 [0, 2, 2, 0, 7, 0, 2, 0x13, 0x88]) wheel)

/-- The first conversion of the worked example of chapter 16: request 0 on AIN2, whose result word had SEQ 0, above full scale. -/
def overScale : State := after1 (execAdcConversionDone 0x7FFF 1 ((onAdc awake fun a => { a with
  conv := some { req := 0, chan := 2, sampled := 13500, late := false, wake := false } })))

/-- The second: request 1 on AIN3, sampled 1.5 µs after the overrange result of 2.5 µs. -/
def settlingOne : State := after1 (execAdcConversionDone 16013 0 ((onAdc awake fun a => { a with
  ovrAt := some 22500, conv := some { req := 1, chan := 3, sampled := 36000, late := false, wake := false } })))

/-- The TON block of the worked example of chapter 14 after X: ET 249.5 ms kept, PT now 200 ms, IN and RUNNING at 1. -/
def tonAfter : SfbRec := sfbCall 1 1 250500000 { et := 249500000, pt := 200000000, last := 249500000, cv := 0, pv := 0, flags := 12 }

/-- Slice 42 of the worked example of chapter 13, bound with generation 0x0107. -/
def resetting : State :=
  let s := (up.wr Reg.slc_STATE 42 1).wr Reg.slc_GEN 42 0x0107
  after1 (exec (.reset (.block 0) 42 false) { s with wh := { s.wh with handleSeq := 0x0213 } })

theorem test_example_words : exampleWords = [some (.ldin 24 10 0 2), some (.fcvt 24 11 10 0), some (.fmul 24 12 11 5 false),
    some (.vfma 24 1 2 3 false), some (.out 24 0 12 13 0), some (.endEval 24)] := by decide +kernel

theorem test_clamped_write : idleWrite.wh.idleTimeout = 3600 ∧
    ((Tbl.look ({} : ClampEntry) idleWrite.wh.clamps 0).object, (Tbl.look ({} : ClampEntry) idleWrite.wh.clamps 0).written,
      (Tbl.look ({} : ClampEntry) idleWrite.wh.clamps 0).applied, (Tbl.look ({} : ClampEntry) idleWrite.wh.clamps 0).reason) =
      (0x00020200, 5000, 3600, 2) := by decide +kernel

theorem test_overrange_result : overScale.raw Reg.adcrq_REQ_RES 0 = 0x10217FFF ∧ overScale.raw Reg.adc_OVR_STICKY = 4 := by
  decide +kernel

theorem test_settling_result : settlingOne.raw Reg.adcrq_REQ_RES 1 = 0x11323E8D := by decide +kernel

theorem test_ton_exchange : tonAfter.et = 200000000 ∧ bit 0 tonAfter.flags = true := by decide +kernel

theorem test_slice_reset : resetting.raw Reg.slc_GEN 42 = 0x0108 ∧ resetting.raw Reg.slc_STATE 42 = 2 ∧
    resetting.raw Reg.cmdb_HANDLE 0 = 0xFF000213 := by decide +kernel

theorem test_handle : handleOf 42 0x0107 0xC5 = 0x2A0700C5 := by decide +kernel

theorem test_chain : chainM 1 2 = 8 ∧ chainD 1 2 = 125 := by decide +kernel

theorem test_slot_of_time : ({ up with stx := { up.stx with off := 1742000000 * 9000000000 + 1111111101 } } : State).slotNow = 70 + 54 := by
  decide +kernel

theorem test_msix_entry : msixAt 0x015DF0 = some (1503, 0) ∧ msixAt 0x01D050 = some (3333, 0) := by decide +kernel

theorem test_no_word_bits : decodeTableWord 32 0xFC000000 = none := by decide +kernel

theorem test_idle_step : step State.reset = .next State.reset := rfl

end Sys2Proof.Tests
end

section
/-!
WRITE inside an open transaction (R57–R59, R641): its limits and its staging.
-/

namespace Sys2Proof.Machine

/-! ### A request that is served -/

/-- A message of the owner moves the silence timer of its transaction alone, so a request keeps the same stamp. -/
@[simp] theorem State.request_touchTxn (s : State) (toucher src : Requester) (op reqId : Nat) (body : Bytes) :
    (s.touchTxn toucher).request src op reqId body = s.request src op reqId body := by
  cases src <;> rfl

theorem State.serveNow_of_canAsk {s : State} {src : Requester} (hrun : s.wheelRuns = true) (hask : s.canAsk src = true)
    (op reqId : Nat) (body : Bytes) :
    s.serveNow src op reqId body = (s.touchTxn src).serve ((s.touchTxn src).request src op reqId body) := by
  have hserved : (s.wheelRuns && s.canAsk src) = true := by rw [hrun, hask, Bool.and_self]
  rw [State.serveNow, if_pos hserved, State.request_touchTxn]

/-- A WRITE of a requester that may be served answers what `opWrite` finds. -/
theorem exec_write_of_canAsk {s : State} {src : Requester} (hrun : s.wheelRuns = true) (hask : s.canAsk src = true)
    (reqId : Nat) (body : Bytes) :
    exec (.write src reqId body) s =
      let z := (s.touchTxn src).opWrite ((s.touchTxn src).request src 2 reqId body)
      .next (z.2.2.respond ((s.touchTxn src).request src 2 reqId body) z.1 z.2.1) := by
  rw [exec_write, execWrite, State.serveNow_of_canAsk hrun hask]
  rfl

/-! ### Staging -/

/-- The limits of R59: one more write, of value `v`, goes beyond 1,024 writes or 65,536 bytes of staged values. -/
def Txn.FullFor (x : Txn) (v : Bytes) : Prop :=
  1024 < x.writes.length + 1 ∨ 65536 < (x.writes.map fun e => e.value.length).sum + v.length

/-- The state with a write staged in the transaction of `src`. -/
def State.stageWrite (s : State) (src : Requester) (one : Staged) : State :=
  let add := fun (y : Txn) => if y.owner = src then { y with writes := y.writes ++ [one] } else y
  { s with wh := { s.wh with txns := s.wh.txns.map add } }

/-- The guard of `opWrite` says that the transaction is full for the value. -/
theorem Txn.fullFor_iff (x : Txn) (v : Bytes) :
    x.FullFor v ↔ (1024 ≤ x.writes.length || 65536 < ((x.writes.map fun e => e.value.length).sum + v.length)) = true := by
  rw [Bool.or_eq_true, decide_eq_true_eq, decide_eq_true_eq]
  exact or_congr Nat.lt_succ_iff Iff.rfl

/-- The length check of `opWrite` passes a body that holds its head and as many bytes as the head says. -/
theorem not_badWriteLength {body : Bytes} (hlen : 7 ≤ body.length) (hval : (body.drop 7).length = be 5 2 body) :
    ¬ (body.length < 7 || (body.drop 7).length ≠ be 5 2 body) = true := by
  rw [Bool.or_eq_true, decide_eq_true_eq, decide_eq_true_eq]
  exact not_or.mpr ⟨Nat.not_lt.mpr hlen, not_not_intro hval⟩

section
variable {s : State} {r : Request} {o : Obj} {x : Txn} (hlen : 7 ≤ r.body.length)
  (hval : (r.body.drop 7).length = be 5 2 r.body)
  (hcheck : s.writeCheck r (be 0 3 r.body) (be 3 1 r.body) (be 4 1 r.body) (r.body.drop 7) = .ok o)
  (hfind : s.wh.txns.find? (fun x => x.owner = r.src && x.covers (be 0 3 r.body)) = some x)
include hlen hval hcheck hfind

theorem State.opWrite_of_fullFor (hfull : x.FullFor (r.body.drop 7)) : s.opWrite r = (stTXN_FULL, [], s) := by
  simp only [State.opWrite, if_neg (not_badWriteLength hlen hval), hcheck, hfind, if_pos (x.fullFor_iff _ |>.mp hfull)]

theorem State.opWrite_of_not_fullFor (hroom : ¬ x.FullFor (r.body.drop 7)) :
    s.opWrite r = (stOK, r.body,
      s.stageWrite r.src { index := be 0 3 r.body, sub := be 3 1 r.body, value := r.body.drop 7 }) := by
  simp only [State.opWrite, if_neg (not_badWriteLength hlen hval), hcheck, hfind,
    if_neg (mt (x.fullFor_iff _).mpr hroom), State.stageWrite]

end

end Sys2Proof.Machine

namespace Sys2Proof

open Sys2Proof.Machine

/-- Settles O13: the two outcomes of a WRITE that passes its checks and lies in the requester's transaction, by whether
the transaction is full for its value. -/
theorem transactionLimits : Obligations.TransactionLimits := by
  unfold Obligations.TransactionLimits
  intro s src reqId body o x hrun hask w r index v full hlen hval hcheck hfind one add
  have hexec := exec_write_of_canAsk hrun hask reqId body
  constructor
  · intro hfull
    rw [hexec, State.opWrite_of_fullFor (r := r) hlen hval hcheck hfind hfull]
  · intro hroom
    rw [hexec, State.opWrite_of_not_fullFor (r := r) hlen hval hcheck hfind hroom]
    rfl

end Sys2Proof
end

section
/-!
32-bit accesses of a host link (R90–R92, R97–R100): what reaches the island in native mode, and what an address without
a register does.
-/

namespace Sys2Proof.Machine

/-! ### An access that its link and its size let through -/

section
variable {s : State} {a : Access} (hlink : s.linkUp a.link = true) (hok : a.sizeOk = true)
include hlink hok

theorem State.hostWriteAccess_of_closedWindow (hclosed : s.windowOk a = false) (v : Nat) :
    s.hostWriteAccess a v = s.unmapped := by
  simp [State.hostWriteAccess, hlink, hok, hclosed]

theorem State.hostReadAccess_of_closedWindow (hclosed : s.windowOk a = false) :
    s.hostReadAccess a = s.unmapped.emit (.readData a.link a.addr 0) := by
  simp [State.hostReadAccess, hlink, hok, hclosed]

theorem State.hostWriteAccess_of_size4 (hopen : s.windowOk a = true) (hsize : a.size = 4) (v : Nat) :
    s.hostWriteAccess a v = s.write1 a a.addr 4 (v % 2 ^ 32) := by
  simp [State.hostWriteAccess, hlink, hok, hopen, hsize]

theorem State.hostReadAccess_of_size4 (hopen : s.windowOk a = true) (hsize : a.size = 4) :
    s.hostReadAccess a =
      (s.read1 a a.addr).2.emit (.readData a.link a.addr ((s.read1 a a.addr).1 % 2 ^ 32)) := by
  simp [State.hostReadAccess, hlink, hok, hopen, hsize]

end

/-! ### Native mode, with the island running -/

/-- Outside RZM-3200 mode no write is posted (R99). -/
theorem State.write1_of_native {s : State} {a : Access} {ad : Nat} (hnative : bit a.link s.hif.compat = false)
    (hreach : s.reach ad = true) (size v : Nat) : s.write1 a ad size v = s.land4 a ad size v := by
  simp [State.write1, hnative, hreach]

theorem State.landPosted_of_none {s : State} {link : Nat} (hposted : s.posted link = none) : s.landPosted link = s := by
  rw [State.landPosted, hposted]

/-- With no posted write to wait for and no status register to bring up, a read sees the state as it is (R97). -/
theorem State.read1_of_settled {s : State} {a : Access} {ad : Nat} (hposted : s.posted a.link = none)
    (hreach : s.reach ad = true) (hrefresh : s.refresh ad = s) :
    s.read1 a ad = (s.readLand a ad).2.adcRead ad (s.readLand a ad).1 := by
  simp only [State.read1, State.landPosted_of_none hposted, ite_self, hreach, hrefresh, if_true]

/-- Away from the result words and the latched time words, the supervision ADC leaves a read alone (R488). -/
theorem State.adcRead_of_noResult {s : State} {ad : Nat} (hchan : Reg.adcch_CH_RES.at? ad = none)
    (hreq : Reg.adcrq_REQ_RES.at? ad = none) (hlatch : Tbl.look none s.adc.latch ad = none) (v : Nat) :
    s.adcRead ad v = (v, s) := by
  simp [State.adcRead, hchan, hreq, hlatch]

/-! ### An address that holds no register, no mailbox and no MSI-X entry -/

section
variable {s : State} {ad : Nat} (hmail : mailboxOffset ad = none) (hmsix : msixAt ad = none)
  (hfields : Reg.fieldsAt ad = [])
include hmail hmsix hfields

/-- A write lands nowhere, in the read-only BNC_ area as outside it (R92). -/
theorem State.land4_of_noRegister (a : Access) (size v : Nat) : s.land4 a ad size v = s.unmapped := by
  simp only [State.land4, hmail, hmsix, hfields, ite_self]

theorem State.readLand_of_noRegister (hpba : ¬(0x21000 ≤ ad ∧ ad < 0x21210)) (hview : s.sliceView ad = none)
    (a : Access) : s.readLand a ad = (0, s.unmapped) := by
  simp only [State.readLand, hmail, hmsix, hfields, hview, if_neg hpba]

end

end Sys2Proof.Machine

namespace Sys2Proof

open Sys2Proof.Machine

/-- Settles O5: a closed window ends both accesses at the link; inside an open window a write lands nowhere, a read finds
0, and the count of HIF_UNMAPPED leaves the latched time words of the ADC as they were. -/
theorem unmappedAccessIsIgnored : Obligations.UnmappedAccessIsIgnored := by
  unfold Obligations.UnmappedAccessIsIgnored
  intro s a v hlink hok hsize hcase
  rw [exec_registerWrite, exec_rcCounterRead, execRegisterWrite, execRcCounterRead, ← State.unmapped]
  obtain hclosed | ⟨hopen, hnative, hreach, hposted, hrefresh, hview, hmail, hmsix, hpba, hfields, hchan, hreq, hlatch⟩ := hcase
  · rw [State.hostWriteAccess_of_closedWindow hlink hok hclosed, State.hostReadAccess_of_closedWindow hlink hok hclosed]
    exact ⟨rfl, rfl⟩
  · have hwrite : s.write1 a a.addr 4 (v % 2 ^ 32) = s.unmapped := by
      rw [State.write1_of_native hnative hreach, State.land4_of_noRegister hmail hmsix hfields]
    have hlatch' : Tbl.look none s.unmapped.adc.latch a.addr = none := by
      rw [State.unmapped, State.count_adc, hlatch]
    have hread : s.read1 a a.addr = (0, s.unmapped) := by
      rw [State.read1_of_settled hposted hreach hrefresh, State.readLand_of_noRegister hmail hmsix hfields hpba hview,
        State.adcRead_of_noResult hchan hreq hlatch']
    rw [State.hostWriteAccess_of_size4 hlink hok hopen hsize, State.hostReadAccess_of_size4 hlink hok hopen hsize, hwrite,
      hread]
    exact ⟨rfl, rfl⟩

end Sys2Proof
end

section
/-!
The correctionField of the PTP messages that a port passes on (R131–R133): what a one-step Sync, a Follow_Up and a
Pdelay_Resp have in common at their egress, and what a sum above the largest value does to it.
-/

namespace Sys2Proof.Machine

/-! ### A sum beyond the largest correctionField -/

/-- The sum would take the correctionField of the message in `bytes` above its largest value (R133). -/
def correctionPasses (bytes : Bytes) (sum : Int) : Prop :=
  (0x7FFFFFFFFFFFFFFF : Int) < toSigned 64 (be ((headersOf bytes).payload + 8) 8 bytes) + sum * 65536 / 9

/-- The message in `bytes` with the largest correctionField. -/
def fullCorrection (bytes : Bytes) : Bytes := putBe ((headersOf bytes).payload + 8) 8 0x7FFFFFFFFFFFFFFF bytes

theorem addCorrection_of_passes {bytes : Bytes} {sum : Int} (hover : correctionPasses bytes sum) :
    addCorrection bytes (headersOf bytes).payload sum = (fullCorrection bytes, true) := by
  have hovf : decide ((0x7FFFFFFFFFFFFFFF : Int) <
      toSigned 64 (be ((headersOf bytes).payload + 8) 8 bytes) + sum * 65536 / 9) = true := decide_eq_true hover
  rw [addCorrection, hovf]
  rfl

/-! ### The egress of a message that carries a sum -/

/-- A message leaves by port `q` with a sum added to its correctionField; an overflow is counted and reported. -/
def State.egressWithSum (s : State) (q : Nat) (bytes : Bytes) (sum : Int) : Bytes × State :=
  let z := addCorrection bytes (headersOf bytes).payload sum
  (z.1, if z.2 then (s.count Reg.stx_STX_TC_OVF).raise 45 0x0108 q else s)

theorem State.egressWithSum_of_passes {bytes : Bytes} {sum : Int} (hover : correctionPasses bytes sum) (s : State)
    (q : Nat) : s.egressWithSum q bytes sum =
      (fullCorrection bytes, (s.count Reg.stx_STX_TC_OVF).raise 45 0x0108 q) := by
  simp only [State.egressWithSum, addCorrection_of_passes hover, if_true]

section
variable {f : SwFrame} {m : PtpMark} (hptp : f.ptp = some m)
include hptp

/-- A one-step Sync carries its own sum (R131). -/
theorem State.ptpEgress_of_oneStepSync (hkind : m.kind = 0) (s : State) (q : Nat) (bytes : Bytes) :
    s.ptpEgress f q bytes =
      (s.count Reg.stx_STX_TC_CORR).egressWithSum q bytes (m.base + ((s.stampOut q : Int) - m.arrived)) := by
  simp only [State.ptpEgress, hptp, hkind]
  rfl

/-- A Follow_Up carries the sum that its Sync left in the record for the port, which the record then forgets (R132). -/
theorem State.ptpEgress_of_followUp {s : State} {q : Nat} {r : SyncRec} {x : Nat × Int} (hkind : m.kind = 2)
    (hrec : s.stx.syncRecs.find? (fun r => r.source = m.source ∧ r.seq = m.seq ∧ r.domain = m.domain) = some r)
    (hsum : r.sums.find? (fun x => x.1 = q) = some x) (bytes : Bytes) :
    s.ptpEgress f q bytes =
      ((s.updSync m fun r => { r with sums := r.sums.filter fun y => y.1 ≠ q }).count
        Reg.stx_STX_TC_CORR).egressWithSum q bytes x.2 := by
  simp only [State.ptpEgress, hptp, hkind, hrec, hsum]
  rfl

/-- A Pdelay_Resp carries its turnaround time, and STX_TC_CORR does not count it. -/
theorem State.ptpEgress_of_pdelayResp (hkind : m.kind = 4) (s : State) (q : Nat) (bytes : Bytes) :
    s.ptpEgress f q bytes = s.egressWithSum q bytes (m.base + ((s.stampOut q : Int) - m.arrived)) := by
  simp only [State.ptpEgress, hptp, hkind]
  rfl

end

end Sys2Proof.Machine

namespace Sys2Proof

open Sys2Proof.Machine

/-- Settles O23: each of the three messages adds its sum in the one way, and a sum that passes the largest value writes
that value, counts STX_TC_OVF and raises source 45. -/
theorem correctionFieldSaturates : Obligations.CorrectionFieldSaturates := by
  unfold Obligations.CorrectionFieldSaturates
  intro s f m q bytes _ hptp o over_ full sum
  refine ⟨?sync, ?followUp, ?pdelayResp⟩
  case sync =>
    intro hkind hover
    rw [State.ptpEgress_of_oneStepSync hptp hkind]
    exact State.egressWithSum_of_passes hover _ q
  case followUp =>
    intro r x hkind hrec hsum hover
    rw [State.ptpEgress_of_followUp hptp hkind hrec hsum]
    exact State.egressWithSum_of_passes hover _ q
  case pdelayResp =>
    intro hkind hover
    rw [State.ptpEgress_of_pdelayResp hptp hkind]
    exact State.egressWithSum_of_passes hover s q

end Sys2Proof
end

section
/-!
SET_TIME (R143): the step that it plans, by the state of the Sextant.
-/

namespace Sys2Proof.Machine

/-- The seconds of STX_SET_SEC. -/
def State.setSeconds (s : State) : Nat :=
  s.raw Reg.stx_STX_SET_SEC_LO + s.raw Reg.stx_STX_SET_SEC_HI * 2 ^ 32

/-- The time to set, of STX_SET_SEC and STX_SET_NS. -/
def State.setInstant (s : State) : Nat := s.setSeconds * unitsSec + s.rd Reg.stx_STX_SET_NS * unitsNs

/-- A step that SET_TIME leaves for the next hyperperiod boundary (R140). -/
def State.planSetStep (s : State) (d : Int) : State :=
  { s with stx := { s.stx with step := some d, secondsSet := true } }

theorem execSetTime_of_freerun {s : State} (hst : s.raw Reg.stx_STATE = 0) :
    execSetTime s = .next (s.planSetStep (s.setInstant - s.tai)) := by
  rw [execSetTime, hst]
  rfl

theorem execSetTime_of_pps {s : State} (hst : s.raw Reg.stx_STATE = 5) :
    execSetTime s = .next (s.planSetStep ((s.setSeconds - (s.tai / unitsSec : Nat)) * unitsSec)) := by
  rw [execSetTime, hst]
  rfl

theorem execSetTime_of_otherState {s : State} (hfree : s.raw Reg.stx_STATE ≠ 0) (hpps : s.raw Reg.stx_STATE ≠ 5) :
    execSetTime s = .next (s.count Reg.stx_STX_SET_IGNORED) := by
  rw [execSetTime]
  split
  next hst => exact absurd hst hfree
  next hst => exact absurd hst hpps
  next => rfl

end Sys2Proof.Machine

namespace Sys2Proof

open Sys2Proof.Machine

/-- Settles O16: the planned step is the distance to the set time in FREERUN, that between the seconds in PPS, and in
every other state there is none. -/
theorem setTimeStepsInFreerunAndPps : Obligations.SetTimeStepsInFreerunAndPps := by
  unfold Obligations.SetTimeStepsInFreerunAndPps
  intro s sec st
  rw [exec_setTime]
  refine ⟨?freerun, ?pps, ?other⟩
  case freerun =>
    intro hst
    exact ⟨s.setInstant - s.tai, execSetTime_of_freerun hst,
      (Int.add_comm _ _).trans (Int.sub_add_cancel (s.setInstant : Int) s.tai)⟩
  case pps =>
    intro hst
    exact ⟨s.setSeconds - (s.tai / unitsSec : Nat), execSetTime_of_pps hst,
      (Int.add_comm _ _).trans (Int.sub_add_cancel (s.setSeconds : Int) (s.tai / unitsSec : Nat))⟩
  case other => exact execSetTime_of_otherState

end Sys2Proof
end

section
/-!
STEP_MAX (R308): what an instruction of a tile's evaluation does beyond the limit of charged cycles and within it.
-/

namespace Sys2Proof.Machine

/-! ### What a tile executes -/

theorem isScan_of_tile {u : Nat} (htile : u < 64) : isScan u = false :=
  decide_eq_false (Nat.not_le.mpr htile)

theorem State.unitFault_of_tile {u : Nat} (htile : u < 64) (s : State) (cause : Nat) :
    s.unitFault u cause = s.evalFault u cause := by
  simp [State.unitFault, isScan_of_tile htile]

section
variable {s : State} {u : Nat} {e : Eval} (htile : u < 64) (hcur : s.curEval u = some e)
include htile hcur

theorem State.unitCtx_of_curEval (hwait : e.wait = none) : s.unitCtx u = some e.ctx := by
  simp [State.unitCtx, isScan_of_tile htile, hcur, hwait]

theorem State.unitCode_of_curEval : s.unitCode u = (s.inst e.inst).prog.code := by
  simp [State.unitCode, isScan_of_tile htile, hcur]

theorem State.setCtx_of_curEval (c : Ctx) : s.setCtx u c = s.putEval u { e with ctx := c } := by
  simp [State.setCtx, isScan_of_tile htile, hcur]

theorem State.overrun_of_curEval (cycles : Nat) :
    s.overrun u cycles = (s, decide ((s.inst e.inst).prog.stepMax < cycles)) := by
  simp [State.overrun, isScan_of_tile htile, hcur]

end

/-! ### An instruction at its unit's pc -/

/-- The integer operations of three operands, within the limit of cycles. -/
theorem State.intOp_of_atWord {s t : State} {u op rd ra rb : Nat} {c : Ctx}
    (hat : s.atWord u (encR op rd ra rb 0) 1 c t) (f : Nat → Nat → Nat) :
    s.intOp u op rd ra rb f =
      t.setCtx u (intResult rd (f (c.s ra % 2 ^ 32) (c.s rb % 2 ^ 32)) (c.stepped 1)) := by
  obtain ⟨hctx, hword, hover⟩ := hat
  rw [State.intOp, State.runCtx, State.runOp_eq s t u _ 1 c _ hctx hword hover]
  rfl

/-- The sum of two 32-bit operands, sign-extended, is that of bit vectors. -/
theorem sext32_add (a b : Nat) :
    sext32 (a % 2 ^ 32 + b % 2 ^ 32) = ((BitVec.ofNat 32 a + BitVec.ofNat 32 b).signExtend 64).toNat := by
  have hsum : BitVec.ofNat 32 (a % 2 ^ 32 + b % 2 ^ 32) = BitVec.ofNat 32 a + BitVec.ofNat 32 b := by
    apply BitVec.eq_of_toNat_eq
    simp
  rw [sext32_eq, hsum]

theorem execAdd_of_atWord {s t : State} {u rd ra rb : Nat} {c : Ctx} (hat : s.atWord u (encR 0x01 rd ra rb 0) 1 c t) :
    execAdd u rd ra rb s = .next (t.setCtx u ((c.stepped 1).setS rd
      ((BitVec.ofNat 32 (c.s ra) + BitVec.ofNat 32 (c.s rb)).signExtend 64).toNat)) := by
  rw [execAdd, State.intOp_of_atWord hat, intResult, sext32_add]

theorem execEndEval_of_limit {s t : State} {u : Nat} {c : Ctx} (hctx : s.unitCtx u = some c)
    (hword : wordAt (s.unitCode u) c.pc = some (0x3F * 2 ^ 26)) (hover : s.overrun u (c.cycles + 1) = (t, true)) :
    execEndEval u s = .next (t.unitFault u 6) := by
  simp [execEndEval, hctx, hword, hover]

/-- An END on a tile within the limit: the cycle of END itself counts, and the evaluation ends. -/
theorem execEndEval_of_atWord {s t : State} {u : Nat} {c : Ctx} {d : Eval} (htile : u < 64)
    (hat : s.atWord u (0x3F * 2 ^ 26) 1 c t)
    (hcur : (t.setCtx u { c with cycles := c.cycles + 1 }).curEval u = some d) :
    execEndEval u s = .next ((t.setCtx u { c with cycles := c.cycles + 1 }).evalEnd u d) := by
  obtain ⟨hctx, hword, hover⟩ := hat
  simp [execEndEval, hctx, hword, hover, isScan_of_tile htile, hcur]

/-! ### STEP_MAX of a tile -/

section
variable {s : State} {u word cost : Nat} {e : Eval} (htile : u < 64) (hcur : s.curEval u = some e)
  (hwait : e.wait = none) (hword : wordAt (s.inst e.inst).prog.code e.ctx.pc = some word)
include htile hcur

theorem State.overrun_of_overStepMax {cycles : Nat} (hover : (s.inst e.inst).prog.stepMax < cycles) :
    s.overrun u cycles = (s, true) := by
  rw [State.overrun_of_curEval htile hcur, decide_eq_true hover]

include hword

theorem State.unitCode_word : wordAt (s.unitCode u) e.ctx.pc = some word := by
  rw [State.unitCode_of_curEval htile hcur, hword]

include hwait

/-- Within STEP_MAX an evaluation's instruction runs, and charging it changes no state by itself. -/
theorem State.atWord_of_curEval (hmax : e.ctx.cycles + cost ≤ (s.inst e.inst).prog.stepMax) :
    s.atWord u word cost e.ctx s := by
  have hwithin : s.overrun u (e.ctx.cycles + cost) = (s, false) := by
    rw [State.overrun_of_curEval htile hcur, decide_eq_false (Nat.not_lt.mpr hmax)]
  exact ⟨State.unitCtx_of_curEval htile hcur hwait, State.unitCode_word htile hcur hword, hwithin⟩

theorem State.runOp_of_overStepMax (hover : (s.inst e.inst).prog.stepMax < e.ctx.cycles + cost)
    (f : State → Ctx → Except Nat (Ctx × State)) : s.runOp u word cost f = s.evalFault u 6 := by
  rw [State.runOp_limit s s u word cost e.ctx f (State.unitCtx_of_curEval htile hcur hwait)
    (State.unitCode_word htile hcur hword) (State.overrun_of_overStepMax htile hcur hover), State.unitFault_of_tile htile]

end

section
variable {s : State} {u : Nat} {e : Eval} (htile : u < 64) (hcur : s.curEval u = some e) (hwait : e.wait = none)
include htile hcur hwait

theorem execAdd_of_overStepMax {rd ra rb : Nat}
    (hword : wordAt (s.inst e.inst).prog.code e.ctx.pc = some (encR 0x01 rd ra rb 0))
    (hover : (s.inst e.inst).prog.stepMax < e.ctx.cycles + 1) : execAdd u rd ra rb s = .next (s.evalFault u 6) := by
  rw [execAdd, State.intOp, State.runCtx, State.runOp_of_overStepMax htile hcur hwait hword hover]

theorem execAdd_of_withinStepMax {rd ra rb : Nat}
    (hword : wordAt (s.inst e.inst).prog.code e.ctx.pc = some (encR 0x01 rd ra rb 0))
    (hmax : e.ctx.cycles + 1 ≤ (s.inst e.inst).prog.stepMax) :
    execAdd u rd ra rb s = .next (s.putEval u { e with
      ctx := (e.ctx.stepped 1).setS rd
        ((BitVec.ofNat 32 (e.ctx.s ra) + BitVec.ofNat 32 (e.ctx.s rb)).signExtend 64).toNat }) := by
  rw [execAdd_of_atWord (State.atWord_of_curEval htile hcur hwait hword hmax), State.setCtx_of_curEval htile hcur]

theorem execEndEval_of_overStepMax (hword : wordAt (s.inst e.inst).prog.code e.ctx.pc = some (0x3F * 2 ^ 26))
    (hover : (s.inst e.inst).prog.stepMax < e.ctx.cycles + 1) : execEndEval u s = .next (s.evalFault u 6) := by
  rw [execEndEval_of_limit (State.unitCtx_of_curEval htile hcur hwait) (State.unitCode_word htile hcur hword)
    (State.overrun_of_overStepMax htile hcur hover), State.unitFault_of_tile htile]

theorem execEndEval_of_withinStepMax (hword : wordAt (s.inst e.inst).prog.code e.ctx.pc = some (0x3F * 2 ^ 26))
    (hmax : e.ctx.cycles + 1 ≤ (s.inst e.inst).prog.stepMax) {d : Eval}
    (hend : (s.putEval u { e with ctx := { e.ctx with cycles := e.ctx.cycles + 1 } }).curEval u = some d) :
    execEndEval u s = .next ((s.putEval u { e with ctx := { e.ctx with cycles := e.ctx.cycles + 1 } }).evalEnd u d) := by
  rw [← State.setCtx_of_curEval htile hcur] at hend ⊢
  exact execEndEval_of_atWord htile (State.atWord_of_curEval htile hcur hwait hword hmax) hend

end

end Sys2Proof.Machine

namespace Sys2Proof

open Sys2Proof.Machine

/-- Settles O38: the limit of a tile compares the cycles charged, those of the instruction included, with STEP_MAX, and
only beyond it does the instruction fault with cause 6; so an END that reaches STEP_MAX still ends its evaluation. -/
theorem stepLimitFaults : Obligations.StepLimitFaults := by
  unfold Obligations.StepLimitFaults
  intro s u rd ra rb word cost e f htile hcur hwait max at_
  rw [exec_add, exec_endEval]
  refine ⟨?add, ?anyCost, ?endEval⟩
  case add =>
    intro hword
    exact ⟨execAdd_of_overStepMax htile hcur hwait hword, execAdd_of_withinStepMax htile hcur hwait hword⟩
  case anyCost =>
    intro hword hover
    exact State.runOp_of_overStepMax htile hcur hwait hword hover f
  case endEval =>
    intro hword
    exact ⟨execEndEval_of_overStepMax htile hcur hwait hword,
      fun hmax _ hend => execEndEval_of_withinStepMax htile hcur hwait hword hmax hend⟩

end Sys2Proof
end
